-- ==== Sys2Proof/Word.lean ====
section
/-! DEFINITION. The word types of the KC-4120 and their plainest arithmetic: the byte of the port and room-loop
frames, the 16-bit port word, division rounding toward zero and the two-sided clamp (00_scope.md, Conventions). -/

namespace Sys2Proof

/-- A byte of a port frame or of a room-loop frame. -/
abbrev Byte := BitVec 8

/-- A 16-bit port word (00_scope.md, "Port data"). -/
abbrev Word := BitVec 16

/-- Integer division rounding toward zero (00_scope.md, "Arithmetic"). -/
def divz (a b : Int) : Int := Int.tdiv a b

/-- A clamp with both its lower and its upper bound (00_scope.md, "Arithmetic"). -/
def clampInt (lo hi x : Int) : Int := max lo (min hi x)

/-- A clamp on counts. -/
def clampNat (lo hi x : Nat) : Nat := max lo (min hi x)

end Sys2Proof
end

