-- ==== Sys2Proof/Syntax.lean ====
section
/-! DEFINITION. The commands of the KC-4120: one constructor of `Instr` for each row of spec/opcode_table.json, with
the operands the row's rule gives it, and the small types those operands are made of. -/

namespace Sys2Proof

/-- The two ports of the port unit (08, introduction). -/
inductive Port where
  | control | service
  deriving DecidableEq, Repr

/-- The seven NTC channels in channel order (01 §1.1). -/
inductive NtcChannel where
  | flowA | flowB | ret | dhwOut | dhwIn | flue | outdoor
  deriving DecidableEq, Repr

/-- One item for each NTC channel. -/
structure NtcSet (α : Type) where
  flowA : α
  flowB : α
  ret : α
  dhwOut : α
  dhwIn : α
  flue : α
  outdoor : α
  deriving DecidableEq, Repr

/-- The two kinds of bad conversion: low shows an open circuit, high a short circuit (R1). -/
inductive BadKind where
  | low | high
  deriving DecidableEq, Repr

/-- The three trip lines (05 §5.3). -/
inductive TripLine where
  | limit | cond | ext
  deriving DecidableEq, Repr

/-- The eight output channels in the order of the STATUS space (05 §5.1). -/
inductive Channel where
  | fan | pump | spark | gv1 | gv2 | diverter | zone1 | zone2
  deriving DecidableEq, Repr

/-- The two gas valve channels. -/
inductive GasValve where
  | gv1 | gv2
  deriving DecidableEq, Repr

/-- The four room slots (07 §7.4). -/
inductive RoomSlot where
  | slot1 | slot2 | slot3 | slot4
  deriving DecidableEq, Repr

/-- The six counters of a port, in the order of the PORT space (R172). -/
inductive PortCounter where
  | frames | badFrames | badCommands | denied | writeErrors | overruns
  deriving DecidableEq, Repr

/-- Where a port command starts: at the word address that follows its command word, or at the port's access pointer
for the space (R161). -/
inductive Start where
  | pointer
  | address (a : Word)
  deriving DecidableEq, Repr

/-- One command of a port frame (08 §8.3): its space, where it starts, whether the pointer moves on, and either the
number of words to read or the data words to write. -/
structure PortCommand where
  space : BitVec 3
  start : Start
  step : Bool
  body : Nat ⊕ List Word
  deriving DecidableEq, Repr

/-- The commands of the block: spec/opcode_table.json, row by row. The rule each follows is named beside it. -/
inductive Instr where
  | powerOnReset                                                     -- R66
  | pinReset                                                         -- R66
  | startupReadsComplete                                             -- R175
  | softResetEffect                                                  -- R178
  /-- R1: the reading of each channel in 0.1 °C, and the level on POL/OUT in ‰ of the supply (R6). -/
  | ntcConversionCycle (readings : NtcSet Int) (polOut : Nat)
  /-- R3: the channel and the kind of the bad run that reaches 3. -/
  | channelOpenOrShort (ch : NtcChannel) (kind : BadKind)
  | flowPairCountExpiry                                              -- R9
  | noCirculationCountExpiry                                         -- R11
  | b09TimerExpiry                                                   -- R11
  /-- R13: the voltage on PRES in mV. -/
  | pressureReading (mv : Nat)
  /-- R15: the measured current in 0.1 µA. -/
  | ionisationSample (current : Nat)
  | flameProved                                                      -- R82
  | flameLost                                                        -- R86
  | weakFlameBlockEnd                                                -- R17
  /-- R18: the scan samples of each input in the gate that ends, oldest first. -/
  | pulseGateEnd (turbine tacho : List Bool)
  | a08GoodGateCount                                                 -- R21
  | tapStart                                                         -- R28
  | tapStop                                                          -- R28
  | antiCycleTimerExpiry                                             -- R38
  | serviceEntryExpiry                                               -- R26
  | keepwarmSpacingTimerExpiry                                       -- R30
  | keepwarmBurnTimeLimit                                            -- R31
  | pumpOverrunTimerExpiry                                           -- R42
  | diverterMoveEnd                                                  -- R44
  | chComputation                                                    -- R55
  | preCheckTimerExpiry                                              -- R76
  | prePurgeTimeReached                                              -- R78
  | fanProvingTimeout                                                -- R78
  | ignitionSpeedRunReached                                          -- R79
  | safetyTimeExpiry                                                 -- R83
  | stabilisationTimeExpiry                                          -- R84
  | interPurgeTimeReached                                            -- R85
  | outOfBandRunTimeout                                              -- R80
  | postPurgeTimeExpiry                                              -- R87
  | strayFlameTimeLimit                                              -- R89
  | b06TimerExpiry                                                   -- R81
  | lockoutPurgeEnd                                                  -- R95
  | lockoutPurgeRemainderEnd                                         -- R74
  | tripReport                                                       -- R90
  | refusedOpen                                                      -- R109
  | burnerMinute                                                     -- R97
  /-- R106: the line, and for how many µs its pin has been low (R105). -/
  | tripLineActive (line : TripLine) (lowFor : Nat)
  /-- R107: the line, and for how many µs its pin has been high (R105). -/
  | tripLineInactive (line : TripLine) (highFor : Nat)
  | channelPeriodStart (ch : Channel)                                -- R99
  | pullInEnd (valve : GasValve)                                     -- R102
  /-- R117: the coil current in mA. -/
  | coilCheckHold (valve : GasValve) (current : Nat)
  /-- R118: the coil current in mA. -/
  | coilCheckIdle (valve : GasValve) (current : Nat)
  | fanLoopStep                                                      -- R111
  | pumpDtStepTimerExpiry                                            -- R114
  | decayTimerExpiry                                                 -- R125
  | operatingMinute                                                  -- R176
  | pollTick                                                         -- R145
  | pollStart                                                        -- R146
  | pollSkip                                                         -- R146
  | onTimeRunComplete                                                -- R146
  | answerWindowClose                                                -- R147
  | receiveByte (b : Byte)                                           -- R148
  | codeViolation                                                    -- R141
  | inboundFrameEnd                                                  -- R142
  | slotSilent (n : RoomSlot)                                        -- R152
  | slotLost (n : RoomSlot)                                          -- R152
  /-- R154: the loop current in mA, and for how many ms it has lasted. -/
  | loopShort (current lasted : Nat)
  | loopOffTimerExpiry                                               -- R155
  | cleanTimerExpiry                                                 -- R155
  /-- R157: the command bytes of the REQUEST, those after its first byte. -/
  | controlRequestFrame (commands : List Byte)
  /-- R158: how many whole bytes were clocked before CSN rose, the first byte counted. -/
  | collectFrame (clocked : Nat)
  /-- R156: every whole byte of the frame, the first byte counted. -/
  | controlBadFrame (bytes : List Byte)
  /-- R159: every byte of the frame from its start byte, and whether one of them had a stop-bit error. -/
  | serviceRequestFrame (bytes : List Byte) (stopBitError : Bool)
  | serviceFrameGap                                                  -- R159
  | serviceReplySent                                                 -- R159
  | controlReplyHoldExpiry                                           -- R173
  | frameProcessingEnd (port : Port)                                 -- R167
  | readCommand (port : Port) (space : BitVec 3) (start : Start) (step : Bool) (count : Nat)        -- R161
  | genericWrite (port : Port) (space : BitVec 3) (start : Start) (step : Bool) (data : List Word)  -- R162
  | demandWrite (port : Port) (start : Start) (step : Bool) (data : List Word)                      -- R164
  | settingsWrite (port : Port) (start : Start) (step : Bool) (data : List Word)                    -- R179
  | combustionWrite (port : Port) (start : Start) (step : Bool) (data : List Word)                  -- R166
  | restoreFactoryTable (value : Word)                               -- R183
  | resetRequestWord (port : Port) (value : Word)                    -- R165
  | historyClearWord (port : Port) (value : Word)                    -- R135
  | noticePop                                                        -- R170
  | heartbeatWord (value : Word)                                     -- R168
  | boardExpiredFlagRead                                             -- R169
  | boardExpiredFlagWrite (value : Word)                             -- R169
  | unlockWord (value : Word)                                        -- R166
  | softResetWord (port : Port) (value : Word)                       -- R173
  | counterClear (port : Port) (counter : PortCounter) (value : Word)  -- R172
  | trimOffsetWrite (ch : NtcChannel) (value : Word)                 -- R182
  | outputTestRequest (channel level duration : Word)                -- R187
  | heartbeatTimerExpiry                                             -- R168
  | brstPulseEnd                                                     -- R168
  /-- R177: whether the block reads back as it was written. -/
  | storeWriteEnd (readsBack : Bool)
  | outputTestTimerExpiry                                            -- R189
  | supplyFailure                                                    -- R174
  | pollSendEnd                                                      -- R147
  | preambleRecognised                                               -- R147
  | inboundCurrentStep                                               -- R146
  deriving DecidableEq, Repr

end Sys2Proof
end

