-- ==== Sys2Proof/Config.lean ====
section
/-! DEFINITION. What the KC-4120 fixes once for all (numbers the rules state) and the FREE VALUES: constants with no body
for the values the spec leaves unstated, so that no proof can lean on one. -/

namespace Sys2Proof

/-- The port words whose encoding the spec does not state (log entry 20). Each is a free value. -/
inductive UnstatedWord where
  /-- STATUS: the bad run of a channel record, kind and length in one word. -/
  | badRun (kind : BadKind) (length : Nat)
  /-- STATUS: the pressure value while it is absent. -/
  | pressureAbsent
  /-- STATUS: the zone set as one word. -/
  | zoneSet (zone1 zone2 : Bool)
  /-- STATUS: a trip cause set as one word. -/
  | tripCauses (limit cond ext : Bool)
  /-- STATUS: an absent test level in a channel record. -/
  | testLevelAbsent
  /-- STATUS: a poll pointer that names no slot. -/
  | pointerAbsent
  /-- STATUS: the heat request of an absent last REPORT. -/
  | reportAbsent
  /-- DEMAND: the explicit rate of an entry that has none. -/
  | explicitRateAbsent
  /-- DEMAND: the time to expiry of an entry that has none. -/
  | expiryAbsent
  /-- FAULTS: the cause key and the attempt number of an absent lockout. -/
  | lockoutCauseAbsent
  | lockoutAttemptAbsent
  /-- A read of a word that the layouts give a write only. -/
  | writeOnly (space address : Nat)
  deriving DecidableEq, Repr

namespace Config

/-- FREE VALUE (log entry 20): the word that stands for an item whose encoding the spec does not state. -/
opaque unstatedWord : UnstatedWord → Word

/-- FREE VALUE (log entry 21): the mode max while the served mode is NONE and no mode has been served before (R59). -/
opaque modeMaxNeverServed : Int

/-- FREE VALUE (log entry 22): the room actual of a pair whose setpoint is written while no room actual is held. -/
opaque unwrittenRoomActual : Int

/-- FREE VALUE (log entry 22): the explicit rate of a selection "explicit" taken while no explicit rate is held. -/
opaque unwrittenExplicitRate : Int

/-- FREE VALUE (log entry 33): the fan speed that the gas curve gives for a rate below its first point; only an invalid
table, which R64 does not cover, asks for it. -/
opaque curveOutsidePoints : Int → Nat

/-! Fixed times, in ms. -/

/-- R42: a DHW overrun. -/
def dhwOverrunMs : Nat := 30000
/-- R30, R31: the keep-warm spacing time. -/
def keepwarmSpacingMs : Nat := 1200000
/-- R31: the keep-warm burn time limit. -/
def keepwarmBurnMs : Nat := 180000
/-- 02 §2.7: the diverter move time. -/
def diverterMoveMs : Nat := 8000
/-- R11: the b09 timer. -/
def b09Ms : Nat := 120000
/-- R75: the PRE-CHECK time. -/
def preCheckMs : Nat := 10000
/-- R79: the in-band run at ignition speed. -/
def ignitionRunMs : Nat := 2000
/-- R89: the stray-flame limit. -/
def strayFlameMs : Nat := 10000
/-- R81: the b06 time. -/
def b06Ms : Nat := 60000
/-- R55: the CH interval. -/
def chIntervalMs : Nat := 1000
/-- R114: the pump ΔT step time. -/
def dtStepMs : Nat := 5000
/-- R125: the decay time of the reset counter. -/
def decayMs : Nat := 180000
/-- R155: the loop off time and the clean time. -/
def loopOffMs : Nat := 10000
def cleanMs : Nat := 60000
/-- R147: the answer window. -/
def windowMs : Nat := 150
/-- R146: the idle stretch before a POLL and the wait after which it is skipped. -/
def pollIdleMs : Nat := 20
def pollSkipMs : Nat := 500
/-- R155: how long after the power returns the line is not idle. -/
def restoreMs : Nat := 20
/-- R141, R148: four bit times of 833 µs, 3.3 ms, on the model's 1 ms clock (log entry 5). -/
def frameGapMs : Nat := 4
/-- 07 §7.1: a POLL is 104 bit times of 833 µs, 86.7 ms; the model's 1 ms clock ends it at 87 (log entry 5). -/
def pollSendMs : Nat := 87
/-- R168: the BRST pulse. -/
def brstMs : Nat := 10
/-- R173: the control reply hold. -/
def replyHoldMs : Nat := 100
/-- R175, R177: the bounds by which start-up reads and one store write have ended. -/
def startupReadMs : Nat := 40
def storeWriteMs : Nat := 12
/-- R117, R118: the coil check delays. -/
def coilSettleMs : Nat := 10
def coilPeriodMs : Nat := 100

end Config
end Sys2Proof
end

