-- ==== Sys2Proof/Machine/Records.lean ====
section
/-! DEFINITION. The records that State is made of, as plain data, block by block in the order of 00_scope.md: the
measurement front end (MFE), the demand table and arbiter (DTA), the firing-rate engine (FRE), the burner sequencer
(BSQ), the output channel unit (OCU), the fault unit (FLT), the room loop controller (RLC), the port unit (PRT) and the
store (STO). INVENTORY.md, "State", names the rule of every field. -/

namespace Sys2Proof.Machine

/-! ### Sets with one item per slot, per valve, per source -/

/-- One item for each room slot. -/
structure SlotSet (α : Type) where
  slot1 : α
  slot2 : α
  slot3 : α
  slot4 : α
  deriving DecidableEq, Repr

/-- One item for each gas valve channel. -/
structure ValveSet (α : Type) where
  gv1 : α
  gv2 : α
  deriving DecidableEq, Repr

/-- One flag for each trip line: a set of trip lines. -/
structure TripSet where
  limit : Bool
  cond : Bool
  ext : Bool
  deriving DecidableEq, Repr

/-- The nine demand sources in source order (02 §2.1). -/
inductive Source where
  | board | room (n : RoomSlot) | service | tap | frost | keepwarm
  deriving DecidableEq, Repr

/-- One item for each demand source. -/
structure SourceSet (α : Type) where
  board : α
  room : SlotSet α
  service : α
  tap : α
  frost : α
  keepwarm : α
  deriving DecidableEq, Repr

/-! ### Measurement front end (01) -/

/-- The status of an NTC channel (01 §1.1). -/
inductive NtcStatus where
  | ok | openCircuit | shortCircuit | notFitted
  deriving DecidableEq, Repr

/-- A channel record (01 §1.1): temperatures in 0.1 °C, the age in ms. -/
structure NtcRecord where
  window : List Int
  value : Option Int
  status : NtcStatus
  age : Nat
  badKind : BadKind
  badRun : Nat
  deriving DecidableEq, Repr

/-- The records of the MFE. -/
structure Mfe where
  ntc : NtcSet NtcRecord
  /-- R6: the strap level last read. -/
  strapHigh : Bool
  /-- R9: the disagreement count and the armed flag. -/
  pairCount : Nat
  pairArmed : Bool
  /-- R11: the no-circulation count, and the 120 s timer, which runs in the state RAISED and only there. -/
  circCount : Nat
  circTimer : Option Nat
  /-- R12. -/
  flueArmed : Bool
  /-- 01 §1.3: the pressure record, in 0.01 bar and ms. -/
  pressWindow : List Int
  pressValue : Option Int
  pressAge : Nat
  pressBadRun : Nat
  /-- R15: the latest ionisation sample, in 0.1 µA. -/
  ionSample : Nat
  /-- R16. -/
  flameOn : Bool
  provingRun : Nat
  lossRun : Nat
  /-- R17. -/
  blockSum : Nat
  blockCount : Nat
  /-- R18: the last scan sample and the counter of each pulse input. -/
  turbineLast : Bool
  tachoLast : Bool
  turbineCounter : Nat
  tachoCounter : Nat
  /-- R19: the last four good turbine gates, oldest first, and the tap flow. -/
  turbineGates : List Nat
  tapFlow : Nat
  /-- R20: the fan speed in rpm. -/
  fanSpeed : Nat
  /-- R21: the count of good gates. -/
  goodGates : Nat
  deriving DecidableEq, Repr

/-! ### Demand table and arbiter (02) -/

/-- The mode of the heat plan, and the mode the firing-rate engine serves. -/
inductive Mode where
  | none | ch | dhw | service
  deriving DecidableEq, Repr

/-- The pump request (R41). -/
inductive PumpRequest where
  | off | min | max | dtControl
  deriving DecidableEq, Repr

/-- A side of the diverter: the diverter target of the heat plan. -/
inductive Side where
  | ch | dhw
  deriving DecidableEq, Repr

/-- The blocked scope in force (R32). -/
inductive Scope where
  | none | dhw | all | lockout
  deriving DecidableEq, Repr

/-- The state of the diverter position record (02 §2.7). -/
inductive DiverterState where
  | atCh | movingToDhw | atDhw | movingToCh
  deriving DecidableEq, Repr

/-- The kind of a pump overrun (R42). -/
inductive OverrunKind where
  | ch | dhw
  deriving DecidableEq, Repr

/-- The named rate selections of the SERVICE entry (R25). -/
inductive RateSelection where
  | min | ignition | chMax | explicit
  deriving DecidableEq, Repr

/-- A heating zone. -/
inductive Zone where
  | zone1 | zone2
  deriving DecidableEq, Repr

/-- A room pair, in 0.1 °C. -/
structure RoomPair where
  setpoint : Int
  actual : Int
  deriving DecidableEq, Repr

/-- A demand entry (02 §2.1). Its class is fixed by its source. The expiry is an instant of operating time, in ms. -/
structure Entry where
  requesting : Bool
  flowRequest : Option Int
  roomPair : Option RoomPair
  selection : Option RateSelection
  explicitRate : Option Int
  zone : Option Zone
  expiry : Option Nat
  held : Bool
  deriving DecidableEq, Repr

/-- The heat plan (02 §2.4). -/
structure HeatPlan where
  mode : Mode
  request : Bool
  target : Option Int
  dhwSetpoint : Int
  sources : List Source
  zone1 : Bool
  zone2 : Bool
  pump : PumpRequest
  diverter : Side
  scope : Scope
  deriving DecidableEq, Repr

/-- The records of the DTA; the times are the ms left. -/
structure Dta where
  table : SourceSet (Option Entry)
  plan : HeatPlan
  /-- R38. -/
  antiCycle : Option Nat
  /-- R39. -/
  dhwPause : Bool
  /-- R42. -/
  overrun : Option (OverrunKind × Nat)
  /-- R28: the start run and the stop run. -/
  startRun : Nat
  stopRun : Nat
  /-- R30, R31: the keep-warm spacing timer, and the burn time in ms. -/
  spacing : Option Nat
  burnTime : Nat
  /-- R43. -/
  frostStage : Bool
  /-- 02 §2.7: the diverter position record. -/
  divState : DiverterState
  divLeft : Nat
  homing : Bool
  deriving DecidableEq, Repr

/-! ### Firing-rate engine (03) -/

/-- The limiting reason (03 §3.1). -/
inductive LimitReason where
  | none | control | ramp | mode | flue | deltaT | diverter | floor | selection
  deriving DecidableEq, Repr

/-- The caps in force, in ‰ (03 §3.5). -/
structure Caps where
  mode : Int
  flue : Int
  deltaT : Int
  diverter : Int
  deriving DecidableEq, Repr

/-- The record of the FRE. -/
structure Fre where
  /-- R54: the per-entry CH targets. -/
  targets : SourceSet (Option Int)
  served : Mode
  /-- R59: the last mode other than NONE that was served, for the mode max while NONE is served. -/
  lastServed : Option Mode
  chI : Int
  dhwI : Int
  lastRate : Int
  caps : Caps
  reason : LimitReason
  chTimer : Option Nat
  deriving DecidableEq, Repr

/-! ### Burner sequencer (04) -/

/-- The eleven states of the burner sequencer (04 §4.1). -/
inductive SeqState where
  | startCheck | idle | preCheck | prePurge | ignitionSpeed | safetyTime | stabilise | running
  | interPurge | postPurge | lockout
  deriving DecidableEq, Repr

/-- The band record (R77); times in ms. -/
structure Band where
  inBand : Bool
  inTime : Nat
  outTime : Nat
  inRun : Nat
  outRun : Nat
  deriving DecidableEq, Repr

/-- The keys of the pending list of START-CHECK (04 §4.1). -/
inductive PendingCause where
  | f04 | f07
  deriving DecidableEq, Repr

/-- The report of a refused re-arm (R108): the channel, its trip cause set, and the trip lines active as it was refused. -/
structure RearmRefusal where
  channel : Channel
  causes : TripSet
  lines : TripSet
  deriving DecidableEq, Repr

/-- The kinds of a coil fault (R117, R118). -/
inductive CoilFaultKind where
  | openCircuit | shortCircuit | live
  deriving DecidableEq, Repr

/-- The report of a coil fault (R117, R118): the gas channel and the kind. -/
structure CoilReport where
  valve : GasValve
  kind : CoilFaultKind
  deriving DecidableEq, Repr

/-- A refused open on its way to the sequencer (R109): the channels it names and the trip cause set it carries. -/
structure RefusedOpen where
  channels : List Channel
  causes : TripSet
  deriving DecidableEq, Repr

/-- The sequencer record (04 §4.1), what the output channel unit has reported to it, and the reports it has not yet
taken. -/
structure Bsq where
  state : SeqState
  timeIn : Nat
  timer : Option Nat
  attempts : Nat
  recycleUsed : Bool
  gasOpened : Bool
  provingFailures : Nat
  band : Band
  strayTime : Nat
  purgeLeft : Nat
  b06Timer : Option Nat
  fanTarget : Nat
  gasOpen : Bool
  spark : Bool
  pendingCauses : List PendingCause
  /-- R75: which channels have been reported re-armed in this PRE-CHECK. -/
  sparkRearmed : Bool
  valveRearmed : ValveSet Bool
  /-- R108: the refusals last reported: those of the last request, or of the last line that cancelled a pending re-arm.
  The model's own field (log entry 66). -/
  rearmRefusals : List RearmRefusal
  /-- R117, R118: the coil fault last reported. The model's own field (log entry 66). -/
  coilReport : Option CoilReport
  /-- R116: the last answer handed over for each coil, whether its current is zero. -/
  coilZero : ValveSet Bool
  /-- R90, R109: trip reports and refused opens sent and not yet taken, oldest first. -/
  tripReports : List TripSet
  refusedOpens : List RefusedOpen
  /-- R97: the part of a burner minute carried over, in ms. -/
  burnerPart : Nat
  deriving DecidableEq, Repr

/-! ### Output channel unit (05) -/

/-- The state of an output channel (05 §5.1). -/
inductive ChannelState where
  | idle | held | active | tripped
  deriving DecidableEq, Repr

/-- The phase of a PULL-HOLD channel while ACTIVE. -/
inductive Phase where
  | pullIn | hold
  deriving DecidableEq, Repr

/-- The last command of a channel's owner (R98, R103). -/
inductive OwnerCommand where
  | fanTarget (rpm : Nat)
  | pumpRequest (r : PumpRequest)
  | gas (isOpen : Bool)
  | spark (triggered : Bool)
  | steady (energised : Bool)
  deriving DecidableEq, Repr

/-- A channel record (05 §5.1): compares and duty in ‰; `counter` is the place of the period counter in µs (R99). -/
structure ChannelRecord where
  state : ChannelState
  phase : Option Phase
  compareA : Nat
  compareB : Nat
  duty : Nat
  invert : Bool
  tripCauses : TripSet
  rearmPending : Bool
  pulseCount : Nat
  owner : OwnerCommand
  testLevel : Option Nat
  counter : Nat
  deriving DecidableEq, Repr

/-- What a gas valve channel keeps beside its record: the pull-in time left and the hold duty taken at the open command
(R102), and the coil supervision (05 §5.7): check count, coil fault flag, latest reading in mA, ms to the next check. -/
structure CoilRecord where
  pullIn : Option Nat
  holdDuty : Nat
  checks : Nat
  faultFlag : Bool
  reading : Nat
  nextCheck : Option Nat
  deriving DecidableEq, Repr

/-- The five channels that an output test may force (R104). -/
inductive TestChannel where
  | fan | pump | diverter | zone1 | zone2
  deriving DecidableEq, Repr

/-- The end cause of an output test (R186). -/
inductive TestEnd where
  | none | expired | ended | demand | lockout
  deriving DecidableEq, Repr

/-- The output test record (R186): RUNNING when the timer runs. -/
structure OutputTest where
  listed : List (TestChannel × Nat)
  timer : Option Nat
  endCause : TestEnd
  deriving DecidableEq, Repr

/-- The records of the OCU. -/
structure Ocu where
  fan : ChannelRecord
  pump : ChannelRecord
  spark : ChannelRecord
  gv1 : ChannelRecord
  gv2 : ChannelRecord
  diverter : ChannelRecord
  zone1 : ChannelRecord
  zone2 : ChannelRecord
  coils : ValveSet CoilRecord
  /-- R105: the recorded states of the trip lines; true is active. -/
  lines : TripSet
  /-- R114. -/
  dtTimer : Option Nat
  test : OutputTest
  deriving DecidableEq, Repr

/-! ### Fault unit (06) -/

/-- A fault key (06 §6.1). -/
inductive FaultKey where
  | f01 | f02 | f03 | f04 | f05 | f06 | f07 | f08 | f09 | f10
  | b01 | b02 | b03 | b04 | b05 | b06 | b07 | b08 | b09 | b10 | b11
  | a01 | a02 (n : RoomSlot) | a03 | a04 | a05 | a06 | a07 | a08 | a09 | a10 | a11 | a12
  deriving DecidableEq, Repr

/-- The source words of reset requests (R128). -/
inductive ResetSource where
  | control | service | room (n : RoomSlot)
  deriving DecidableEq, Repr

/-- The outcomes of a reset request (R127). -/
inductive ResetOutcome where
  | accepted | notLocked | limit | causePresent
  deriving DecidableEq, Repr

/-- A lockout held by the lockout record (06 §6.3). -/
structure Lockout where
  cause : FaultKey
  seqState : SeqState
  attempt : Nat
  stamp : Nat
  deriving DecidableEq, Repr

/-- The kind of a history record. -/
inductive HistoryKind where
  | raised | reset
  deriving DecidableEq, Repr

/-- A history record (06 §6.4). -/
structure HistoryRecord where
  kind : HistoryKind
  key : FaultKey
  source : Option ResetSource
  seqState : SeqState
  flow : Option Int
  rate : Int
  raiseStamp : Nat
  clearedStamp : Option Nat
  count : Nat
  duringLockout : Bool
  number : Nat
  deriving DecidableEq, Repr

/-- A slot of the ring in the part: its record, and the second-of-clear note of R133. -/
structure HistorySlot where
  record : Option HistoryRecord
  clearedAt : Option Nat
  deriving DecidableEq, Repr

/-- The locking condition record (R126). -/
structure LockingConditions where
  limit : Bool
  flowPair : Bool
  flue : Bool
  flame : Bool
  table : Bool
  deriving DecidableEq, Repr

/-- A key whose history record waits for the ring to be built (R136): whether it has left the active fault set since, and
whether it was recorded during lockout. -/
structure EarlyKey where
  key : FaultKey
  left : Bool
  duringLockout : Bool
  deriving DecidableEq, Repr

/-- The records of the FLT. -/
structure Flt where
  /-- R120: the active fault set, without repeats. -/
  active : List FaultKey
  lockout : Option Lockout
  resetCounter : Nat
  lastCreation : Nat
  decay : Option Nat
  conditions : LockingConditions
  /-- R131: the 32 slots of the history ring. -/
  ring : List HistorySlot
  ringBuilt : Bool
  early : List EarlyKey
  /-- R137, R138: whether ALARM is active, and whether its active level is high. -/
  alarmActive : Bool
  alarmHigh : Bool
  deriving DecidableEq, Repr

/-! ### Room loop controller (07) -/

/-- The state of a room slot (07 §7.4). -/
inductive SlotState where
  | disabled | searching | bound | silent | lost
  deriving DecidableEq, Repr

/-- The fields of a valid REPORT as received, before any clamp (07 §7.1, R144). -/
structure Report where
  heat : Bool
  setpoint : Int
  actual : Int
  flowRequest : Int
  reset : Bool
  deriving DecidableEq, Repr

/-- A room slot record; its enable and zone are settings. -/
structure SlotRecord where
  enable : Bool
  zone : Option Zone
  state : SlotState
  misses : Nat
  lastReport : Option Report
  lastReset : Bool
  good : Nat
  bad : Nat
  ignoredResets : Nat
  deriving DecidableEq, Repr

/-- The exchange of the current poll (R145 to R147), with its times in ms. `closing`: the window has closed with a
reception in progress. -/
inductive Exchange where
  | none
  | waiting (n : RoomSlot) (since : Nat)
  | sending (n : RoomSlot) (left : Nat)
  | window (n : RoomSlot) (left : Nat)
  | closing (n : RoomSlot)
  deriving DecidableEq, Repr

/-- The records of the RLC. -/
structure Rlc where
  slots : SlotSet SlotRecord
  /-- R148. -/
  fifo : List Byte
  level : Bool
  /-- The slot in whose window the reception in progress began. -/
  receiving : Option RoomSlot
  /-- R147: an inbound frame that started no reception is on the line. -/
  foreign : Bool
  /-- R148: an overflow or a code violation has ended the frame, and the line has not been idle for four bit times since. -/
  broken : Bool
  /-- R155: the ms left, after the power has returned, in which the line is not idle. -/
  restoring : Nat
  /-- R146: how long the line has been idle without a break, in ms. -/
  idle : Nat
  exchange : Exchange
  /-- R147: the slot of the running exchange was disabled. -/
  dropped : Bool
  pointer : Option RoomSlot
  onTimeRun : Nat
  pollsSent : Nat
  skippedPolls : Nat
  shorts : Nat
  /-- R154, R155: the off timer, which runs in LOOP-OFF and only there, and the clean timer. -/
  offTimer : Option Nat
  cleanTimer : Option Nat
  /-- R35, R140: what the DTA and the FLT have handed over for the POLL frame. -/
  planMode : Mode
  planRequest : Bool
  lockoutPresent : Bool
  displayed : Option FaultKey
  /-- R143: the POLL frame last formed. -/
  poll : List Byte
  deriving DecidableEq, Repr

/-! ### Store (09) -/

/-- The enable and zone setting of a room slot. -/
structure SlotSetting where
  enable : Bool
  zone : Option Zone
  deriving DecidableEq, Repr

/-- The settings (09 §9.4), in the units of its last column; slots in slot order. -/
structure Settings where
  dhwSetpoint : Int
  dhwEnable : Bool
  keepwarmEnable : Bool
  keepwarmLow : Int
  chFlowMin : Int
  chFlowMax : Int
  curveSlope : Int
  curveShift : Int
  defaultRoom : Int
  roomInfluence : Int
  onDifferential : Int
  offDifferential : Int
  antiCycleMin : Int
  chOverrunMin : Int
  pumpDtTarget : Int
  pumpInverted : Bool
  chMaxRate : Int
  outdoorFitted : Bool
  alarmHigh : Bool
  remoteReset : Bool
  slots : SlotSet SlotSetting
  boardResetPulse : Bool
  trimReload : Bool
  serviceMin : Int
  attnLevel : Int
  deriving DecidableEq, Repr

/-- A point of the gas curve: rate in ‰, speed in rpm. -/
structure CurvePoint where
  rate : Int
  rpm : Int
  deriving DecidableEq, Repr

/-- The combustion table (R69, 09 §9.5). `pnom` is in units of 100 W. -/
structure CombustionTable where
  pnom : Int
  rmin : Int
  dhwMax : Int
  dtMax : Int
  derateStart : Int
  prePurge : Int
  safetyTime : Int
  stabilise : Int
  interPurge : Int
  postPurge : Int
  attempts : Int
  provingTimeout : Int
  fanBand : Int
  purgeSpeed : Int
  postPurgeSpeed : Int
  ignitionRate : Int
  pullIn : Int
  holdDuty : Int
  curveCount : Int
  points : List CurvePoint
  deriving DecidableEq, Repr

/-- The trim: the contents of the factory trim block, and the working trim copy (09 §9.6). -/
structure Trim where
  offsets : NtcSet Int
  gain : Int
  turbineK : Int
  pressOffset : Int
  factory : CombustionTable
  serial : Nat
  hwRev : Nat
  deriving DecidableEq, Repr

/-- The three operating counters (R184). -/
structure Counters where
  minutes : Nat
  burnerStarts : Nat
  burnerMinutes : Nat
  deriving DecidableEq, Repr

/-- The contents of the lockout block (09 §9.1). -/
structure LockoutBlock where
  lockout : Option Lockout
  resetCounter : Nat
  lastCreation : Nat
  deriving DecidableEq, Repr

/-- A block of the store: its contents and the CRC held beside them (R174). -/
structure Stored (α : Type) where
  contents : α
  crc : Word
  deriving DecidableEq, Repr

/-- The non-volatile blocks (09 §9.1). -/
structure Nv where
  lockout : Stored LockoutBlock
  combustion : Stored CombustionTable
  settings : Stored Settings
  history : List (Stored (Option HistoryRecord))
  counters : Stored Counters
  trim : Stored Trim
  deriving DecidableEq, Repr

/-- The items that the dirty set may hold (09 §9.3); a slot by its place, 0 to 31. -/
inductive StoreItem where
  | lockout | combustion | settings | counters | slot (n : Nat)
  deriving DecidableEq, Repr

/-- What a write in flight carries: the contents as they stood at its start (R177). -/
inductive WriteImage where
  | lockout (c : LockoutBlock)
  | combustion (c : CombustionTable)
  | settings (c : Settings)
  | counters (c : Counters)
  | slot (n : Nat) (c : Option HistoryRecord)
  deriving DecidableEq, Repr

/-- The write in flight: its image and the ms left until it has ended at the latest. -/
structure Write where
  image : WriteImage
  left : Nat
  deriving DecidableEq, Repr

/-- The records of the STO: the values in force in the part, and the non-volatile blocks. -/
structure Sto where
  settings : Settings
  table : CombustionTable
  tableValid : Bool
  trim : Trim
  trimGood : Bool
  counters : Counters
  dirty : List StoreItem
  inFlight : Option Write
  /-- R175: the ms left until the start-up reads have ended at the latest; absent when they have been handed over. -/
  startup : Option Nat
  /-- R181: the coming start-up reads set the working trim copy. -/
  reloadTrim : Bool
  nv : Nv
  deriving DecidableEq, Repr

/-! ### Port unit (08) -/

/-- The six counters of a port (R172). -/
structure PortCounters where
  frames : Nat
  badFrames : Nat
  badCommands : Nat
  denied : Nat
  writeErrors : Nat
  overruns : Nat
  deriving DecidableEq, Repr

/-- A frame on a port: the commands not yet executed, whether a malformed one follows them (R160), how many have been
taken, whether the rest is skipped, the unlock flag (R166), what R167 asks about its combustion writes, and the reply
body so far. -/
structure Frame where
  todo : List PortCommand
  badTail : Bool
  taken : Nat
  skipping : Bool
  unlock : Bool
  combustionWrite : Bool
  noUnlock : Bool
  valueRefused : Bool
  body : List Byte
  deriving DecidableEq, Repr

/-- What both ports keep: an access pointer for each of spaces 0 to 6 (R161), the counters, and the frame. -/
structure PortRecord where
  pointers : List Word
  counters : PortCounters
  frame : Frame
  deriving DecidableEq, Repr

/-- The state of the control port's reply buffer (R157). -/
inductive ReplyState where
  | empty | processing | ready | collected
  deriving DecidableEq, Repr

/-- The service port is free, processing a frame, or sending a reply with so many ms left (R159). -/
inductive ServiceState where
  | free
  | processing
  | sending (left : Nat)
  deriving DecidableEq, Repr

/-- The service port's receiver (R159): idle, in a run of discarded bytes, or in a frame, with the bytes received from its
start byte on and whether one of them had a stop-bit error. -/
inductive Receiver where
  | idle
  | discarding
  | inFrame (bytes : List Byte) (stopBitError : Bool)
  deriving DecidableEq, Repr

/-- A notice (R139, R170). -/
inductive Notice where
  | raised (k : FaultKey)
  | cleared (k : FaultKey)
  | reset (o : ResetOutcome) (src : ResetSource)
  | slot (n : RoomSlot) (st : SlotState)
  deriving DecidableEq, Repr

/-- Where the reply of the frame that asked for a soft reset stands (R173): not formed yet; READY or being sent, with the ms
left of its hold; given way to a later REQUEST (R157), so that it can no longer be collected and only its hold is left;
delivered. -/
inductive ReplyPhase where
  | executing
  | ready (hold : Nat)
  | replaced (hold : Nat)
  | delivered
  deriving DecidableEq, Repr

/-- An accepted soft reset that has not taken effect: the port that asked, its reply, and the flush set (R178). -/
structure SoftReset where
  port : Port
  reply : ReplyPhase
  flush : List StoreItem
  deriving DecidableEq, Repr

/-- The records of the PRT. -/
structure Prt where
  control : PortRecord
  service : PortRecord
  replyState : ReplyState
  overrunFlag : Bool
  reply : List Byte
  /-- R158: the bytes that SDO gave in the last COLLECT frame. -/
  sdo : List Byte
  serviceState : ServiceState
  receiver : Receiver
  /-- R159: the bytes of the last service reply. -/
  txd : List Byte
  /-- R166: the staged copy of the combustion table. -/
  staged : Option CombustionTable
  notices : List Notice
  overflow : Bool
  /-- R168: supervision is RUNNING when the heartbeat timer runs; the timeout last set, in s. -/
  heartbeat : Option Nat
  timeout : Nat
  expiredFlag : Bool
  expiredNote : Bool
  /-- R168: the ms left of a BRST pulse; BRST is low while it runs. -/
  brst : Option Nat
  /-- R171: the level of ATTN. -/
  attn : Bool
  softReset : Option SoftReset
  deriving DecidableEq, Repr

/-- The model's clock: operating time since the last reset in ms, the moment at which the running operating minute began,
and the grid events that are due and not yet taken (log entry 4). -/
structure Clock where
  now : Nat
  minuteStart : Nat
  fanStepDue : Bool
  pollTickDue : Bool
  periodDue : List Channel
  deriving DecidableEq, Repr

end Sys2Proof.Machine
end

