-- ==== Sys2Proof/Machine/Layout.lean ====
section
/-! DEFINITION. The word encodings that blocks of the store and access spaces share (08 §8.4), the CRC of the store
(R174), the default values (09 §9.4, §9.5) and the records of each block right after a reset. -/

namespace Sys2Proof.Machine

/-! ### Words -/

/-- A yes/no word (R163). -/
def boolWord (b : Bool) : Word := if b then 1 else 0

/-- A count as a word. A count above 65,535 reads 65,535 (log entry 19). -/
def natWord (n : Nat) : Word := BitVec.ofNat 16 (min n 65535)

/-- A signed quantity as a word. -/
def intWord (i : Int) : Word := BitVec.ofInt 16 i

/-- A temperature that may be absent: 0x8000 stands for absent (R163). -/
def tempWord : Option Int → Word
  | none => 0x8000
  | some t => intWord t

/-- A 32-bit quantity as two words. DESIGN CHOICE: the more significant word stands first (R163; log entry 79). -/
def words32 (n : Nat) : List Word := [BitVec.ofNat 16 (n / 65536), BitVec.ofNat 16 n]

/-- The number of a room slot. -/
def slotNumber : RoomSlot → Nat
  | .slot1 => 1
  | .slot2 => 2
  | .slot3 => 3
  | .slot4 => 4

/-- The code of a sequencer state (R163). -/
def seqStateCode : SeqState → Nat
  | .startCheck => 0
  | .idle => 1
  | .preCheck => 2
  | .prePurge => 3
  | .ignitionSpeed => 4
  | .safetyTime => 5
  | .stabilise => 6
  | .running => 7
  | .interPurge => 8
  | .postPurge => 9
  | .lockout => 10

/-- The class (1 locking, 2 blocking, 3 advisory), the slot and the number of a fault key (R163). -/
def keyParts : FaultKey → Nat × Nat × Nat
  | .f01 => (1, 0, 1)
  | .f02 => (1, 0, 2)
  | .f03 => (1, 0, 3)
  | .f04 => (1, 0, 4)
  | .f05 => (1, 0, 5)
  | .f06 => (1, 0, 6)
  | .f07 => (1, 0, 7)
  | .f08 => (1, 0, 8)
  | .f09 => (1, 0, 9)
  | .f10 => (1, 0, 10)
  | .b01 => (2, 0, 1)
  | .b02 => (2, 0, 2)
  | .b03 => (2, 0, 3)
  | .b04 => (2, 0, 4)
  | .b05 => (2, 0, 5)
  | .b06 => (2, 0, 6)
  | .b07 => (2, 0, 7)
  | .b08 => (2, 0, 8)
  | .b09 => (2, 0, 9)
  | .b10 => (2, 0, 10)
  | .b11 => (2, 0, 11)
  | .a01 => (3, 0, 1)
  | .a02 n => (3, slotNumber n, 2)
  | .a03 => (3, 0, 3)
  | .a04 => (3, 0, 4)
  | .a05 => (3, 0, 5)
  | .a06 => (3, 0, 6)
  | .a07 => (3, 0, 7)
  | .a08 => (3, 0, 8)
  | .a09 => (3, 0, 9)
  | .a10 => (3, 0, 10)
  | .a11 => (3, 0, 11)
  | .a12 => (3, 0, 12)

/-- The key word of a fault key: class in bits 9–8, slot in bits 7–4, number in bits 3–0 (R163). -/
def keyWord (k : FaultKey) : Word :=
  BitVec.ofNat 16 ((keyParts k).1 * 256 + (keyParts k).2.1 * 16 + (keyParts k).2.2)

/-- The code of a source word (R163). -/
def resetSourceCode : ResetSource → Nat
  | .control => 0
  | .service => 1
  | .room n => slotNumber n + 1

/-- A slot's settings word: enable in bit 8, zone in bits 1–0 (08 §8.4). -/
def slotSettingWord (s : SlotSetting) : Word :=
  (if s.enable then 0x100 else 0) ||| (match s.zone with | none => 0 | some .zone1 => 1 | some .zone2 => 2)

/-- The words of the SETTINGS space, addresses 0x00 to 0x1B (08 §8.4). -/
def settingsWords (s : Settings) : List Word :=
  [intWord s.dhwSetpoint, boolWord s.dhwEnable, boolWord s.keepwarmEnable, intWord s.keepwarmLow,
   intWord s.chFlowMin, intWord s.chFlowMax, intWord s.curveSlope, intWord s.curveShift, intWord s.defaultRoom,
   intWord s.roomInfluence, intWord s.onDifferential, intWord s.offDifferential, intWord s.antiCycleMin,
   intWord s.pumpDtTarget, boolWord s.pumpInverted, intWord s.chMaxRate, boolWord s.outdoorFitted,
   boolWord s.alarmHigh, boolWord s.remoteReset, boolWord s.boardResetPulse, boolWord s.trimReload,
   intWord s.serviceMin, intWord s.attnLevel, slotSettingWord s.slots.slot1, slotSettingWord s.slots.slot2,
   slotSettingWord s.slots.slot3, slotSettingWord s.slots.slot4, intWord s.chOverrunMin]

/-- The words of the COMBUSTION space, addresses 0x00 to 0x22 (08 §8.4). -/
def tableWords (t : CombustionTable) : List Word :=
  [intWord t.pnom, intWord t.rmin, intWord t.dhwMax, intWord t.dtMax, intWord t.derateStart, intWord t.prePurge,
   intWord t.safetyTime, intWord t.stabilise, intWord t.interPurge, intWord t.postPurge, intWord t.attempts,
   intWord t.provingTimeout, intWord t.fanBand, intWord t.purgeSpeed, intWord t.postPurgeSpeed,
   intWord t.ignitionRate, intWord t.pullIn, intWord t.holdDuty, intWord t.curveCount]
  ++ t.points.flatMap fun p => [intWord p.rate, intWord p.rpm]

/-- The twelve words of a history record (08 §8.4, FAULTS space). -/
def historyWords (r : HistoryRecord) : List Word :=
  [(match r.kind with | .raised => 0 | .reset => 0x8000) ||| (if r.duringLockout then 0x4000 else 0)
     ||| BitVec.ofNat 16 (r.count % 256),
   keyWord r.key,
   (match r.source with | none => 0xFFFF | some src => natWord (resetSourceCode src)),
   natWord (seqStateCode r.seqState), tempWord r.flow, intWord r.rate]
  ++ words32 r.raiseStamp
  ++ (match r.clearedStamp with | none => [0xFFFF, 0xFFFF] | some m => words32 m)
  ++ words32 r.number

/-- The words of a history slot as the store holds it; twelve words of ones are the empty marker (log entry 24). -/
def historySlotWords : Option HistoryRecord → List Word
  | none => List.replicate 12 0xFFFF
  | some r => historyWords r

/-- The words of the lockout block as the store holds it (log entry 24). -/
def lockoutBlockWords (b : LockoutBlock) : List Word :=
  (match b.lockout with
   | none => [0, 0xFFFF, 0xFFFF, 0xFFFF, 0xFFFF, 0xFFFF]
   | some l => [1, keyWord l.cause, natWord (seqStateCode l.seqState), natWord l.attempt] ++ words32 l.stamp)
  ++ [natWord b.resetCounter] ++ words32 b.lastCreation

/-- The words of the counters block (08 §8.4, PORT space 0x50 to 0x55). -/
def counterWords (c : Counters) : List Word :=
  words32 c.minutes ++ words32 c.burnerStarts ++ words32 c.burnerMinutes

/-- The NTC items in channel order. -/
def ntcList (x : NtcSet α) : List α := [x.flowA, x.flowB, x.ret, x.dhwOut, x.dhwIn, x.flue, x.outdoor]

/-- The words of the factory trim block (log entry 24). -/
def trimWords (t : Trim) : List Word :=
  (ntcList t.offsets).map intWord
  ++ [intWord t.gain, intWord t.turbineK, intWord t.pressOffset]
  ++ tableWords t.factory ++ words32 t.serial ++ [natWord t.hwRev]

/-! ### CRC-16 (R174) -/

/-- One bit of the CRC with the generator polynomial 0x1021. -/
def crcShift (crc : Word) : Word := if crc.msb then (crc <<< 1) ^^^ 0x1021 else crc <<< 1

/-- `n` bits of the CRC. -/
def crcShifts : Nat → Word → Word
  | 0, crc => crc
  | n + 1, crc => crcShifts n (crcShift crc)

/-- The CRC over words, each most significant bit first; initial value 0xFFFF, no final inversion. -/
def crc16 (ws : List Word) : Word := ws.foldl (fun crc w => crcShifts 16 (crc ^^^ w)) 0xFFFF

/-- A block written whole with its CRC. -/
def Stored.seal (words : α → List Word) (c : α) : Stored α := ⟨c, crc16 (words c)⟩

/-- A block whose write was cut short: its CRC does not match (R174). -/
def Stored.damaged (words : α → List Word) (c : α) : Stored α := ⟨c, ~~~ crc16 (words c)⟩

/-- The CRC of a block matches its contents. -/
def Stored.crcGood (words : α → List Word) (b : Stored α) : Bool := b.crc == crc16 (words b.contents)

/-! ### Defaults -/

/-- The settings' defaults (09 §9.4). -/
def Settings.default : Settings where
  dhwSetpoint := 480
  dhwEnable := true
  keepwarmEnable := false
  keepwarmLow := 400
  chFlowMin := 300
  chFlowMax := 750
  curveSlope := 14
  curveShift := 0
  defaultRoom := 200
  roomInfluence := 20
  onDifferential := 30
  offDifferential := 50
  antiCycleMin := 3
  chOverrunMin := 3
  pumpDtTarget := 200
  pumpInverted := true
  chMaxRate := 800
  outdoorFitted := false
  alarmHigh := false
  remoteReset := false
  slots := ⟨⟨false, none⟩, ⟨false, none⟩, ⟨false, none⟩, ⟨false, none⟩⟩
  boardResetPulse := true
  trimReload := false
  serviceMin := 15
  attnLevel := 0

/-- The default combustion table (R64, R69, 09 §9.5); the points past the count are 0 (log entry 25). -/
def CombustionTable.default : CombustionTable where
  pnom := 280
  rmin := 100
  dhwMax := 1000
  dtMax := 250
  derateStart := 850
  prePurge := 10
  safetyTime := 3
  stabilise := 10
  interPurge := 15
  postPurge := 10
  attempts := 3
  provingTimeout := 30
  fanBand := 150
  purgeSpeed := 6000
  postPurgeSpeed := 4000
  ignitionRate := 350
  pullIn := 50
  holdDuty := 450
  curveCount := 5
  points := [⟨100, 1500⟩, ⟨300, 2600⟩, ⟨500, 3700⟩, ⟨700, 4800⟩, ⟨1000, 6300⟩, ⟨0, 0⟩, ⟨0, 0⟩, ⟨0, 0⟩]

/-- The working trim copy of a bad trim block (R181). -/
def Trim.fallback : Trim where
  offsets := ⟨0, 0, 0, 0, 0, 0, 0⟩
  gain := 1000
  turbineK := 450
  pressOffset := 0
  factory := CombustionTable.default
  serial := 0
  hwRev := 0

/-- The non-volatile blocks as delivered, before the first power-on (log entry 23). -/
def Nv.asDelivered : Nv where
  lockout := Stored.seal lockoutBlockWords ⟨none, 0, 0⟩
  combustion := Stored.seal tableWords CombustionTable.default
  settings := Stored.seal settingsWords Settings.default
  history := List.replicate 32 (Stored.seal historySlotWords none)
  counters := Stored.seal counterWords ⟨0, 0, 0⟩
  trim := Stored.seal trimWords Trim.fallback

/-! ### The records right after a reset -/

/-- A set of no trip line. -/
def TripSet.empty : TripSet := ⟨false, false, false⟩

/-- A channel record right after a reset (R5), with the status given. -/
def NtcRecord.fresh (status : NtcStatus) : NtcRecord := ⟨[], none, status, 0, .low, 0⟩

/-- R5, R6, R9 to R13, R16 to R21. -/
def Mfe.atReset : Mfe where
  ntc := ⟨.fresh .ok, .fresh .ok, .fresh .ok, .fresh .ok, .fresh .ok, .fresh .ok, .fresh .notFitted⟩
  strapHigh := false
  pairCount := 0
  pairArmed := true
  circCount := 0
  circTimer := none
  flueArmed := true
  pressWindow := []
  pressValue := none
  pressAge := 0
  pressBadRun := 0
  ionSample := 0
  flameOn := false
  provingRun := 0
  lossRun := 0
  blockSum := 0
  blockCount := 0
  turbineLast := false
  tachoLast := false
  turbineCounter := 0
  tachoCounter := 0
  turbineGates := [0, 0, 0, 0]
  tapFlow := 0
  fanSpeed := 0
  goodGates := 0

/-- An entry with every optional field absent. -/
def Entry.plain (requesting : Bool) : Entry := ⟨requesting, none, none, none, none, none, none, false⟩

/-- R35: the heat plan after a reset; the settings in force are the defaults. -/
def HeatPlan.atReset : HeatPlan where
  mode := .none
  request := false
  target := none
  dhwSetpoint := 480
  sources := []
  zone1 := false
  zone2 := false
  pump := .min
  diverter := .ch
  scope := .none

/-- R22, R28, R30, R38, R39, R42, R43, R46. DESIGN CHOICE: the keep-warm burn time, for which R31 gives a value only as the
entry is created, is 0 (log entry 36). -/
def Dta.atReset : Dta where
  table := ⟨none, ⟨none, none, none, none⟩, none, some (Entry.plain false), none, none⟩
  plan := HeatPlan.atReset
  antiCycle := none
  dhwPause := false
  overrun := none
  startRun := 0
  stopRun := 0
  spacing := some Config.keepwarmSpacingMs
  burnTime := 0
  frostStage := false
  divState := .movingToCh
  divLeft := Config.diverterMoveMs
  homing := true

/-- R47; the caps are those of an engine that has not been given a value yet (log entry 21). -/
def Fre.atReset : Fre where
  targets := ⟨none, ⟨none, none, none, none⟩, none, none, none, none⟩
  served := .none
  lastServed := none
  chI := 0
  dhwI := 0
  lastRate := 0
  caps := ⟨Config.modeMaxNeverServed, 100, 100, 100⟩
  reason := .none
  chTimer := none

/-- The band record in a state that keeps none (R77). -/
def Band.off : Band := ⟨false, 0, 0, 0, 0⟩

/-- R66. -/
def Bsq.atReset : Bsq where
  state := .startCheck
  timeIn := 0
  timer := none
  attempts := 0
  recycleUsed := false
  gasOpened := false
  provingFailures := 0
  band := Band.off
  strayTime := 0
  purgeLeft := 0
  b06Timer := none
  fanTarget := 0
  gasOpen := false
  spark := false
  pendingCauses := []
  sparkRearmed := false
  valveRearmed := ⟨false, false⟩
  rearmRefusals := []
  coilReport := none
  coilZero := ⟨false, false⟩
  tripReports := []
  refusedOpens := []
  burnerPart := 0

/-- A channel record right after a reset (R98). -/
def ChannelRecord.fresh (compareB : Nat) (invert : Bool) (owner : OwnerCommand) : ChannelRecord where
  state := .idle
  phase := none
  compareA := 0
  compareB := compareB
  duty := 0
  invert := invert
  tripCauses := TripSet.empty
  rearmPending := false
  pulseCount := 0
  owner := owner
  testLevel := none
  counter := 0

/-- R116, R118: the coil supervision right after a reset. -/
def CoilRecord.fresh : CoilRecord := ⟨none, 0, 0, false, 0, some Config.coilPeriodMs⟩

/-- R98, R105, R114, R186. PUMP has taken the request MIN of the homing move, which is handed over within the same
start-up (R98, R113). -/
def Ocu.atReset : Ocu where
  fan := .fresh 0 false (.fanTarget 0)
  pump := { ChannelRecord.fresh 0 true (.pumpRequest .min) with state := .active, duty := 300 }
  spark := .fresh 5 false (.spark false)
  gv1 := .fresh 0 false (.gas false)
  gv2 := .fresh 0 false (.gas false)
  diverter := .fresh 0 false (.steady false)
  zone1 := .fresh 0 false (.steady false)
  zone2 := .fresh 0 false (.steady false)
  coils := ⟨.fresh, .fresh⟩
  lines := TripSet.empty
  dtTimer := none
  test := ⟨[], none, .none⟩

/-- R126, R136, R137, R138. -/
def Flt.atReset : Flt where
  active := []
  lockout := none
  resetCounter := 0
  lastCreation := 0
  decay := none
  conditions := ⟨false, false, false, false, false⟩
  ring := List.replicate 32 ⟨none, none⟩
  ringBuilt := false
  early := []
  alarmActive := true
  alarmHigh := false

/-- R149: a slot right after a reset. -/
def SlotRecord.fresh : SlotRecord := ⟨false, none, .disabled, 0, none, false, 0, 0, 0⟩

/-- R140, R145, R146, R148, R149, R154, R155. -/
def Rlc.atReset : Rlc where
  slots := ⟨.fresh, .fresh, .fresh, .fresh⟩
  fifo := []
  level := false
  receiving := none
  foreign := false
  broken := false
  restoring := 0
  idle := 0
  exchange := .none
  dropped := false
  pointer := none
  onTimeRun := 0
  pollsSent := 0
  skippedPolls := 0
  shorts := 0
  offTimer := none
  cleanTimer := none
  planMode := .none
  planRequest := false
  lockoutPresent := false
  displayed := none
  poll := []

/-- A frame before its first command. -/
def Frame.fresh : Frame := ⟨[], false, 0, false, false, false, false, false, []⟩

/-- R161, R172: a port right after a reset. -/
def PortRecord.atReset : PortRecord where
  pointers := List.replicate 7 0
  counters := ⟨0, 0, 0, 0, 0, 0⟩
  frame := Frame.fresh

/-- R157, R159, R166, R168, R169, R170, R171. -/
def Prt.atReset : Prt where
  control := PortRecord.atReset
  service := PortRecord.atReset
  replyState := .empty
  overrunFlag := false
  reply := []
  sdo := []
  serviceState := .free
  receiver := .idle
  txd := []
  staged := none
  notices := []
  overflow := false
  heartbeat := none
  timeout := 2
  expiredFlag := false
  expiredNote := false
  brst := none
  attn := false
  softReset := none

/-- R175, R177, R181: the store right after a reset. The parameters in use are the built-in defaults until the start-up
reads are handed over. DESIGN CHOICE: until then the working counters hold 0 (R184; log entry 81) and the default table is
marked VALID (R180; log entry 82). -/
def Sto.atReset (nv : Nv) (trim : Trim) (reloadTrim : Bool) : Sto where
  settings := Settings.default
  table := CombustionTable.default
  tableValid := true
  trim := trim
  trimGood := true
  counters := ⟨0, 0, 0⟩
  dirty := []
  inFlight := none
  startup := some Config.startupReadMs
  reloadTrim := reloadTrim
  nv := nv

/-- Operating time starts with the end of the reset. -/
def Clock.atReset : Clock := ⟨0, 0, false, false, []⟩

end Sys2Proof.Machine
end

