-- ==== Sys2Proof/Machine/State.lean ====
section
/-! DEFINITION. The state of the KC-4120 as plain data, the state right after a reset, and the reasons a command can
stop. INVENTORY.md, "State", lists every field with the rule that names it. -/

namespace Sys2Proof.Machine

/-- The state of the KC-4120: one record for each of its nine blocks (00_scope.md, "Blocks"), whether the supply is
there, the model's clock, and the queue of waiting commands. -/
structure State where
  powered : Bool
  mfe : Mfe
  dta : Dta
  fre : Fre
  bsq : Bsq
  ocu : Ocu
  flt : Flt
  rlc : Rlc
  prt : Prt
  sto : Sto
  clock : Clock
  /-- The commands that are waiting, first in, first out. -/
  pending : List Instr
  deriving DecidableEq, Repr

/-- No command of this block stops with a fault: the rules give every command an effect in every state, the effect "none"
among them (log entry 2). The type has no constructor. -/
inductive Fault where
  deriving DecidableEq, Repr

/-- Why a command is refused. -/
inductive Refusal where
  /-- Raised by `exec` for a command that has no meaning yet; safe, since nothing is then claimed of it. No arm of
  `exec` gives it. -/
  | notModelled (mnemonic : String)
  deriving DecidableEq, Repr

/-- The state that a reset leaves, given the non-volatile blocks, the working trim copy, whether the coming start-up
reads set that copy again, and the waiting commands (R5, R18, R22, R35, R46, R47, R66, R98, R136, R149, R157, R186). -/
def State.afterReset (nv : Nv) (trim : Trim) (reloadTrim : Bool) (pending : List Instr) : State where
  powered := true
  mfe := Mfe.atReset
  dta := Dta.atReset
  fre := Fre.atReset
  bsq := Bsq.atReset
  ocu := Ocu.atReset
  flt := Flt.atReset
  rlc := Rlc.atReset
  prt := Prt.atReset
  sto := Sto.atReset nv trim reloadTrim
  clock := Clock.atReset
  pending := pending

/-- The machine right after its first power-on reset: the non-volatile blocks as delivered (log entry 23) and no command
waiting. -/
def State.reset : State := State.afterReset Nv.asDelivered Trim.fallback true []

end Sys2Proof.Machine
end

