-- ==== Sys2Proof/Machine/Ops.lean ====
section
/-! DEFINITION. The named operations over the records: the items of the sets, the published values of the measurement
front end (R8), the views of operating time, the dirty set (R177), notices and ATTN (R170, R171), and the parameters of
the combustion table in use with the gas curve (R64, R69). -/

namespace Sys2Proof.Machine

/-! ### Sets -/

def ntcGet (x : NtcSet α) : NtcChannel → α
  | .flowA => x.flowA
  | .flowB => x.flowB
  | .ret => x.ret
  | .dhwOut => x.dhwOut
  | .dhwIn => x.dhwIn
  | .flue => x.flue
  | .outdoor => x.outdoor

def ntcPut (x : NtcSet α) (ch : NtcChannel) (a : α) : NtcSet α :=
  match ch with
  | .flowA => { x with flowA := a }
  | .flowB => { x with flowB := a }
  | .ret => { x with ret := a }
  | .dhwOut => { x with dhwOut := a }
  | .dhwIn => { x with dhwIn := a }
  | .flue => { x with flue := a }
  | .outdoor => { x with outdoor := a }

def SlotSet.get (x : SlotSet α) : RoomSlot → α
  | .slot1 => x.slot1
  | .slot2 => x.slot2
  | .slot3 => x.slot3
  | .slot4 => x.slot4

def SlotSet.set (x : SlotSet α) (n : RoomSlot) (a : α) : SlotSet α :=
  match n with
  | .slot1 => { x with slot1 := a }
  | .slot2 => { x with slot2 := a }
  | .slot3 => { x with slot3 := a }
  | .slot4 => { x with slot4 := a }

def SlotSet.toList (x : SlotSet α) : List α := [x.slot1, x.slot2, x.slot3, x.slot4]

def ValveSet.get (x : ValveSet α) : GasValve → α
  | .gv1 => x.gv1
  | .gv2 => x.gv2

def ValveSet.set (x : ValveSet α) (v : GasValve) (a : α) : ValveSet α :=
  match v with
  | .gv1 => { x with gv1 := a }
  | .gv2 => { x with gv2 := a }

def SourceSet.get (x : SourceSet α) : Source → α
  | .board => x.board
  | .room n => x.room.get n
  | .service => x.service
  | .tap => x.tap
  | .frost => x.frost
  | .keepwarm => x.keepwarm

def SourceSet.set (x : SourceSet α) (src : Source) (a : α) : SourceSet α :=
  match src with
  | .board => { x with board := a }
  | .room n => { x with room := x.room.set n a }
  | .service => { x with service := a }
  | .tap => { x with tap := a }
  | .frost => { x with frost := a }
  | .keepwarm => { x with keepwarm := a }

def TripSet.get (x : TripSet) : TripLine → Bool
  | .limit => x.limit
  | .cond => x.cond
  | .ext => x.ext

def TripSet.set (x : TripSet) (l : TripLine) (b : Bool) : TripSet :=
  match l with
  | .limit => { x with limit := b }
  | .cond => { x with cond := b }
  | .ext => { x with ext := b }

def TripSet.union (x y : TripSet) : TripSet := ⟨x.limit || y.limit, x.cond || y.cond, x.ext || y.ext⟩

def TripSet.nonempty (x : TripSet) : Bool := x.limit || x.cond || x.ext

/-- The four room slots in order. -/
def allSlots : List RoomSlot := [.slot1, .slot2, .slot3, .slot4]

/-- The sources of class CH in source order (02 §2.1). -/
def chSources : List Source :=
  [.board, .room .slot1, .room .slot2, .room .slot3, .room .slot4, .frost]

/-- All nine sources in source order. -/
def allSources : List Source :=
  [.board, .room .slot1, .room .slot2, .room .slot3, .room .slot4, .service, .tap, .frost, .keepwarm]

/-! ### Times -/

/-- A countdown by 1 ms; at 0 its expiry is due. -/
def countdown : Option Nat → Option Nat
  | none => none
  | some n => some (n - 1)

/-- Whether a timer has run out and its expiry has not been taken. -/
def expired (t : Option Nat) : Bool := t == some 0

/-- A time left in ms as whole seconds (log entry 19); a stopped timer reads 0. -/
def secondsOf (t : Option Nat) : Nat := (t.getD 0) / 1000

/-- A counter that saturates at 65,535. -/
def count16 (n : Nat) : Nat := min 65535 (n + 1)

/-! ### Published measurements (R8) -/

def State.flow (s : State) : Option Int := s.mfe.ntc.flowA.value
def State.returnTemp (s : State) : Option Int := s.mfe.ntc.ret.value
def State.outlet (s : State) : Option Int := s.mfe.ntc.dhwOut.value
def State.inlet (s : State) : Option Int := s.mfe.ntc.dhwIn.value
def State.flue (s : State) : Option Int := s.mfe.ntc.flue.value
def State.outdoor (s : State) : Option Int := s.mfe.ntc.outdoor.value

/-- R8: ΔT is flow minus return, absent when either is. -/
def State.deltaT (s : State) : Option Int :=
  match s.flow, s.returnTemp with
  | some f, some r => some (f - r)
  | _, _ => none

/-- R4: a channel is faulty while OPEN or SHORT, or while its age exceeds 1,000 ms; NOT-FITTED never is. -/
def NtcRecord.faulty (r : NtcRecord) : Bool :=
  match r.status with
  | .notFitted => false
  | .openCircuit => true
  | .shortCircuit => true
  | .ok => 1000 < r.age

/-! ### The active fault set and the lockout record, read -/

def State.isActive (s : State) (k : FaultKey) : Bool := s.flt.active.contains k

def State.locked (s : State) : Bool := s.flt.lockout.isSome

/-! ### The dirty set (R177) -/

/-- Marking an item that is already in the set leaves the set as it was. -/
def markItem (d : List StoreItem) (i : StoreItem) : List StoreItem := if d.contains i then d else d ++ [i]

def State.markDirty (s : State) (i : StoreItem) : State :=
  { s with sto := { s.sto with dirty := markItem s.sto.dirty i } }

/-! ### Notices (R170) -/

/-- A notice posted while 16 are held is dropped and the overflow flag is set. -/
def Prt.post (p : Prt) (n : Notice) : Prt :=
  if p.notices.length < 16 then { p with notices := p.notices ++ [n] } else { p with overflow := true }

def State.post (s : State) (n : Notice) : State := { s with prt := s.prt.post n }

/-! ### The combustion table in use -/

/-- A time parameter in s, as ms. -/
def secondsMs (x : Int) : Nat := x.toNat * 1000

/-- The points of the gas curve that are in use (R64). -/
def CombustionTable.curve (t : CombustionTable) : List CurvePoint := t.points.take t.curveCount.toNat

/-- R64: linear interpolation in the first pair of neighbouring points that holds the rate; a rate equal to a point's
rate gives that point's speed. -/
def interpolate : List CurvePoint → Int → Nat
  | p :: q :: rest, r =>
    if p.rate ≤ r ∧ r ≤ q.rate then
      (p.rpm + divz ((r - p.rate) * (q.rpm - p.rpm)) (q.rate - p.rate)).toNat
    else interpolate (q :: rest) r
  | _, r => Config.curveOutsidePoints r

/-- `curve(rate)` of the sequencer's chapter (R64). -/
def CombustionTable.speedFor (t : CombustionTable) (r : Int) : Nat := interpolate t.curve r

/-- Rates and speeds both strictly increase (R64). -/
def strictlyRising : List CurvePoint → Bool
  | p :: q :: rest => p.rate < q.rate && p.rpm < q.rpm && strictlyRising (q :: rest)
  | _ => true

/-- The curve rules over the first count points (R64, R167). -/
def CombustionTable.curveOk (t : CombustionTable) : Bool :=
  2 ≤ t.curveCount && t.curveCount ≤ 8 && t.curve.length == t.curveCount.toNat
  && t.curve.all (fun p => 0 ≤ p.rate && p.rate ≤ 1000 && 600 ≤ p.rpm && p.rpm ≤ 7500)
  && strictlyRising t.curve
  && (match t.curve.head? with | some p => p.rate ≤ t.rmin | none => false)
  && (match t.curve.getLast? with | some p => p.rate == 1000 | none => false)

/-- The ranges of the eighteen scalar parameters, in the order of the COMBUSTION space (R69, 09 §9.5). -/
def tableRanges : List (Int × Int) :=
  [(120, 400), (80, 300), (500, 1000), (150, 350), (800, 1000), (5, 30), (1, 5), (5, 30), (10, 30), (5, 60), (1, 4),
   (10, 60), (50, 400), (3000, 7500), (1500, 7500), (200, 600), (20, 200), (300, 700), (2, 8)]

/-- The scalar parameters in that order, the point count last. -/
def CombustionTable.scalars (t : CombustionTable) : List Int :=
  [t.pnom, t.rmin, t.dhwMax, t.dtMax, t.derateStart, t.prePurge, t.safetyTime, t.stabilise, t.interPurge,
   t.postPurge, t.attempts, t.provingTimeout, t.fanBand, t.purgeSpeed, t.postPurgeSpeed, t.ignitionRate, t.pullIn,
   t.holdDuty, t.curveCount]

/-- Every parameter lies in its range. -/
def CombustionTable.inRange (t : CombustionTable) : Bool :=
  ((t.scalars.zip tableRanges).all fun x => x.2.1 ≤ x.1 && x.1 ≤ x.2.2)

/-- A valid table (09 §9.5, R167). -/
def CombustionTable.valid (t : CombustionTable) : Bool :=
  t.inRange && t.curveOk && t.rmin ≤ t.ignitionRate && t.ignitionRate ≤ t.dhwMax
  && (t.speedFor t.ignitionRate : Int) ≤ t.purgeSpeed

/-- The nominal output in W (R47). -/
def CombustionTable.pnomWatts (t : CombustionTable) : Int := t.pnom * 100

/-! ### Reported rate and power (R47) -/

def State.reportedRate (s : State) : Int :=
  match s.bsq.state with
  | .safetyTime => s.sto.table.ignitionRate
  | .stabilise => s.sto.table.ignitionRate
  | .running => s.fre.lastRate
  | _ => 0

def State.reportedPower (s : State) : Int := divz (s.reportedRate * s.sto.table.pnomWatts) 1000

/-! ### Operating time -/

/-- R133: operating time in seconds from the last reset. -/
def State.seconds (s : State) : Nat := s.clock.now / 1000

/-- R176: the operating minute. -/
def State.minute (s : State) : Nat := s.sto.counters.minutes

/-- A meaning runs while the part is powered; without supply a command finds nothing to act on (log entry 6). -/
def State.live (s : State) (f : State → State) : State := if s.powered then f s else s

end Sys2Proof.Machine
end

