-- ==== Sys2Proof/Machine/Channels.lean ====
section
/-! DEFINITION. The output channel unit: what a command, a trip line, a re-arm, a period start and an output test do to
the channel records (05_output_channels.md). -/

namespace Sys2Proof.Machine

def Ocu.get (o : Ocu) : Channel → ChannelRecord
  | .fan => o.fan
  | .pump => o.pump
  | .spark => o.spark
  | .gv1 => o.gv1
  | .gv2 => o.gv2
  | .diverter => o.diverter
  | .zone1 => o.zone1
  | .zone2 => o.zone2

def Ocu.set (o : Ocu) (ch : Channel) (r : ChannelRecord) : Ocu :=
  match ch with
  | .fan => { o with fan := r }
  | .pump => { o with pump := r }
  | .spark => { o with spark := r }
  | .gv1 => { o with gv1 := r }
  | .gv2 => { o with gv2 := r }
  | .diverter => { o with diverter := r }
  | .zone1 => { o with zone1 := r }
  | .zone2 => { o with zone2 := r }

/-- The channel of a gas valve. -/
def valveChannel : GasValve → Channel
  | .gv1 => .gv1
  | .gv2 => .gv2

/-- The channel that a test channel names. -/
def testTarget : TestChannel → Channel
  | .fan => .fan
  | .pump => .pump
  | .diverter => .diverter
  | .zone1 => .zone1
  | .zone2 => .zone2

/-! ### The fixed configuration (05 §5.1) -/

/-- The mode of a channel. -/
inductive ChannelMode where
  | steady | pwm | pulseTrain | pullHold
  deriving DecidableEq, Repr

def channelMode : Channel → ChannelMode
  | .fan => .pwm
  | .pump => .pwm
  | .spark => .pulseTrain
  | .gv1 => .pullHold
  | .gv2 => .pullHold
  | .diverter => .steady
  | .zone1 => .steady
  | .zone2 => .steady

/-- The period in µs; 0 for a channel that has none. -/
def channelPeriod : Channel → Nat
  | .fan => 200
  | .pump => 1000
  | .spark => 40000
  | .gv1 => 500
  | .gv2 => 500
  | .diverter => 0
  | .zone1 => 0
  | .zone2 => 0

/-- Whether the trip lines are enabled on the channel; such a channel is LATCHED with trip level LOW, every other one is
FOLLOW and is never tripped. -/
def hasTripLines : Channel → Bool
  | .spark => true
  | .gv1 => true
  | .gv2 => true
  | _ => false

/-- The logical output at a place of the period, in ‰ of the period (R100 to R102). -/
def logicalOutput (ch : Channel) (r : ChannelRecord) (place : Nat) : Bool :=
  r.state == .active &&
  match channelMode ch with
  | .steady => true
  | .pwm => place < r.compareA
  | .pulseTrain => 0 < r.pulseCount && r.compareA ≤ place && place < r.compareB
  | .pullHold => r.phase == some .pullIn || place < r.compareA

/-- The level of the pin: the opposite of the logical output when invert is yes (R100). -/
def pinLevel (ch : Channel) (r : ChannelRecord) (place : Nat) : Bool := xor r.invert (logicalOutput ch r place)

/-! ### IDLE, FAN, PUMP and the STEADY channels -/

/-- A channel that becomes IDLE goes to its off level at once (R99, R100). -/
def ChannelRecord.off (r : ChannelRecord) : ChannelRecord :=
  { r with state := .idle, phase := none, duty := 0, compareA := 0 }

/-- R112: a target of 0 acts at once; a new target taken with the channel IDLE makes it ACTIVE with duty 0; otherwise
the duty is kept. -/
def ChannelRecord.takeFan (r : ChannelRecord) (target : Nat) : ChannelRecord :=
  if target = 0 then r.off
  else match r.state with
    | .active => r
    | _ => { r.off with state := .active }

/-- The fan target in an owner command. -/
def OwnerCommand.fanRpm : OwnerCommand → Nat
  | .fanTarget n => n
  | _ => 0

/-- The fan target in force: the test level while a FAN test stands, otherwise the sequencer's (R111). -/
def Ocu.fanInForce (o : Ocu) : Nat := o.fan.testLevel.getD o.fan.owner.fanRpm

/-- R103, R104: the owner command is replaced, and applied unless a test stands. -/
def Ocu.commandFan (o : Ocu) (target : Nat) : Ocu :=
  let r := { o.fan with owner := .fanTarget target }
  { o with fan := if r.testLevel.isSome then r else r.takeFan target }

/-- R113: the duty and the state that a pump request gives. -/
def ChannelRecord.takePump (r : ChannelRecord) : PumpRequest → ChannelRecord
  | .off => r.off
  | .min => { r with state := .active, duty := 300 }
  | .max => { r with state := .active, duty := 1000 }
  | .dtControl => { r with state := .active, duty := 600 }

/-- R114: the ΔT step timer on entering a request. -/
def dtTimerFor : PumpRequest → Option Nat
  | .dtControl => some Config.dtStepMs
  | _ => none

/-- R113: a request that is handed over again without change leaves the duty as it is. -/
def Ocu.commandPump (o : Ocu) (req : PumpRequest) : Ocu :=
  if o.pump.owner = .pumpRequest req then o
  else
    let r := { o.pump with owner := .pumpRequest req }
    if r.testLevel.isSome then { o with pump := r }
    else { o with pump := r.takePump req, dtTimer := dtTimerFor req }

/-- R100: a STEADY channel moves between ACTIVE and IDLE at once. -/
def ChannelRecord.takeSteady (r : ChannelRecord) (energised : Bool) : ChannelRecord :=
  { r with state := if energised then .active else .idle }

/-- R115, with R104 while a test stands. -/
def ChannelRecord.commandSteady (r : ChannelRecord) (energised : Bool) : ChannelRecord :=
  let r := { r with owner := .steady energised }
  if r.testLevel.isSome then r else r.takeSteady energised

/-! ### GV1, GV2 and SPARK -/

/-- The coil supervision of a channel that becomes IDLE or TRIPPED from ACTIVE (R118). -/
def CoilRecord.rest (c : CoilRecord) : CoilRecord :=
  { c with pullIn := none, checks := 0, nextCheck := some Config.coilPeriodMs }

/-- R102: an open command. A TRIPPED channel ignores it (R103). DEDUCED: R102 gives the phase PULL-IN no duty; "fully on" is
read as 1000 ‰ (log entry 57). -/
def Ocu.openValve (o : Ocu) (v : GasValve) (t : CombustionTable) : Ocu :=
  let r := o.get (valveChannel v)
  match r.state with
  | .active => o.set (valveChannel v) { r with owner := .gas true }
  | .tripped => o
  | _ =>
    let o := o.set (valveChannel v)
      { r with state := .active, phase := some .pullIn, duty := 1000, compareA := 1000, counter := 0, owner := .gas true }
    let c := { o.coils.get v with
      pullIn := some t.pullIn.toNat, holdDuty := t.holdDuty.toNat, checks := 0, nextCheck := none }
    { o with coils := o.coils.set v c }

/-- R102: a close command; a TRIPPED channel records it and stays TRIPPED (R103). -/
def Ocu.closeValve (o : Ocu) (v : GasValve) : Ocu :=
  let r := { o.get (valveChannel v) with owner := .gas false }
  match r.state with
  | .active =>
    let o := o.set (valveChannel v) r.off
    { o with coils := o.coils.set v (o.coils.get v).rest }
  | _ => o.set (valveChannel v) r

/-- R101: a trigger. A TRIPPED channel ignores it (R103). -/
def ChannelRecord.trigger (r : ChannelRecord) : ChannelRecord :=
  match r.state with
  | .active => { r with owner := .spark true }
  | .tripped => r
  | _ => { r with state := .active, pulseCount := 0, owner := .spark true }

/-- R101: a stop; the pulse count of the stopped train stays readable. -/
def ChannelRecord.stop (r : ChannelRecord) : ChannelRecord :=
  let r := { r with owner := .spark false }
  match r.state with
  | .active => { r with state := .held }
  | _ => r

/-- R102: the pull-in ends and the phase becomes HOLD at the hold duty. -/
def Ocu.endPullIn (o : Ocu) (v : GasValve) : Ocu :=
  let r := o.get (valveChannel v)
  if r.state = .active ∧ r.phase = some .pullIn then
    let c := o.coils.get v
    let o := o.set (valveChannel v) { r with phase := some .hold, duty := c.holdDuty }
    { o with coils := o.coils.set v { c with pullIn := none, nextCheck := some Config.coilSettleMs } }
  else o

/-- R109: the refused opens of a gas open command and of a spark trigger: one for the gas channels, with the union of
the cause sets of the TRIPPED ones, and one for SPARK. -/
def Ocu.refusedOpens (o : Ocu) : List RefusedOpen :=
  let valves := ([Channel.gv1, .gv2].filter fun ch => (o.get ch).state == .tripped)
  let causes := valves.foldl (fun c ch => c.union (o.get ch).tripCauses) TripSet.empty
  (if valves.isEmpty then [] else [⟨valves, causes⟩])
  ++ (if o.spark.state = .tripped then [⟨[.spark], o.spark.tripCauses⟩] else [])

/-! ### Trip lines and re-arm -/

/-- R106: what a line going active does to a channel that has it enabled, in any state. -/
def ChannelRecord.trip (r : ChannelRecord) (l : TripLine) : ChannelRecord :=
  { r with state := .tripped, phase := none, duty := 0, compareA := 0, tripCauses := r.tripCauses.set l true,
           rearmPending := false }

/-- R106, R118: the coil supervision of a tripped gas channel; moving between IDLE and TRIPPED does not restart the grid
of checks. -/
def CoilRecord.trip (c : CoilRecord) (was : ChannelState) : CoilRecord := if was = .active then c.rest else c

/-- R106: SPARK, GV1 and GV2 are tripped in one event. -/
def Ocu.tripAll (o : Ocu) (l : TripLine) : Ocu :=
  { o with
    lines := o.lines.set l true
    spark := o.spark.trip l
    gv1 := o.gv1.trip l
    gv2 := o.gv2.trip l
    coils := ⟨o.coils.gv1.trip o.gv1.state, o.coils.gv2.trip o.gv2.state⟩ }

/-- R106: the causes that a trip report carries. -/
def Ocu.causes (o : Ocu) : TripSet := (o.spark.tripCauses.union o.gv1.tripCauses).union o.gv2.tripCauses

/-- R91, R109: the cause set of GV1 and GV2 where either is TRIPPED. -/
def Ocu.gasTrip (o : Ocu) : Option TripSet :=
  match o.gv1.state, o.gv2.state with
  | .tripped, .tripped => some (o.gv1.tripCauses.union o.gv2.tripCauses)
  | .tripped, _ => some o.gv1.tripCauses
  | _, .tripped => some o.gv2.tripCauses
  | _, _ => none

/-- The result of a re-arm request (R108). -/
inductive RearmResult where
  | refused | pending | done
  deriving DecidableEq, Repr

/-- R108, by the channel's state and its enabled trip lines. -/
def ChannelRecord.rearmResult (r : ChannelRecord) (lines : TripSet) : RearmResult :=
  if r.state = .active then .done else if lines.nonempty then .refused else .pending

/-- R75, R106: the channels that have trip lines enabled, the ones that a re-arm is asked for. -/
def rearmChannels : List Channel := [.spark, .gv1, .gv2]

/-- R108: the report of a refused re-arm of a channel, as the channel and the lines stand. -/
def Ocu.refusal (o : Ocu) (ch : Channel) : RearmRefusal := ⟨ch, (o.get ch).tripCauses, o.lines⟩

/-- R108: the channels whose re-arm would be refused at once. -/
def Ocu.refusing (o : Ocu) : List Channel := rearmChannels.filter fun ch => (o.get ch).rearmResult o.lines == .refused

/-- R108: the channels whose re-arm is pending. -/
def Ocu.rearming (o : Ocu) : List Channel := rearmChannels.filter fun ch => (o.get ch).rearmPending

/-- R108: re-arm pending is set. -/
def ChannelRecord.askRearm (r : ChannelRecord) (lines : TripSet) : ChannelRecord :=
  if r.rearmResult lines = .pending then { r with rearmPending := true } else r

/-- R108: the re-arm completes at the channel's period start. A HELD channel is left IDLE with pulse count 0 (R101). -/
def ChannelRecord.completeRearm (r : ChannelRecord) : ChannelRecord :=
  if r.rearmPending then
    { r with state := .idle, phase := none, tripCauses := TripSet.empty, rearmPending := false,
             pulseCount := if r.state = .held then 0 else r.pulseCount }
  else r

/-- R99, R101: what else a period start does: a new compare value enters the waveform, and an ACTIVE train gives a pulse. -/
def ChannelRecord.loadPeriod (r : ChannelRecord) (ch : Channel) (pumpInverted : Bool) : ChannelRecord :=
  let r := { r with counter := 0 }
  match channelMode ch with
  | .pwm =>
    { r with compareA := if r.state = .active then r.duty else 0,
             invert := if ch = .pump then pumpInverted else r.invert }
  | .pulseTrain => if r.state = .active then { r with pulseCount := min 255 (r.pulseCount + 1) } else r
  | .pullHold => if r.phase = some .hold then { r with compareA := r.duty } else r
  | .steady => r

/-- Whether a period start would change the channel's record. -/
def ChannelRecord.periodMatters (r : ChannelRecord) (ch : Channel) (pumpInverted : Bool) : Bool :=
  r.rearmPending || ({ r with counter := 0 } : ChannelRecord).loadPeriod ch pumpInverted != { r with counter := 0 }

/-! ### The output test (R104, R186 to R189) -/

/-- A channel follows a test level in place of its owner command (R104). -/
def Ocu.force (o : Ocu) (c : TestChannel) (level : Nat) : Ocu :=
  match c with
  | .pump =>
    let r := { o.pump with testLevel := some level }
    { o with pump := if level = 0 then r.off else { r with state := .active, duty := level }, dtTimer := none }
  | .fan => { o with fan := ({ o.fan with testLevel := some level } : ChannelRecord).takeFan level }
  | .diverter => { o with diverter := ({ o.diverter with testLevel := some level } : ChannelRecord).takeSteady (level ≠ 0) }
  | .zone1 => { o with zone1 := ({ o.zone1 with testLevel := some level } : ChannelRecord).takeSteady (level ≠ 0) }
  | .zone2 => { o with zone2 := ({ o.zone2 with testLevel := some level } : ChannelRecord).takeSteady (level ≠ 0) }

/-- Whether an owner command energises a STEADY channel. -/
def OwnerCommand.energises : OwnerCommand → Bool
  | .steady b => b
  | _ => false

/-- The pump request in an owner command. -/
def OwnerCommand.pump : OwnerCommand → PumpRequest
  | .pumpRequest r => r
  | _ => .off

/-- R104, R189: the test level becomes absent and the channel acts at once on the owner command in force. -/
def Ocu.unforce (o : Ocu) (c : TestChannel) : Ocu :=
  match c with
  | .pump =>
    { o with pump := ({ o.pump with testLevel := none } : ChannelRecord).takePump o.pump.owner.pump,
             dtTimer := dtTimerFor o.pump.owner.pump }
  | .fan => { o with fan := ({ o.fan with testLevel := none } : ChannelRecord).takeFan o.fan.owner.fanRpm }
  | .diverter =>
    { o with diverter := ({ o.diverter with testLevel := none } : ChannelRecord).takeSteady o.diverter.owner.energises }
  | .zone1 => { o with zone1 := ({ o.zone1 with testLevel := none } : ChannelRecord).takeSteady o.zone1.owner.energises }
  | .zone2 => { o with zone2 := ({ o.zone2 with testLevel := none } : ChannelRecord).takeSteady o.zone2.owner.energises }

/-- Whether an output test is RUNNING (R186). -/
def Ocu.testing (o : Ocu) : Bool := o.test.timer.isSome

/-- R187: the channel is added to the list with its level, or its level is replaced if it is already listed. -/
def listTest (l : List (TestChannel × Nat)) (c : TestChannel) (level : Nat) : List (TestChannel × Nat) :=
  if l.any (fun x => x.1 == c) then l.map (fun x => if x.1 = c then (c, level) else x) else l ++ [(c, level)]

/-- R189: every listed channel returns to its owner command; the list is emptied and the end cause recorded. -/
def Ocu.endTest (o : Ocu) (cause : TestEnd) : Ocu :=
  let o' := o.test.listed.foldl (fun o x => o.unforce x.1) o
  { o' with test := ⟨[], none, cause⟩ }

/-- R46: the homing move. -/
def Dta.home (d : Dta) : Dta :=
  { d with divState := .movingToCh, divLeft := Config.diverterMoveMs, homing := true }

/-- R189: a running test ends; a test that listed DIVERTER starts the homing move. An IDLE test is left as it is. -/
def State.endTest (s : State) (cause : TestEnd) : State :=
  if s.ocu.testing then
    { s with
      dta := if s.ocu.test.listed.any (fun x => x.1 == .diverter) then s.dta.home else s.dta
      ocu := (if s.ocu.test.listed.any (fun x => x.1 == .diverter)
              then { s.ocu with diverter := { s.ocu.diverter with owner := .steady false } } else s.ocu).endTest cause }
  else s

/-! ### The fan speed loop and the pump ΔT loop -/

/-- R111: one step of the fan speed loop. -/
def ChannelRecord.stepFan (r : ChannelRecord) (target measured : Nat) : ChannelRecord :=
  if target = 0 then { r with duty := 0 }
  else
    let change := clampInt (-40) 40 (divz ((target : Int) - measured) 16)
    { r with duty := (clampInt 0 1000 ((r.duty : Int) + change)).toNat }

/-- R114: one step of the pump duty on the published ΔT. -/
def stepPump (duty : Nat) (target : Int) (dt : Option Int) : Nat :=
  let change : Int :=
    match dt with
    | none => 0
    | some x => if target + 20 < x then 50 else if x < target - 20 then -50 else 0
  (clampInt 300 1000 ((duty : Int) + change)).toNat

/-! ### Coil supervision (R116 to R118) -/

/-- The classes of a coil reading (R116). -/
inductive CoilClass where
  | zero | low | holdBand | high
  deriving DecidableEq, Repr

def coilClass (mA : Nat) : CoilClass :=
  if mA < 10 then .zero else if mA < 60 then .low else if mA ≤ 400 then .holdBand else .high

/-- One coil check: a right current sets the count to 0 and clears the flag; any other adds one, and at 3 the flag is
set and the count set to 0. -/
def CoilRecord.check (c : CoilRecord) (mA : Nat) (right : Bool) : CoilRecord :=
  let c := { c with reading := mA, nextCheck := some Config.coilPeriodMs }
  if right then { c with checks := 0, faultFlag := false }
  else if 2 ≤ c.checks then { c with checks := 0, faultFlag := true }
  else { c with checks := c.checks + 1 }

/-- R117: the kind of a coil fault whose third reading in phase HOLD is of this class. -/
def CoilClass.heldKind : CoilClass → CoilFaultKind
  | .high => .shortCircuit
  | _ => .openCircuit

/-- Whether that check reports a coil fault: the count reaches 3 and the flag was not set. -/
def CoilRecord.reports (c : CoilRecord) (right : Bool) : Bool := !right && 2 ≤ c.checks && !c.faultFlag

end Sys2Proof.Machine
end

