-- ==== Sys2Proof/Machine/Firing.lean ====
section
/-! DEFINITION. The fan target and the band record of the burner sequencer (R72, R77), and the firing-rate engine: CH
targets, caps, the controllers and the handover of the rate (03_firing_rate_computation.md). -/

namespace Sys2Proof.Machine

/-! ### The fan target and the band record -/

/-- The six states in which the band record is kept (R77). -/
def SeqState.keepsBand : SeqState → Bool
  | .prePurge => true
  | .ignitionSpeed => true
  | .interPurge => true
  | .safetyTime => true
  | .stabilise => true
  | .running => true
  | _ => false

/-- R77: the magnitude of measured minus target is at most the fan band. -/
def inFanBand (measured target : Nat) (band : Int) : Bool :=
  (((measured : Int) - target).natAbs : Int) ≤ band

/-- R77: a judgement of OUT sets the in-band run to 0, a judgement of IN the out-of-band run. -/
def Band.judge (b : Band) (isIn : Bool) : Band :=
  if isIn then { b with inBand := true, outRun := 0 } else { b with inBand := false, inRun := 0 }

/-- R77: the band judgement on the latest measured speed, in the states that keep the record. -/
def Bsq.judgeBand (b : Bsq) (measured : Nat) (fanBand : Int) : Bsq :=
  if b.state.keepsBand then { b with band := b.band.judge (inFanBand measured b.fanTarget fanBand) } else b

/-- R72: a new fan target is handed to the output channel unit at once, and is judged (R77). -/
def State.setFanTarget (s : State) (target : Nat) : State :=
  { s with
    bsq := ({ s.bsq with fanTarget := target } : Bsq).judgeBand s.mfe.fanSpeed s.sto.table.fanBand
    ocu := s.ocu.commandFan target }

/-! ### CH flow targets (R52 to R54) -/

/-- R52: the base of an entry's CH target. -/
def targetBase (e : Entry) (set : Settings) (outdoor : Option Int) : Int :=
  match e.flowRequest with
  | some f => f
  | none =>
    match outdoor with
    | some out =>
      let rs := match e.roomPair with | some p => p.setpoint | none => set.defaultRoom
      rs + divz (set.curveSlope * (rs - out)) 10 + set.curveShift
    | none => set.chFlowMax

/-- R53: the room influence, and the clamp to CH flow min and CH flow max. -/
def chTarget (e : Entry) (set : Settings) (outdoor : Option Int) : Int :=
  let influence := match e.roomPair with
    | some p => divz (set.roomInfluence * (p.setpoint - p.actual)) 10
    | none => 0
  clampInt set.chFlowMin set.chFlowMax (targetBase e set outdoor + influence)

/-- R52: the outdoor value that the weather curve may use: fitted, not faulty and present. DESIGN CHOICE: a channel that becomes
faulty by its age alone re-forms the targets at the end of the next event of any kind (R54; log entry 67). -/
def State.curveOutdoor (s : State) : Option Int :=
  if s.sto.settings.outdoorFitted && !s.mfe.ntc.outdoor.faulty then s.outdoor else none

/-- R54: the target of every CH-class entry present in the table. -/
def State.formedTargets (s : State) : SourceSet (Option Int) :=
  let f := fun (e : Option Entry) => e.map fun e => chTarget e s.sto.settings s.curveOutdoor
  let t := s.dta.table
  ⟨f t.board, ⟨f t.room.slot1, f t.room.slot2, f t.room.slot3, f t.room.slot4⟩, none, none, f t.frost, none⟩

def State.formTargets (s : State) : State := { s with fre := { s.fre with targets := s.formedTargets } }

/-! ### Caps (R59 to R62) -/

/-- R59: the mode max of a served mode. -/
def modeMaxOf (t : CombustionTable) (set : Settings) : Mode → Int
  | .ch => max set.chMaxRate t.rmin
  | _ => t.dhwMax

/-- R59: while NONE is served, the mode max of the mode served before. -/
def State.modeMax (s : State) : Int :=
  match s.fre.served with
  | .none =>
    match s.fre.lastServed with
    | none => Config.modeMaxNeverServed
    | some m => modeMaxOf s.sto.table s.sto.settings m
  | m => modeMaxOf s.sto.table s.sto.settings m

/-- R60: the flue cap. -/
def flueCap (t : CombustionTable) (modeMax : Int) : Option Int → Int
  | none => t.rmin
  | some flue =>
    if flue ≤ t.derateStart then modeMax
    else if flue < t.derateStart + 200 then
      max t.rmin (modeMax - divz ((modeMax - t.rmin) * (flue - t.derateStart)) 200)
    else t.rmin

/-- R61: the ΔT cap. -/
def deltaTCap (t : CombustionTable) (modeMax : Int) : Option Int → Int
  | none => t.rmin
  | some dt => if dt ≤ t.dtMax then modeMax else max t.rmin (modeMax - 4 * (dt - t.dtMax))

/-- Whether the diverter counts as moving (R44). -/
def DiverterState.moving : DiverterState → Bool
  | .movingToDhw => true
  | .movingToCh => true
  | _ => false

/-- R62: the diverter cap. -/
def diverterCap (t : CombustionTable) (modeMax : Int) (d : DiverterState) : Int :=
  if d.moving then t.rmin else modeMax

/-- The four caps from their inputs as they stand (03 §3.5). -/
def State.formedCaps (s : State) : Caps :=
  ⟨s.modeMax, flueCap s.sto.table s.modeMax s.flue, deltaTCap s.sto.table s.modeMax s.deltaT,
   diverterCap s.sto.table s.modeMax s.dta.divState⟩

/-- The least of the four caps. -/
def Caps.least (c : Caps) : Int := min (min c.mode c.flue) (min c.deltaT c.diverter)

/-- Which of the flue, ΔT and diverter caps hold the rate on their own account, not merely by standing at the mode max:
R62's names, read with 10 §10.4 (log entry 15). -/
structure ActiveCaps where
  diverter : Bool
  flue : Bool
  deltaT : Bool

def State.activeCaps (s : State) : ActiveCaps where
  diverter := s.dta.divState.moving
  flue := match s.flue with | none => true | some x => s.sto.table.derateStart < x
  deltaT := match s.deltaT with | none => true | some x => s.sto.table.dtMax < x

/-- R62: the first bound, in the rule's order, whose value is `v`; `own` names the controller or the selection. DESIGN CHOICE: a
requested SERVICE rate that equals the mode max is named MODE, as R62's order has it, not SELECTION (log entry 53). -/
def boundName (c : Caps) (a : ActiveCaps) (ramp : Option Int) (own : LimitReason) (v : Int) : LimitReason :=
  if a.diverter && c.diverter == v then .diverter
  else if a.flue && c.flue == v then .flue
  else if a.deltaT && c.deltaT == v then .deltaT
  else if c.mode == v then .mode
  else if ramp == some v then .ramp
  else own

/-- A rate and the bound that gave it: the least of the wanted rate, the ramp limit and the caps, raised to rmin (R55,
R58, R63); FLOOR where rmin raised it (R62). -/
def boundedRate (c : Caps) (a : ActiveCaps) (rmin wanted : Int) (ramp : Option Int) (own : LimitReason) :
    Int × LimitReason :=
  let least := match ramp with
    | none => min wanted c.least
    | some l => min (min wanted c.least) l
  if least < rmin then (rmin, .floor) else (least, boundName c a ramp own least)

/-! ### The handover of the rate (R65) -/

/-- R65, R72: a changed last rate is handed to the sequencer, which in RUNNING sets its fan target to curve(last rate). -/
def State.handRate (s : State) (r : Int) : State :=
  let s' := { s with fre := { s.fre with lastRate := r } }
  if r = s.fre.lastRate then s'
  else if s.bsq.state = .running then s'.setFanTarget (s.sto.table.speedFor r) else s'

/-- A new rate with its limiting reason. -/
def State.takeRate (s : State) (r : Int × LimitReason) : State :=
  let s' := s.handRate r.1
  { s' with fre := { s'.fre with reason := r.2 } }

/-- R62: the caps are recomputed, and while RUNNING a last rate above the least cap is lowered to it at once, never below
rmin. -/
def State.applyCaps (s : State) : State :=
  let c := s.formedCaps
  let s' := { s with fre := { s.fre with caps := c } }
  if s.bsq.state = .running ∧ c.least < s.fre.lastRate then
    s'.takeRate (boundedRate c s.activeCaps s.sto.table.rmin c.least none .mode)
  else s'

/-! ### The controllers -/

/-- R55: the control error, clamped to −300 to +300. -/
def controlError (target actual : Int) : Int := clampInt (-300) 300 (target - actual)

/-- R50: the bumpless load of the CH integral. -/
def State.bumplessLoad (s : State) : State :=
  let p : Int := match s.dta.plan.target, s.flow with
    | some t, some f => divz (30 * controlError t f) 10
    | _, _ => 0
  { s with fre := { s.fre with chI := clampInt 0 1000 (s.fre.lastRate - p) } }

/-- R56: the integral keeps its old value when the rate could not follow the controller in the direction of the error. -/
def windedIntegral (lo hi old candidate r raw e : Int) : Int :=
  if r < raw ∧ 0 < e then old
  else if raw < r ∧ e < 0 then old
  else clampInt lo hi candidate

/-- The numbers of one CH computation (R55): e, the candidate integral and raw. -/
def chTerms (i target flow : Int) : Int × Int × Int :=
  let e := controlError target flow
  let cand := i + divz (5 * e) 100
  (e, cand, divz (30 * e) 10 + cand)

/-- R55, R56: one CH computation. An absent target or flow forms no new rate. -/
def State.chCompute (s : State) : State :=
  match s.dta.plan.target, s.flow with
  | some t, some f =>
    let x := chTerms s.fre.chI t f
    let r := boundedRate s.formedCaps s.activeCaps s.sto.table.rmin x.2.2 (some (s.fre.lastRate + 50)) .control
    let s' := s.takeRate r
    { s' with fre := { s'.fre with chI := windedIntegral 0 1000 s.fre.chI x.2.1 r.1 x.2.2 x.1 } }
  | _, _ => s

/-- R57: the feed-forward rate; an inlet that is absent, or while A06 is active, is taken as 10.0 °C. -/
def feedForward (tapFlow : Nat) (setpoint inlet pnomWatts : Int) : Int :=
  let rise := max 0 (setpoint - inlet)
  let power := divz ((tapFlow : Int) * rise * 6977) 100000
  divz (power * 1000) pnomWatts

def State.inletForRate (s : State) : Int :=
  if s.isActive .a06 then 100 else s.inlet.getD 100

/-- The numbers of one DHW computation (R57, R58): e, the candidate integral and raw. -/
def dhwTerms (i ff setpoint outlet : Int) : Int × Int × Int :=
  let e := controlError setpoint outlet
  let cand := clampInt (-200) 200 (i + divz (10 * e) 100)
  (e, cand, ff + divz (20 * e) 10 + cand)

/-- R57, R58: one DHW computation. An absent outlet value makes none. -/
def State.dhwCompute (s : State) : State :=
  match s.outlet with
  | some o =>
    let set := s.dta.plan.dhwSetpoint
    let ff := feedForward s.mfe.tapFlow set s.inletForRate s.sto.table.pnomWatts
    let x := dhwTerms s.fre.dhwI ff set o
    let r := boundedRate s.formedCaps s.activeCaps s.sto.table.rmin x.2.2 (some (s.fre.lastRate + 200)) .control
    let s' := s.takeRate r
    { s' with fre := { s'.fre with dhwI := windedIntegral (-200) 200 s.fre.dhwI x.2.1 r.1 x.2.2 x.1 } }
  | none => s

/-- R63: the rate that the SERVICE entry's selection asks for. -/
def State.requestedRate (s : State) : Int :=
  match s.dta.table.service with
  | none => s.sto.table.rmin
  | some e =>
    match e.selection with
    | some .ignition => s.sto.table.ignitionRate
    | some .chMax => max s.sto.settings.chMaxRate s.sto.table.rmin
    | some .explicit => e.explicitRate.getD Config.unwrittenExplicitRate
    | _ => s.sto.table.rmin

/-- R63: the SERVICE rate is formed; there is no ramp. -/
def State.serviceForm (s : State) : State :=
  s.takeRate (boundedRate s.formedCaps s.activeCaps s.sto.table.rmin s.requestedRate none .selection)

/-! ### Serving a mode -/

/-- The served mode, with the memory of R59. -/
def Fre.serve (f : Fre) (m : Mode) : Fre :=
  { f with served := m, lastServed := if m = .none then f.lastServed else some m }

/-- R48: the burner sequencer enters RUNNING; the state is already RUNNING. The last rate starts at the ignition rate,
lowered to the least cap of the plan's mode, and the controller of that mode starts. -/
def State.startFiring (s : State) : State :=
  let m := s.dta.plan.mode
  let s := { s with fre := s.fre.serve m }
  let c := s.formedCaps
  let ign := s.sto.table.ignitionRate
  let r : Int × LimitReason :=
    if c.least < ign then boundedRate c s.activeCaps s.sto.table.rmin c.least none .mode else (ign, .none)
  let s := { s with fre := { s.fre with caps := c, lastRate := r.1, reason := r.2 } }
  let s := s.setFanTarget (s.sto.table.speedFor r.1)
  match m with
  | .ch =>
    let s := s.bumplessLoad
    { s with fre := { s.fre with chTimer := some Config.chIntervalMs } }
  | .dhw => { s with fre := { s.fre with dhwI := 0 } }
  | .service =>
    let s := s.serviceForm
    { s with fre := { s.fre with chTimer := some Config.chIntervalMs } }
  | .none => s

/-- R49: while RUNNING, a change of the plan's mode changes the served mode. -/
def State.serveMode (s : State) : State :=
  if s.bsq.state = .running ∧ s.fre.served ≠ s.dta.plan.mode then
    let m := s.dta.plan.mode
    let s := { s with fre := s.fre.serve m }
    match m with
    | .ch =>
      let s := s.applyCaps.bumplessLoad
      { s with fre := { s.fre with chTimer := some Config.chIntervalMs } }
    | .dhw => { s with fre := { s.fre with dhwI := 0, chTimer := none } }
    | .service =>
      let s := s.serviceForm
      { s with fre := { s.fre with chTimer := some Config.chIntervalMs } }
    | .none => { s with fre := { s.fre with chTimer := none } }
  else s

/-- R51: the burner sequencer leaves RUNNING. -/
def Fre.stop (f : Fre) : Fre :=
  { f with lastRate := 0, served := .none, chTimer := none, reason := .none }

end Sys2Proof.Machine
end

