-- ==== Sys2Proof/Machine/Flags.lean ====
section
/-! DEFINITION. The fault flags and the fault unit's records: the active fault set, the history ring with its merging and
cleared stamps, and the notices each change posts (06_fault_codes_lockout_and_history.md). -/

namespace Sys2Proof.Machine

/-! ### Keys -/

/-- Every fault key in code order (06 §6.1). -/
def allKeys : List FaultKey :=
  [.f01, .f02, .f03, .f04, .f05, .f06, .f07, .f08, .f09, .f10,
   .b01, .b02, .b03, .b04, .b05, .b06, .b07, .b08, .b09, .b10, .b11,
   .a01, .a02 .slot1, .a02 .slot2, .a02 .slot3, .a02 .slot4,
   .a03, .a04, .a05, .a06, .a07, .a08, .a09, .a10, .a11, .a12]

/-- The classes of fault keys (06 §6.1). -/
inductive FaultClass where
  | locking | blocking | advisory
  deriving DecidableEq, Repr

/-- The class of a key. -/
def keyClass (k : FaultKey) : FaultClass :=
  match (keyParts k).1 with
  | 1 => .locking
  | 2 => .blocking
  | _ => .advisory

/-- A blocking key of scope ALL: every blocking key but b11 (06 §6.1). -/
def blocksAll (k : FaultKey) : Bool := keyClass k == .blocking && k != .b11

/-- The active set with a key added, in code order. -/
def addKey (active : List FaultKey) (k : FaultKey) : List FaultKey := allKeys.filter fun x => active.contains x || x == k

/-- The active set with a key taken out. -/
def dropKey (active : List FaultKey) (k : FaultKey) : List FaultKey := active.filter fun x => x != k

/-- R121: the displayed key: the lockout cause while a lockout is present, otherwise the first blocking key. -/
def Flt.displayedKey (f : Flt) : Option FaultKey :=
  match f.lockout with
  | some l => some l.cause
  | none => f.active.find? fun k => keyClass k == .blocking

/-! ### The history ring (R131 to R135) -/

/-- Among the records that satisfy `p`, the one that no other is `better` than, with its slot. -/
def bestSlot (better : Nat → Nat → Bool) (p : HistoryRecord → Bool) : List HistorySlot → Nat → Option (Nat × HistoryRecord)
  | [], _ => none
  | x :: rest, i =>
    match x.record, bestSlot better p rest (i + 1) with
    | none, b => b
    | some r, none => if p r then some (i, r) else none
    | some r, some b => if p r && better r.number b.2.number then some (i, r) else some b

/-- R132: the newest record that satisfies `p` is the one with the highest creation number. -/
def newestSlot (p : HistoryRecord → Bool) (ring : List HistorySlot) : Option (Nat × HistoryRecord) :=
  bestSlot (fun a b => b < a) p ring 0

/-- R132: the oldest record has the lowest creation number. -/
def oldestSlot (ring : List HistorySlot) : Option (Nat × HistoryRecord) :=
  bestSlot (fun a b => a < b) (fun _ => true) ring 0

/-- The first empty slot. DESIGN CHOICE: R131 says "an empty slot" (log entry 56). -/
def emptySlot : List HistorySlot → Nat → Option Nat
  | [], _ => none
  | x :: rest, i => if x.record.isNone then some i else emptySlot rest (i + 1)

/-- R131: a new record takes an empty slot, or the slot of the oldest. -/
def slotForNew (ring : List HistorySlot) : Nat :=
  match emptySlot ring 0 with
  | some i => i
  | none => match oldestSlot ring with
    | some x => x.1
    | none => 0

/-- A slot is given new contents and marked dirty (R131). -/
def State.putSlot (s : State) (i : Nat) (x : HistorySlot) : State :=
  ({ s with flt := { s.flt with ring := s.flt.ring.set i x } } : State).markDirty (.slot i)

/-- R131: the next creation number; the count stops at its highest value (log entry 19). -/
def nextNumber (n : Nat) : Nat := min 4294967295 (n + 1)

/-- R131: a record is created in the ring. -/
def State.createRecord (s : State) (r : HistoryRecord) : State :=
  let r := { r with number := nextNumber s.flt.lastCreation }
  let s := { s with flt := { s.flt with lastCreation := r.number } }
  s.putSlot (slotForNew s.flt.ring) ⟨some r, none⟩

/-- R131: the record that a raise creates, as the part stands at that moment. -/
def State.raisedRecord (s : State) (k : FaultKey) (duringLockout : Bool) : HistoryRecord where
  kind := .raised
  key := k
  source := none
  seqState := s.bsq.state
  flow := s.flow
  rate := s.reportedRate
  raiseStamp := s.minute
  clearedStamp := none
  count := 1
  duringLockout := duringLockout
  number := 0

/-- Whether a record is a RAISED record of the key. -/
def HistoryRecord.raises (r : HistoryRecord) (k : FaultKey) : Bool := r.kind == .raised && r.key == k

/-- R133: whether a new raise merges into the newest RAISED record of its key, found with its slot's note. -/
def mergesInto (r : HistoryRecord) (note : Option Nat) (duringLockout : Bool) (now : Nat) : Bool :=
  if duringLockout then r.duringLockout && r.clearedStamp.isNone
  else !r.duringLockout && r.clearedStamp.isSome &&
    (match note with | some sec => now - sec ≤ 60 | none => false)

/-- R133: a merge adds one to the count; the fault that has returned has no cleared stamp. -/
def HistoryRecord.merge (r : HistoryRecord) : HistoryRecord :=
  { r with count := min 255 (r.count + 1), clearedStamp := none }

/-- The second-of-clear note of a slot. -/
def noteAt (ring : List HistorySlot) (i : Nat) : Option Nat :=
  match ring[i]? with
  | some x => x.clearedAt
  | none => none

/-- R136: a key that waits for the ring; a key that already waits is not listed twice. -/
def waitKey (early : List EarlyKey) (k : FaultKey) (duringLockout : Bool) : List EarlyKey :=
  if early.any (fun e => e.key == k && e.duringLockout == duringLockout) then
    early.map fun e => if e.key = k ∧ e.duringLockout = duringLockout then { e with left := false } else e
  else early ++ [⟨k, false, duringLockout⟩]

/-- R131, R133, R136: the history of a raise: a merge, a new record, or a record that waits for the ring. -/
def State.recordRaise (s : State) (k : FaultKey) (duringLockout : Bool) : State :=
  if s.flt.ringBuilt then
    match newestSlot (fun r => r.raises k) s.flt.ring with
    | some x =>
      if mergesInto x.2 (noteAt s.flt.ring x.1) duringLockout s.seconds then s.putSlot x.1 ⟨some x.2.merge, none⟩
      else s.createRecord (s.raisedRecord k duringLockout)
    | none => s.createRecord (s.raisedRecord k duringLockout)
  else { s with flt := { s.flt with early := waitKey s.flt.early k duringLockout } }

/-- R134: the cleared stamp of a record, with the second-of-clear note. -/
def State.stampSlot (s : State) (x : Nat × HistoryRecord) : State :=
  s.putSlot x.1 ⟨some { x.2 with clearedStamp := some s.minute }, some s.seconds⟩

/-- R134: the newest RAISED record of the key whose cleared stamp is absent is given its stamp; nothing is filled when it
has been lost. -/
def State.fillCleared (s : State) (k : FaultKey) : State :=
  if s.flt.ringBuilt then
    match newestSlot (fun r => r.raises k && r.clearedStamp.isNone) s.flt.ring with
    | some x => s.stampSlot x
    | none => s
  else
    { s with flt := { s.flt with early := s.flt.early.map fun e => if e.key = k then { e with left := true } else e } }

/-- R134: the slots of the open records with during lockout yes. -/
def openDuringLockout (ring : List HistorySlot) : List (Nat × HistoryRecord) :=
  ring.zipIdx.filterMap fun x =>
    match x.1.record with
    | some r => if r.duringLockout && r.clearedStamp.isNone then some (x.2, r) else none
    | none => none

/-- R134: every such record is given its cleared stamp. -/
def State.fillDuringLockout (s : State) : State :=
  (openDuringLockout s.flt.ring).foldl (fun s x => s.stampSlot x) s

/-! ### Keys that enter and leave the active fault set (R120, R121) -/

/-- R120, R121: a key enters the set, with its history and its notice; a key that is in the set is ignored. -/
def State.enterKey (s : State) (k : FaultKey) : State :=
  if s.isActive k then s
  else
    (({ s with flt := { s.flt with active := addKey s.flt.active k } } : State).recordRaise k false).post (.raised k)

/-- R120, R121: a key leaves the set, with its cleared stamp and its notice; a key that is not in the set is ignored. -/
def State.leaveKey (s : State) (k : FaultKey) : State :=
  if s.isActive k then
    (({ s with flt := { s.flt with active := dropKey s.flt.active k } } : State).fillCleared k).post (.cleared k)
  else s

/-- A raise of a blocking or advisory key where `present` holds, a clear where it does not. -/
def State.follow (s : State) (k : FaultKey) (present : Bool) : State := if present then s.enterKey k else s.leaveKey k

/-- A fault with a raise limit and a clear limit: between the two it keeps its state. -/
def State.hysteresis (s : State) (k : FaultKey) (raise clear : Bool) : State :=
  if raise then s.enterKey k else if clear then s.leaveKey k else s

/-! ### The history clear (R135) -/

/-- R135: every slot becomes empty and is marked dirty, the notes are discarded, and the lockout block is marked dirty. DESIGN
CHOICE: the keys that wait for the ring in START-CHECK go on waiting, so R136 gives them records after the clear (log entry
84). -/
def State.clearHistory (s : State) : State :=
  let s := { s with flt := { s.flt with ring := List.replicate 32 ⟨none, none⟩ } }
  ((List.range 32).foldl (fun s i => s.markDirty (.slot i)) s).markDirty .lockout

end Sys2Proof.Machine
end

