-- ==== Sys2Proof/Machine/Sequencer.lean ====
section
/-! DEFINITION. The burner sequencer and the lockout: how a state is left and entered, locking faults, trips, coil faults,
flame changes, fan-proving failures, and lockout reset requests (04_burner_sequence_and_flame_supervision.md; 06 §6.3). -/

namespace Sys2Proof.Machine

/-! ### States (04 §4.1) -/

/-- The three states in which the gas is open (R70). -/
def SeqState.gasOpen : SeqState → Bool
  | .safetyTime => true
  | .stabilise => true
  | .running => true
  | _ => false

/-- R89: the states in which a flame is a stray flame. -/
def SeqState.supervisesStray : SeqState → Bool
  | .idle => true
  | .preCheck => true
  | .prePurge => true
  | .ignitionSpeed => true
  | .interPurge => true
  | .postPurge => true
  | _ => false

/-- The state timer started on entering a state, in ms (R75, R82, R84, R87). -/
def stateTimer (t : CombustionTable) : SeqState → Option Nat
  | .preCheck => some Config.preCheckMs
  | .safetyTime => some (secondsMs t.safetyTime)
  | .stabilise => some (secondsMs t.stabilise)
  | .postPurge => some (secondsMs t.postPurge)
  | _ => none

/-- The fan target of a state (04 §4.1, R72). RUNNING takes curve(last rate). -/
def stateFanTarget (t : CombustionTable) (purgeLeft : Nat) (lastRate : Int) : SeqState → Nat
  | .startCheck => 0
  | .idle => if purgeLeft = 0 then 0 else t.postPurgeSpeed.toNat
  | .preCheck => 0
  | .prePurge => t.purgeSpeed.toNat
  | .ignitionSpeed => t.speedFor t.ignitionRate
  | .safetyTime => t.speedFor t.ignitionRate
  | .stabilise => t.speedFor t.ignitionRate
  | .running => t.speedFor lastRate
  | .interPurge => t.purgeSpeed.toNat
  | .postPurge => t.postPurgeSpeed.toNat
  | .lockout => if purgeLeft = 0 then 0 else t.postPurgeSpeed.toNat

/-! ### The gas and spark commands -/

/-- R70, R109: both gas channels are commanded open or closed; an open of TRIPPED channels is reported as a refused open. -/
def State.commandGas (s : State) (isOpen : Bool) : State :=
  if isOpen then
    { s with
      bsq := { s.bsq with gasOpen := true }
      ocu := (s.ocu.openValve .gv1 s.sto.table).openValve .gv2 s.sto.table }
  else
    { s with
      bsq := { s.bsq with gasOpen := false }
      ocu := (s.ocu.closeValve .gv1).closeValve .gv2 }

/-- R71, R101: the spark is triggered or stopped. -/
def State.commandSpark (s : State) (on : Bool) : State :=
  { s with
    bsq := { s.bsq with spark := on }
    ocu := { s.ocu with spark := if on then s.ocu.spark.trigger else s.ocu.spark.stop } }

/-! ### Leaving and entering a state -/

/-- R42: the pump overrun that starts as the gas states are left. A CH overrun of 0 min does not start the timer. -/
def overrunFor (d : DiverterState) (chOverrunMin : Int) (old : Option (OverrunKind × Nat)) : Option (OverrunKind × Nat) :=
  match d with
  | .atDhw => some (.dhw, Config.dhwOverrunMs)
  | .movingToDhw => some (.dhw, Config.dhwOverrunMs)
  | _ => if chOverrunMin ≤ 0 then old else some (.ch, chOverrunMin.toNat * 60000)

/-- What the other blocks do as a state is left for `new`: the pump overrun (R42), the firing-rate engine (R51) and the
weak-flame block (R17). -/
def State.leaveFor (s : State) (new : SeqState) : State :=
  { s with
    dta := if s.bsq.state.gasOpen && !new.gasOpen then
        { s.dta with overrun := overrunFor s.dta.divState s.sto.settings.chOverrunMin s.dta.overrun }
      else s.dta
    fre := if s.bsq.state = .running ∧ new ≠ .running then s.fre.stop else s.fre
    mfe := if s.bsq.state = .running ∧ new ≠ .running then { s.mfe with blockSum := 0, blockCount := 0 } else s.mfe }

/-- The lockout purge left as a state is entered: LOCKOUT sets it by gas opened (R95), IDLE keeps what LOCKOUT left
(R74), every other state has none. -/
def purgeOnEntry (b : Bsq) (t : CombustionTable) : SeqState → Nat
  | .lockout => if b.gasOpened then secondsMs t.postPurge else 0
  | .idle => b.purgeLeft
  | _ => 0

/-- The sequencer record as a state is entered. The stray-flame time goes on across the states that supervise it (R89). -/
def Bsq.enter (b : Bsq) (t : CombustionTable) (new : SeqState) : Bsq :=
  { b with
    state := new
    timeIn := 0
    timer := stateTimer t new
    band := Band.off
    strayTime := if new.supervisesStray then b.strayTime else 0
    purgeLeft := purgeOnEntry b t new }

/-- A change of state with the outputs of the new state (04 §4.1, R68, R70 to R72). -/
def State.goto (s : State) (new : SeqState) : State :=
  let s := s.leaveFor new
  let s := { s with bsq := s.bsq.enter s.sto.table new }
  let s := if new.gasOpen then s else s.commandGas false
  let s := if new = .safetyTime then s else s.commandSpark false
  s.setFanTarget (stateFanTarget s.sto.table s.bsq.purgeLeft s.fre.lastRate new)

/-- R67: a burn begins. -/
def Bsq.beginBurn (b : Bsq) : Bsq :=
  { b with attempts := 0, recycleUsed := false, gasOpened := false, sparkRearmed := false, valveRearmed := ⟨false, false⟩ }

/-- R75, R108: the re-arm of SPARK, GV1 and GV2 is asked for; each result is reported. -/
def State.askRearm (s : State) : State :=
  { s with
    ocu := { s.ocu with
      spark := s.ocu.spark.askRearm s.ocu.lines
      gv1 := s.ocu.gv1.askRearm s.ocu.lines
      gv2 := s.ocu.gv2.askRearm s.ocu.lines }
    bsq := { s.bsq with
      rearmRefusals := s.ocu.refusing.map s.ocu.refusal
      sparkRearmed := s.ocu.spark.rearmResult s.ocu.lines = .done
      valveRearmed := ⟨s.ocu.gv1.rearmResult s.ocu.lines = .done, s.ocu.gv2.rearmResult s.ocu.lines = .done⟩ } }

/-- R108: whether the re-arm of one of the three channels would be refused. -/
def State.rearmRefused (s : State) : Bool := !s.ocu.refusing.isEmpty

/-- R74, R75: PRE-CHECK is entered and a burn begins; a refused re-arm takes the sequencer to IDLE. -/
def State.startBurn (s : State) : State :=
  let s := { s with bsq := s.bsq.beginBurn }
  let s := s.goto .preCheck
  if s.rearmRefused then s.askRearm.goto .idle else s.askRearm

/-- R82: SAFETY-TIME is entered: gas open, spark triggered, gas opened yes. -/
def State.enterSafetyTime (s : State) : State :=
  let s := s.goto .safetyTime
  let reports := s.ocu.refusedOpens
  let s := (s.commandGas true).commandSpark true
  { s with bsq := { s.bsq with gasOpened := true, refusedOpens := s.bsq.refusedOpens ++ reports } }

/-- R84, R48: RUNNING is entered and the firing-rate engine starts. -/
def State.enterRunning (s : State) : State :=
  let s := s.leaveFor .running
  let s := { s with bsq := s.bsq.enter s.sto.table .running }
  (s.commandSpark false).startFiring

/-! ### Locking faults and the lockout (R93, R94, R122 to R124) -/

/-- R122: a lockout begins with this cause, sequencer state and attempt number. The demand table loses its SERVICE entry
(R26), and a running output test ends (R189). -/
def State.beginLockout (s : State) (k : FaultKey) : State :=
  let s := { s with flt := { s.flt with lockout := some ⟨k, s.bsq.state, s.bsq.attempts, s.minute⟩ } }
  let s := (s.markDirty .lockout).markDirty .counters
  let s := s.enterKey k
  let s := { s with dta := { s.dta with table := { s.dta.table with service := none } } }
  s.endTest .lockout

/-- R119, R122, R123: a locking key is raised. A raise of the cause is ignored (R120). -/
def State.raiseLocking (s : State) (k : FaultKey) : State :=
  if s.locked then (if s.isActive k then s else s.recordRaise k true) else s.beginLockout k

/-- R95: LOCKOUT is entered, unless the sequencer is there. -/
def State.gotoLockout (s : State) : State := if s.bsq.state = .lockout then s else s.goto .lockout

/-- R93: a locking cause of the sequencer's own. The key carries the state it leaves. -/
def State.lockWith (s : State) (k : FaultKey) : State := (s.raiseLocking k).gotoLockout

/-- R94: a locking key of another block; in START-CHECK a lockout is noted and acted on at its end (R73). -/
def State.raiseForeign (s : State) (k : FaultKey) : State :=
  let began := !s.locked
  let s := s.raiseLocking k
  if began && s.bsq.state != .startCheck then s.gotoLockout else s

/-- R124: F09 replaces another cause, is ignored where it is the cause, or begins a lockout. -/
def State.raiseF09 (s : State) : State :=
  match s.flt.lockout with
  | none => s.beginLockout .f09
  | some l =>
    if l.cause = .f09 then s
    else
      let s := s.leaveKey l.cause
      let s := { s with flt := { s.flt with lockout := some ⟨.f09, .startCheck, 0, s.minute⟩ } }
      (s.enterKey .f09).markDirty .lockout

/-! ### Trips, refused opens, coil faults (R90 to R92) -/

/-- START-CHECK: a key joins the pending list at most once (R73). -/
def addPending (l : List PendingCause) (c : PendingCause) : List PendingCause := if l.contains c then l else l ++ [c]

def State.notePending (s : State) (c : PendingCause) : State :=
  { s with bsq := { s.bsq with pendingCauses := addPending s.bsq.pendingCauses c } }

/-- R90: a trip report whose cause set holds LIMIT. -/
def State.takeLimit (s : State) : State :=
  match s.bsq.state with
  | .startCheck => s.notePending .f04
  | .lockout => s.raiseLocking .f04
  | _ => s.lockWith .f04

/-- R90: a trip report for COND or EXT alone. -/
def State.takeBlock (s : State) : State :=
  match s.bsq.state with
  | .safetyTime => s.goto .postPurge
  | .stabilise => s.goto .postPurge
  | .running => s.goto .postPurge
  | .interPurge => s.goto .postPurge
  | .ignitionSpeed => s.goto (if s.bsq.gasOpened then .postPurge else .idle)
  | .preCheck => s.goto .idle
  | .prePurge => s.goto .idle
  | _ => s

/-- R90: the sequencer takes a trip cause set. -/
def State.takeTrip (s : State) (causes : TripSet) : State := if causes.limit then s.takeLimit else s.takeBlock

/-- R92: a coil fault report, kept as it names its channel and its kind (R117, R118). -/
def State.coilFault (s : State) (report : CoilReport) : State :=
  let s := { s with bsq := { s.bsq with coilReport := some report } }
  match s.bsq.state with
  | .startCheck => s.notePending .f07
  | .lockout => s.raiseLocking .f07
  | _ => s.lockWith .f07

/-! ### Fan-proving failures (R81) -/

/-- R81: a fan-proving failure; counts 1 and 2 raise b06 and lead to `dest`, the third raises F10 and locks out. -/
def State.provingFailure (s : State) (dest : SeqState) : State :=
  let s := { s with bsq := { s.bsq with provingFailures := s.bsq.provingFailures + 1 } }
  if s.bsq.provingFailures < 3 then
    let s := s.enterKey .b06
    let s := { s with bsq := { s.bsq with b06Timer := some Config.b06Ms } }
    s.goto dest
  else s.lockWith .f10

/-! ### The flame (R79, R82, R83, R86, R91) -/

/-- R97: one burner start is counted. -/
def State.countStart (s : State) : State :=
  { s with sto := { s.sto with counters :=
      { s.sto.counters with burnerStarts := min 4294967295 (s.sto.counters.burnerStarts + 1) } } }

/-- R82: the sequencer takes flame proved. -/
def State.takeFlameProved (s : State) : State :=
  match s.bsq.state with
  | .safetyTime =>
    let s := { s with bsq := { s.bsq with provingFailures := 0 } }
    s.countStart.goto .stabilise
  | _ => s

/-- R83: a failed ignition attempt. -/
def State.failedAttempt (s : State) : State :=
  let s := { s with bsq := { s.bsq with attempts := s.bsq.attempts + 1 } }
  if (s.bsq.attempts : Int) < s.sto.table.attempts then s.goto .interPurge else s.lockWith .f01

/-- R86: a loss of flame in RUNNING. -/
def State.lossInRunning (s : State) : State :=
  if s.bsq.recycleUsed then s.lockWith .f02
  else ({ s with bsq := { s.bsq with recycleUsed := true } } : State).goto .interPurge

/-- R91: where a gas channel is TRIPPED the event is taken as that trip, otherwise as `other` has it. -/
def State.unlessTripped (s : State) (other : State → State) : State :=
  match s.ocu.gasTrip with
  | some causes => s.takeTrip causes
  | none => other s

/-- R79, R83, R86: the sequencer takes flame lost. DESIGN CHOICE: in LOCKOUT it does nothing, as R95's table has it, and no
key of its own follows another block's (log entry 63). -/
def State.takeFlameLost (s : State) : State :=
  match s.bsq.state with
  | .stabilise => s.unlessTripped State.failedAttempt
  | .running => s.unlessTripped State.lossInRunning
  | .ignitionSpeed => if Config.ignitionRunMs ≤ s.bsq.band.inRun then s.enterSafetyTime else s
  | _ => s

/-! ### The end of START-CHECK (R73) -/

/-- A pending cause as a fault key. -/
def PendingCause.key : PendingCause → FaultKey
  | .f04 => .f04
  | .f07 => .f07

/-- Each key of a list is raised in turn. -/
def State.raiseAll (s : State) (l : List PendingCause) : State := l.foldl (fun s c => s.raiseLocking c.key) s

/-- R73: the sequencer leaves START-CHECK by the first case that applies. -/
def State.endStartCheck (s : State) (combustionGood : Bool) : State :=
  let s := if s.ocu.lines.limit then s.notePending .f04 else s
  let causes := s.bsq.pendingCauses
  let s := { s with bsq := { s.bsq with pendingCauses := [] } }
  if !combustionGood then
    let s := s.raiseF09
    let s := { s with flt := { s.flt with conditions := { s.flt.conditions with table := true } } }
    (s.goto .lockout).raiseAll causes
  else if s.locked then (s.goto .lockout).raiseAll causes
  else match causes with
    | [] => s.goto .idle
    | c :: rest => (s.lockWith c.key).raiseAll rest

/-! ### Lockout reset requests (R127 to R130) -/

/-- Whether any locking condition of R126 is present. -/
def LockingConditions.any (c : LockingConditions) : Bool := c.limit || c.flowPair || c.flue || c.flame || c.table

/-- R127: the outcome is the first row that applies. -/
def State.resetOutcome (s : State) : ResetOutcome :=
  if s.bsq.state = .startCheck then .causePresent
  else if !s.locked then .notLocked
  else if 5 ≤ s.flt.resetCounter then .limit
  else if s.flt.conditions.any then .causePresent
  else .accepted

/-- R131: the RESET record of an accepted reset. -/
def State.resetRecord (s : State) (cause : FaultKey) (src : ResetSource) : HistoryRecord where
  kind := .reset
  key := cause
  source := some src
  seqState := .lockout
  flow := s.flow
  rate := 0
  raiseStamp := s.minute
  clearedStamp := none
  count := 1
  duringLockout := false
  number := 0

/-- R129 step 1: the reset counter and the decay timer. -/
def Flt.countReset (f : Flt) : Flt :=
  { f with
    resetCounter := f.resetCounter + 1
    decay := if f.resetCounter = 0 then some Config.decayMs else f.decay }

/-- R129: an accepted reset ends the lockout with this cause. -/
def State.acceptReset (s : State) (cause : FaultKey) (src : ResetSource) : State :=
  let s := { s with flt := { s.flt.countReset with lockout := none } }
  let s := s.markDirty .lockout
  let s := s.createRecord (s.resetRecord cause src)
  let s := (s.fillCleared cause).fillDuringLockout
  let s := s.post (.reset .accepted src)
  let s := { s with flt := { s.flt with active := dropKey s.flt.active cause } }
  let s := s.post (.cleared cause)
  let s := { s with bsq := { s.bsq with provingFailures := 0 } }
  s.goto .idle

/-- R127 to R130: one reset request is judged. -/
def State.requestReset (s : State) (src : ResetSource) : State × ResetOutcome :=
  match s.resetOutcome, s.flt.lockout with
  | .accepted, some l => (s.acceptReset l.cause src, .accepted)
  | .limit, _ => ((s.post (.reset .limit src)).enterKey .a12, .limit)
  | o, _ => (s.post (.reset o src), o)

end Sys2Proof.Machine
end

