-- ==== Sys2Proof/Machine/Arbiter.lean ====
section
/-! DEFINITION. The arbiter: the internal detectors, the heat plan and its re-evaluation, the burner request, the pump
request and the diverter position record (02_heat_demands_and_the_burner_arbiter.md). -/

namespace Sys2Proof.Machine

/-! ### The table, read -/

/-- Whether an entry is present and requesting. -/
def requests (e : Option Entry) : Bool :=
  match e with
  | some e => e.requesting
  | none => false

/-- Whether the entry of a source is requesting. -/
def Dta.asks (d : Dta) (src : Source) : Bool := requests (d.table.get src)

/-- The requesting CH-class entries, in source order (R33). -/
def Dta.chAsking (d : Dta) : List Source := chSources.filter fun src => d.asks src

/-- Whether any entry of the table is requesting. -/
def Dta.anyAsking (d : Dta) : Bool := allSources.any fun src => d.asks src

def Dta.put (d : Dta) (src : Source) (e : Option Entry) : Dta := { d with table := d.table.set src e }

/-! ### Detectors (R28, R30, R31, R39) -/

/-- R28: the tap detector is disabled while DHW enable is clear or b11 is active. -/
def State.tapEnabled (s : State) : Bool := s.sto.settings.dhwEnable && !s.isActive .b11

/-- R28: TAP takes this requesting flag and both runs are 0; R39: the pause flag is cleared when TAP stops requesting. -/
def Dta.setTap (d : Dta) (on : Bool) : Dta :=
  { d with
    table := { d.table with tap := some (Entry.plain on) }
    startRun := 0
    stopRun := 0
    dhwPause := d.dhwPause && on }

/-- R28, R39: what holds of TAP at every moment: a disabled detector does not request, and no pause outlasts the draw. -/
def State.guardTap (s : State) : State :=
  { s with dta :=
      if !s.tapEnabled then s.dta.setTap false
      else if s.dta.asks .tap then s.dta
      else { s.dta with dhwPause := false } }

/-- R32: the blocked scope in force. -/
def State.scopeInForce (s : State) : Scope :=
  if s.locked then .lockout
  else if s.flt.active.any blocksAll then .all
  else if s.isActive .b11 then .dhw
  else .none

/-- R31: whether a cause of removal holds. -/
def State.keepwarmEnds (s : State) : Bool :=
  (match s.outlet with | some o => 550 ≤ o | none => false)
  || s.dta.asks .tap || !s.sto.settings.keepwarmEnable || !s.sto.settings.dhwEnable || s.scopeInForce != .none

/-- R30: whether the KEEPWARM entry is to be created. -/
def State.keepwarmBegins (s : State) : Bool :=
  s.sto.settings.keepwarmEnable && s.sto.settings.dhwEnable && !s.dta.asks .tap
  && (match s.outlet with | some o => o < s.sto.settings.keepwarmLow | none => false)
  && s.dta.spacing.isNone && s.scopeInForce == .none

/-- R31: the entry is removed and the spacing timer is started. -/
def Dta.endKeepwarm (d : Dta) : Dta :=
  { d with table := { d.table with keepwarm := none }, spacing := some Config.keepwarmSpacingMs }

/-- R30, R31: the keep-warm detector. -/
def State.judgeKeepwarm (s : State) : State :=
  { s with dta :=
      if s.dta.table.keepwarm.isSome then (if s.keepwarmEnds then s.dta.endKeepwarm else s.dta)
      else if s.keepwarmBegins then
        { s.dta with table := { s.dta.table with keepwarm := some (Entry.plain true) }, burnTime := 0 }
      else s.dta }

/-- R39: the DHW-pause flag, judged on the outlet value while TAP is the contributing source. -/
def State.judgePause (s : State) : State :=
  { s with dta :=
      if s.dta.plan.mode = .dhw ∧ s.dta.plan.sources = [.tap] then
        match s.outlet with
        | none => s.dta
        | some o =>
          if s.dta.dhwPause then (if o ≤ s.dta.plan.dhwSetpoint then { s.dta with dhwPause := false } else s.dta)
          else if s.bsq.state = .running ∧ s.dta.plan.dhwSetpoint + 50 ≤ o then { s.dta with dhwPause := true }
          else s.dta
      else s.dta }

/-! ### Mode, sources, target, zones (R32 to R34) -/

/-- R32: the mode is the first case that applies. -/
def State.chooseMode (s : State) : Mode :=
  if s.dta.asks .service then .service
  else if s.dta.asks .tap && !s.isActive .b11 then .dhw
  else if !s.dta.chAsking.isEmpty then .ch
  else if s.dta.asks .keepwarm && !s.isActive .b11 then .dhw
  else .none

/-- R33: the contributing sources of a mode. -/
def State.sourcesFor (s : State) : Mode → List Source
  | .service => [.service]
  | .dhw => if s.dta.asks .tap && !s.isActive .b11 then [.tap] else [.keepwarm]
  | .ch => s.dta.chAsking
  | .none => []

/-- The larger of a target and the target of one more source. -/
def largerTarget (acc : Option Int) (t : Option Int) : Option Int :=
  match acc, t with
  | none, t => t
  | some a, none => some a
  | some a, some b => some (max a b)

/-- R33: the CH flow target: the largest of the per-entry targets of the contributing sources. -/
def State.targetFor (s : State) : Mode → Option Int
  | .ch => (s.dta.chAsking.map s.fre.targets.get).foldl largerTarget none
  | _ => none

/-- R34: whether the entry of a source opens a zone. -/
def opensZone (e : Option Entry) (z : Zone) : Bool :=
  match e with
  | none => false
  | some e => e.requesting && (match e.zone with | none => true | some x => x == z)

/-- R34: whether the requesting CH-class entries open a zone. -/
def Dta.zoneAsked (d : Dta) (z : Zone) : Bool := chSources.any fun src => opensZone (d.table.get src) z

/-! ### The burner request (R36 to R40) -/

/-- R36: the on point is reached. -/
def atOnPoint (flow target : Option Int) (onDiff : Int) : Bool :=
  match flow, target with
  | some f, some t => f ≤ t - onDiff
  | _, _ => false

/-- R36: the off point is reached. -/
def atOffPoint (flow target : Option Int) (offDiff : Int) : Bool :=
  match flow, target with
  | some f, some t => t + offDiff ≤ f
  | _, _ => false

/-- R38: the anti-cycle timer is stopped once the flow is 15.0 K or more below the target. -/
def cancelAntiCycle (timer : Option Nat) (flow target : Option Int) : Option Nat :=
  if atOnPoint flow target 150 then none else timer

/-- R38: the timer started with the anti-cycle time in force; a time of 0 starts none. -/
def antiCycleFor (min : Int) (old : Option Nat) : Option Nat := if min ≤ 0 then old else some (min.toNat * 60000)

/-- R36, R37, R38: the request in mode CH and the anti-cycle timer after it; `fromCh` says that the mode was CH before. -/
def chRequest (set : Settings) (flow target : Option Int) (frost fromCh old : Bool) (timer : Option Nat) :
    Bool × Option Nat :=
  let timer := cancelAntiCycle timer flow target
  if old then
    if atOffPoint flow target set.offDifferential then
      (false, if fromCh then antiCycleFor set.antiCycleMin timer else timer)
    else (true, timer)
  else (atOnPoint flow target set.onDifferential && (timer.isNone || frost), timer)

/-- R36 to R39: the request that the mode gives, with the anti-cycle timer. -/
def State.modeRequest (s : State) (mode : Mode) (target : Option Int) : Bool × Option Nat :=
  match mode with
  | .ch =>
    chRequest s.sto.settings s.flow target (s.dta.asks .frost) (s.dta.plan.mode = .ch) s.dta.plan.request s.dta.antiCycle
  | .dhw => (!s.dta.dhwPause, s.dta.antiCycle)
  | .service => (true, s.dta.antiCycle)
  | .none => (false, s.dta.antiCycle)

/-- R40: whether the blocked scope lets the burner run. -/
def Scope.allows : Scope → Bool
  | .none => true
  | .dhw => true
  | _ => false

/-! ### The diverter (R44 to R46) -/

/-- R44: the diverter target follows the mode. -/
def diverterTarget (old : Side) : Mode → Side
  | .ch => .ch
  | .service => .ch
  | .dhw => .dhw
  | .none => old

/-- R45: a reversal; a new time left of 0 is the resting state of the side the move started from. -/
def reversed (moving resting : DiverterState) (left : Nat) : DiverterState × Nat :=
  if Config.diverterMoveMs - left = 0 then (resting, 0) else (moving, Config.diverterMoveMs - left)

/-- R44, R45, R46: what a target does to the position record; a homing move is not reversed. -/
def Dta.steer (d : Dta) (target : Side) : DiverterState × Nat :=
  if d.homing then (d.divState, d.divLeft)
  else match target, d.divState with
    | .dhw, .atCh => (.movingToDhw, Config.diverterMoveMs)
    | .dhw, .movingToCh => reversed .movingToDhw .atDhw d.divLeft
    | .ch, .atDhw => (.movingToCh, Config.diverterMoveMs)
    | .ch, .movingToDhw => reversed .movingToCh .atCh d.divLeft
    | _, x => (x, d.divLeft)

/-! ### The pump request (R41) -/

/-- The rows of R41 that give MIN without a burner request, named for R34. -/
inductive PumpRow where
  | moving | gas | tap | radiators | overrun | frost | off
  deriving DecidableEq, Repr

/-- R41: the first row that applies. -/
def pumpRow (div : DiverterState) (state : SeqState) (mode : Mode) (scope : Scope) (request pause overrun frost : Bool) :
    PumpRow :=
  if div.moving then .moving
  else if state.gasOpen then .gas
  else if (mode == .dhw || mode == .service) && scope.allows && (request || pause) then .tap
  else if mode == .ch && request then .radiators
  else if overrun then .overrun
  else if frost then .frost
  else .off

/-- R41: the pump request of a row. -/
def pumpFor (mode : Mode) : PumpRow → PumpRequest
  | .moving => .min
  | .gas => if mode = .dhw ∨ mode = .service then .max else .dtControl
  | .tap => .max
  | .radiators => .dtControl
  | .overrun => .min
  | .frost => .min
  | .off => .off

/-- Whether a CH overrun runs (R34). -/
def chOverrunRuns : Option (OverrunKind × Nat) → Bool
  | some (.ch, _) => true
  | _ => false

/-! ### The re-evaluation (R32, R35) -/

/-- R32 to R46: the heat plan, the anti-cycle timer and the diverter record after a re-evaluation. -/
def State.evaluated (s : State) : Dta :=
  let scope := s.scopeInForce
  let mode := s.chooseMode
  let target := s.targetFor mode
  let req := s.modeRequest mode target
  let request := req.1 && scope.allows
  let side := diverterTarget s.dta.plan.diverter mode
  let move := s.dta.steer side
  let row := pumpRow move.1 s.bsq.state mode scope request s.dta.dhwPause s.dta.overrun.isSome s.dta.frostStage
  let both := !s.dta.zoneAsked .zone1 && !s.dta.zoneAsked .zone2
    && (row == .frost || (row == .overrun && chOverrunRuns s.dta.overrun))
  { s.dta with
    plan :=
      { mode := mode
        request := request
        target := target
        dhwSetpoint := if mode = .dhw ∧ s.sourcesFor mode = [.keepwarm] then 550 else s.sto.settings.dhwSetpoint
        sources := s.sourcesFor mode
        zone1 := s.dta.zoneAsked .zone1 || both
        zone2 := s.dta.zoneAsked .zone2 || both
        pump := pumpFor mode row
        diverter := side
        scope := scope }
    antiCycle := req.2
    divState := move.1
    divLeft := move.2 }

/-- R35: the plan is handed to its readers; the room loop controller takes the mode and the burner request. -/
def State.evaluate (s : State) : State :=
  { s with
    dta := s.evaluated
    rlc := { s.rlc with planMode := s.evaluated.plan.mode, planRequest := s.evaluated.plan.request } }

/-! ### What the readers do -/

/-- Whether the DIVERTER channel is energised in a state of the record (02 §2.7). -/
def DiverterState.energised : DiverterState → Bool
  | .movingToDhw => true
  | .atDhw => true
  | _ => false

/-- R113, R115: the output channel unit takes the pump request, the diverter drive and the zone set. -/
def State.driveOutputs (s : State) : State :=
  let o := s.ocu.commandPump s.dta.plan.pump
  { s with ocu :=
      { o with
        diverter := o.diverter.commandSteady s.dta.divState.energised
        zone1 := o.zone1.commandSteady s.dta.plan.zone1
        zone2 := o.zone2.commandSteady s.dta.plan.zone2 } }

/-- R74, R84, R85, R88: the sequencer judges the burner request. -/
def State.judgeRequest (s : State) : State :=
  if s.dta.plan.request then (if s.bsq.state = .idle then s.startBurn else s)
  else match s.bsq.state with
    | .preCheck => s.goto .idle
    | .prePurge => s.goto .idle
    | .ignitionSpeed => s.goto (if s.bsq.gasOpened then .postPurge else .idle)
    | .safetyTime => s.goto .postPurge
    | .stabilise => s.goto .postPurge
    | .running => s.goto .postPurge
    | .interPurge => s.goto .postPurge
    | _ => s

/-- R75: the conditions by which PRE-CHECK is left for PRE-PURGE. -/
def State.preCheckDone (s : State) : Bool :=
  s.bsq.sparkRearmed && s.bsq.valveRearmed.gv1 && s.bsq.valveRearmed.gv2 && !s.mfe.flameOn
  && s.mfe.fanSpeed < 300 && s.bsq.coilZero.gv1 && s.bsq.coilZero.gv2

/-- R75. -/
def State.judgePreCheck (s : State) : State :=
  if s.bsq.state = .preCheck ∧ s.preCheckDone then s.goto .prePurge else s

end Sys2Proof.Machine
end

