-- ==== Sys2Proof/Machine/Settle.lean ====
section
/-! DEFINITION. What follows within the event that changes something: the re-evaluation of the heat plan with what its readers
do at once (R32, R35), the ALARM and ATTN levels (R137, R138, R171), the hand-over to the room loop (R140), and the store
writer taking its next item (R177). Every meaning ends with `State.settle`. -/

namespace Sys2Proof.Machine

/-! ### The store writer (R177) -/

/-- The record held by a slot of the ring. -/
def ringRecord (ring : List HistorySlot) (n : Nat) : Option HistoryRecord :=
  match ring[n]? with
  | some x => x.record
  | none => none

/-- Of two dirty slots the one to be written first: occupied before empty, then the older record, then slot order. -/
def slotBefore (ring : List HistorySlot) (a b : Nat) : Bool :=
  match ringRecord ring a, ringRecord ring b with
  | some x, some y => x.number < y.number
  | some _, none => true
  | none, some _ => false
  | none, none => a < b

/-- The dirty slot that is to be written first. -/
def firstSlot (ring : List HistorySlot) : List StoreItem → Option Nat
  | [] => none
  | .slot n :: rest =>
    match firstSlot ring rest with
    | none => some n
    | some m => if slotBefore ring m n then some m else some n
  | _ :: rest => firstSlot ring rest

/-- R177: the dirty item of highest priority. -/
def firstItem (ring : List HistorySlot) (dirty : List StoreItem) : Option StoreItem :=
  if dirty.contains .lockout then some .lockout
  else if dirty.contains .combustion then some .combustion
  else if dirty.contains .settings then some .settings
  else match firstSlot ring dirty with
    | some n => some (.slot n)
    | none => if dirty.contains .counters then some .counters else none

/-- R177: the contents of an item as they stand. -/
def State.imageOf (s : State) : StoreItem → WriteImage
  | .lockout => .lockout ⟨s.flt.lockout, s.flt.resetCounter, s.flt.lastCreation⟩
  | .combustion => .combustion s.sto.table
  | .settings => .settings s.sto.settings
  | .counters => .counters s.sto.counters
  | .slot n => .slot n (ringRecord s.flt.ring n)

/-- The item that an image belongs to. -/
def WriteImage.item : WriteImage → StoreItem
  | .lockout _ => .lockout
  | .combustion _ => .combustion
  | .settings _ => .settings
  | .counters _ => .counters
  | .slot n _ => .slot n

/-- R177: an item changed while its own write is in flight, so that its contents are no longer those that the write carries, is
marked dirty again. A change of the counters (R184) or of the last creation number (R131) marks nothing by itself and is
found here. -/
def State.remark (s : State) : State :=
  match s.sto.inFlight with
  | none => s
  | some w => if s.imageOf w.image.item = w.image then s else s.markDirty w.image.item

/-- R178: whether an accepted soft reset is to take effect: its reply has been delivered, no write is in flight, and no item of
its flush set is dirty. -/
def State.softResetReady (s : State) : Bool :=
  match s.prt.softReset with
  | none => false
  | some r => r.reply == .delivered && s.sto.inFlight.isNone && r.flush.all fun i => !s.sto.dirty.contains i

/-- R177: while no write is in flight and the set is not empty, the item of highest priority is taken out and its write
begins. The writer waits for the start-up reads (log entry 26), and begins nothing at the moment at which a soft reset takes
effect (R178, log entry 62). -/
def State.startWrite (s : State) : State :=
  if s.sto.startup.isNone && s.sto.inFlight.isNone && !s.softResetReady then
    match firstItem s.flt.ring s.sto.dirty with
    | none => s
    | some i =>
      { s with sto :=
          { s.sto with
            dirty := s.sto.dirty.filter fun x => x != i
            inFlight := some ⟨s.imageOf i, Config.storeWriteMs⟩ } }
  else s

/-- R177: the store writer at the end of an event: what the event has changed, then the next item. -/
def State.writeStore (s : State) : State := s.remark.startWrite

/-! ### ALARM and ATTN -/

/-- R137: ALARM is active during START-CHECK and while the lockout record holds a lockout. -/
def State.alarmOn (s : State) : Bool := s.locked || s.bsq.state == .startCheck

/-- R138: whether the active level of ALARM is high. -/
def State.alarmActiveHigh (s : State) : Bool :=
  s.sto.startup.isNone && (s.sto.settings.alarmHigh || (!s.sto.settings.outdoorFitted && s.mfe.strapHigh))

/-- R171: the level of ATTN. -/
def State.attnLevel (s : State) : Bool :=
  s.sto.startup.isNone && (s.sto.settings.attnLevel < (s.prt.notices.length : Int) || s.locked)

/-- R137, R138, R140, R171: the lines and the hand-over to the room loop, which waits for the start-up reads. -/
def State.drivePins (s : State) : State :=
  { s with
    flt := { s.flt with alarmActive := s.alarmOn, alarmHigh := s.alarmActiveHigh }
    rlc := { s.rlc with
      lockoutPresent := s.sto.startup.isNone && s.locked
      displayed := if s.sto.startup.isNone then s.flt.displayedKey else none }
    prt := { s.prt with attn := s.attnLevel } }

/-! ### The event's end -/

/-- R189: a demand entry that is requesting ends a running output test. -/
def State.testMeetsDemand (s : State) : State := if s.dta.anyAsking then s.endTest .demand else s

/-- The detectors, the targets and the re-evaluation. An entry that a detector creates requesting ends a test like any other,
before a later change of the same event is taken (R189). -/
def State.replan (s : State) : State := s.guardTap.judgeKeepwarm.testMeetsDemand.formTargets.evaluate

/-- One round: the re-evaluation and what each reader of the heat plan does with it (R35). -/
def State.round (s : State) : State := s.replan.serveMode.applyCaps.judgeRequest.judgePreCheck.driveOutputs

/-- R121: what the fault unit hands on when a change alters it: the blocked scope with b11's presence, and the displayed key. -/
def State.handedOn (s : State) : Scope × Bool × Option FaultKey := (s.scopeInForce, s.isActive .b11, s.flt.displayedKey)

/-- R121: one of several changes of the active fault set in one event. What it alters is handed on, and acted on by the arbiter
and the plan's readers, before the next change is made (log entry 65). -/
def State.inTurn (s : State) (f : State → State) : State :=
  if (f s).handedOn = s.handedOn then f s else (f s).round.drivePins

/-- The end of an event. A second round takes what the readers' own changes mean for the plan: a change of the sequencer's
state is an input of R32. -/
def State.settle (s : State) : State := s.round.round.drivePins.writeStore

/-- A meaning: what the event does, then what follows in the same event. -/
def State.event (s : State) (f : State → State) : State := s.live fun s => (f s).settle

end Sys2Proof.Machine
end

