-- ==== Sys2Proof/Machine/RoomLoop.lean ====
section
/-! DEFINITION. The room loop controller: the poll schedule, the frames, the receive FIFO, the slots and the loop power, and
the meanings of its commands (07_the_room_loop.md). -/

namespace Sys2Proof.Machine

/-! ### Slots (R150 to R152) -/

def State.setSlotRecord (s : State) (n : RoomSlot) (r : SlotRecord) : State :=
  { s with rlc := { s.rlc with slots := s.rlc.slots.set n r } }

/-- R27: the ROOMn entry is kept with held yes. -/
def holdEntry (e : Option Entry) : Option Entry := e.map fun e => { e with held := true }

/-- R152: the slot becomes SILENT. -/
def State.goSilent (s : State) (n : RoomSlot) : State :=
  let s := s.setSlotRecord n { s.rlc.slots.get n with state := .silent }
  let s := { s with dta := s.dta.put (.room n) (holdEntry (s.dta.table.room.get n)) }
  s.post (.slot n .silent)

/-- R152: the slot becomes LOST. -/
def State.goLost (s : State) (n : RoomSlot) : State :=
  let s := s.setSlotRecord n { s.rlc.slots.get n with state := .lost }
  let s := { s with dta := s.dta.put (.room n) none }
  (s.enterKey (.a02 n)).post (.slot n .lost)

/-- R152: a missed poll. -/
def State.missPoll (s : State) (n : RoomSlot) : State :=
  let r := s.rlc.slots.get n
  let r := { r with misses := min 255 (r.misses + 1) }
  let s := s.setSlotRecord n r
  match r.state with
  | .bound => if r.misses = 3 then s.goSilent n else s
  | .silent => if r.misses = 10 then s.goLost n else s
  | _ => s

/-- R142, R148: a bad frame of a slot. -/
def State.countBad (s : State) (n : RoomSlot) : State :=
  let r := s.rlc.slots.get n
  s.setSlotRecord n { r with bad := count16 r.bad }

/-! ### Exchanges (R145 to R147) -/

/-- The slot of the running exchange. -/
def Exchange.slot : Exchange → Option RoomSlot
  | .none => Option.none
  | .waiting n _ => some n
  | .sending n _ => some n
  | .window n _ => some n
  | .closing n => some n

/-- R147: whether a frame of slot n can still be the answer of the running exchange. -/
def Exchange.answerable (e : Exchange) (n : RoomSlot) : Bool :=
  match e with
  | .window m _ => m == n
  | .closing m => m == n
  | _ => false

/-- R147: the exchange is over; its slot is no longer dropped. -/
def State.closeExchange (s : State) : State := { s with rlc := { s.rlc with exchange := .none, dropped := false } }

/-- R147: the exchange ends as missed; the outcome of a dropped one is not counted. -/
def State.endMissed (s : State) : State :=
  match s.rlc.exchange.slot with
  | none => s
  | some n => if s.rlc.dropped then s.closeExchange else s.closeExchange.missPoll n

/-- R148: a flush empties the FIFO and clears the level flag. -/
def State.flush (s : State) : State := { s with rlc := { s.rlc with fifo := [], level := false } }

/-- R147: a reception that was in progress as the window closed ends the exchange with it. -/
def State.endClosing (s : State) : State :=
  match s.rlc.exchange with
  | .closing _ => s.endMissed
  | _ => s

/-- R148: an overflow or a code violation: the frame is a bad frame, the FIFO is flushed, and nothing more is taken until the
line has been idle for four bit times and a new preamble is recognised. The reception is over, so the line is busy from now on
only by the current steps that it senses (R146, log entry 60). -/
def State.breakFrame (s : State) (n : RoomSlot) : State :=
  let s := (s.countBad n).flush
  ({ s with rlc := { s.rlc with receiving := none, broken := true, idle := 0 } } : State).endClosing

/-! ### The POLL frame (R142, R143) -/

/-- The two bytes of a word, most significant first. -/
def wordBytes (w : Word) : List Byte := [w.extractLsb' 8 8, w.extractLsb' 0 8]

/-- R142: the check byte: the complement of the byte sum. -/
def checkByte (l : List Byte) : Byte := ~~~ (l.foldl (· + ·) 0)

/-- The code of a mode (07 §7.1, R163). -/
def modeCode : Mode → Nat
  | .none => 0
  | .ch => 1
  | .dhw => 2
  | .service => 3

/-- The displayed key as the POLL frame carries it (07 §7.1). -/
def displayedCode : Option FaultKey → Nat
  | none => 0
  | some k => match keyParts k with
    | (1, _, n) => n
    | (2, _, n) => 32 + n
    | _ => 0

/-- R143: the POLL formed from the values held now. -/
def State.formPoll (s : State) (n : RoomSlot) : List Byte :=
  let body : List Byte :=
    [BitVec.ofNat 8 (slotNumber n), 1] ++ wordBytes (tempWord s.flow) ++ wordBytes (tempWord s.outlet)
    ++ [BitVec.ofNat 8 (modeCode s.rlc.planMode), if s.rlc.planRequest then 1 else 0,
        if s.rlc.lockoutPresent then 1 else 0, BitVec.ofNat 8 (displayedCode s.rlc.displayed)]
  body ++ [checkByte body]

/-! ### REPORT frames (R142, R144, R151, R153) -/

/-- A 16-bit signed value from two bytes, most significant first. -/
def signed16 (hi lo : Byte) : Int := (hi ++ lo).toInt

/-- R142, R144: a valid REPORT for a slot: twelve bytes, type REPORT, unit type ROOM, a right check and the slot's
address. -/
def readReport (n : RoomSlot) (frame : List Byte) : Option Report :=
  match frame with
  | [addr, ty, unit, heat, s1, s0, a1, a0, f1, f0, reset, _] =>
    if addr = BitVec.ofNat 8 (slotNumber n) ∧ ty = 2 ∧ unit = 1 ∧ frame.foldl (· + ·) 0 = 255 then
      some ⟨heat != 0, signed16 s1 s0, signed16 a1 a0, signed16 f1 f0, reset != 0⟩
    else none
  | _ => none

/-- R25, R144: a flow request: 0 is absent, any other is clamped, −32,768 among them (DESIGN CHOICE, log entry 59). -/
def flowRequestOf (v : Int) : Option Int := if v = 0 then none else some (clampInt 200 900 v)

/-- R25, R144: a room pair: a setpoint of 0 means none; any other is clamped, −32,768 among them (DESIGN CHOICE, log entry
59). -/
def roomPairOf (setpoint actual : Int) : Option RoomPair :=
  if setpoint = 0 then none else some ⟨clampInt 50 300 setpoint, clampInt 0 400 actual⟩

/-- R27: the entry that a REPORT gives. -/
def reportEntry (r : Report) (zone : Option Zone) : Entry where
  requesting := r.heat
  flowRequest := flowRequestOf r.flowRequest
  roomPair := roomPairOf r.setpoint r.actual
  selection := none
  explicitRate := none
  zone := zone
  expiry := none
  held := false

/-- R151, step 1 and 5: the slot record after a valid REPORT. -/
def SlotRecord.answer (r : SlotRecord) (rep : Report) : SlotRecord :=
  { r with good := count16 r.good, misses := 0, lastReport := some rep, state := .bound, lastReset := rep.reset }

/-- The source word of a room slot. -/
def State.roomReset (s : State) (n : RoomSlot) : State :=
  if s.sto.settings.remoteReset then (s.requestReset (.room n)).1
  else
    let r := s.rlc.slots.get n
    s.setSlotRecord n { r with ignoredResets := count16 r.ignoredResets }

/-- R151, R153: a valid REPORT acts. The entry is written, and the plan follows it, before the reset request is handed on. -/
def State.takeReport (s : State) (n : RoomSlot) (rep : Report) : State :=
  let old := s.rlc.slots.get n
  let s := s.closeExchange.setSlotRecord n (old.answer rep)
  let s := if old.state = .bound then s else s.post (.slot n .bound)
  let s := { s with dta := s.dta.put (.room n) (some (reportEntry rep old.zone)) }
  let s := if old.state = .lost then s.leaveKey (.a02 n) else s
  if rep.reset && !old.lastReset then s.settle.roomReset n else s

/-- R142, R147, R148: a frame that has ended is judged. A frame after the poll's outcome is not taken; a dropped exchange
discards its REPORT. -/
def State.judgeFrame (s : State) (n : RoomSlot) : State :=
  let t := s.flush
  let t := { t with rlc := { t.rlc with receiving := none } }
  match readReport n s.rlc.fifo with
  | none => (t.countBad n).endClosing
  | some rep =>
    if s.rlc.exchange.answerable n then
      if s.rlc.dropped then t.closeExchange else t.takeReport n rep
    else t

/-! ### Settings of a slot (R150, R27) -/

/-- R150: the enable and the zone of a slot are taken. DESIGN CHOICE: a slot disabled while its poll waits for the idle line is
treated like one whose POLL was sent: the POLL goes out and its outcome, or the miss of its skip, is dropped (R147; log entry
77). DESIGN CHOICE: an enable written before the hand-over of the settings acts at once (R149; log entry 71). -/
def State.takeSlotSetting (s : State) (n : RoomSlot) (x : SlotSetting) : State :=
  let old := s.rlc.slots.get n
  let s := s.setSlotRecord n { old with enable := x.enable, zone := x.zone }
  let s :=
    match old.state, x.enable with
    | .disabled, true =>
      let r := s.rlc.slots.get n
      (s.setSlotRecord n { r with state := .searching, misses := 0, lastReset := false }).post (.slot n .searching)
    | .disabled, false => s
    | _, true => s
    | _, false =>
      let r := s.rlc.slots.get n
      let s := s.setSlotRecord n { r with state := .disabled, misses := 0 }
      let s := { s with
        dta := s.dta.put (.room n) none
        rlc := { s.rlc with dropped := s.rlc.dropped || s.rlc.exchange.slot == some n } }
      (s.leaveKey (.a02 n)).post (.slot n .disabled)
  { s with dta := s.dta.put (.room n) ((s.dta.table.room.get n).map fun e => { e with zone := x.zone }) }

/-! ### The schedule (R145, R146, R154) -/

/-- R145: the order in which slots are looked for after the one that the pointer names. -/
def slotsAfter : Option RoomSlot → List RoomSlot
  | none => [.slot1, .slot2, .slot3, .slot4]
  | some .slot1 => [.slot2, .slot3, .slot4, .slot1]
  | some .slot2 => [.slot3, .slot4, .slot1, .slot2]
  | some .slot3 => [.slot4, .slot1, .slot2, .slot3]
  | some .slot4 => [.slot1, .slot2, .slot3, .slot4]

/-- R145: the next enabled slot. -/
def Rlc.nextSlot (r : Rlc) : Option RoomSlot := (slotsAfter r.pointer).find? fun n => (r.slots.get n).enable

/-- R145, R154: a poll falls due; while the loop is off it is a miss. -/
def State.pollDue (s : State) (n : RoomSlot) : State :=
  let s := { s with rlc := { s.rlc with pointer := some n } }
  if s.rlc.offTimer.isSome then s.missPoll n
  else { s with rlc := { s.rlc with exchange := .waiting n 0, dropped := false } }

/-- R146: the run is complete: A10 is cleared. -/
def State.endOnTimeRun (s : State) : State :=
  ({ s with rlc := { s.rlc with onTimeRun := 10 } } : State).leaveKey .a10

/-- R146: the POLL is formed and its sending starts. -/
def State.sendPoll (s : State) (n : RoomSlot) : State :=
  let s := { s with rlc :=
    { s.rlc with
      poll := s.formPoll n
      exchange := .sending n Config.pollSendMs
      pollsSent := count16 s.rlc.pollsSent
      onTimeRun := min 10 (s.rlc.onTimeRun + 1) } }
  if s.rlc.onTimeRun = 10 then s.endOnTimeRun else s

/-- R146: the poll is skipped. -/
def State.skipPoll (s : State) : State :=
  let s := s.endMissed
  ({ s with rlc := { s.rlc with skippedPolls := count16 s.rlc.skippedPolls, onTimeRun := 0 } } : State).enterKey .a10

/-! ### Meanings -/

/-- POLL_TICK (R145, R154). An exchange that is still running when a tick is taken ends as missed first (log entry 29). -/
def execPollTick (s : State) : Host.Outcome State Fault Refusal :=
  .next (s.event fun s =>
    let s := ({ s with clock := { s.clock with pollTickDue := false } } : State).endMissed
    match s.rlc.nextSlot with
    | none => s
    | some n => s.pollDue n)

/-- POLL_START (R146, R143). -/
def execPollStart (s : State) : Host.Outcome State Fault Refusal :=
  .next (s.event fun s =>
    match s.rlc.exchange with
    | .waiting n _ => s.sendPoll n
    | _ => s)

/-- POLL_SKIP (R146, R152). -/
def execPollSkip (s : State) : Host.Outcome State Fault Refusal :=
  .next (s.event fun s =>
    match s.rlc.exchange with
    | .waiting _ _ => s.skipPoll
    | _ => s)

/-- ON_TIME_RUN_COMPLETE (R146): only while A10 is raised. -/
def execOnTimeRunComplete (s : State) : Host.Outcome State Fault Refusal :=
  .next (s.event fun s => if s.isActive .a10 then s.endOnTimeRun else s)

/-- POLL_SEND_END (R147). -/
def execPollSendEnd (s : State) : Host.Outcome State Fault Refusal :=
  .next (s.event fun s =>
    match s.rlc.exchange with
    | .sending n _ => { s with rlc := { s.rlc with exchange := .window n Config.windowMs } }
    | _ => s)

/-- ANSWER_WINDOW_CLOSE (R147). -/
def execAnswerWindowClose (s : State) : Host.Outcome State Fault Refusal :=
  .next (s.event fun s =>
    match s.rlc.exchange with
    | .window n _ =>
      if s.rlc.receiving.isSome then { s with rlc := { s.rlc with exchange := .closing n } } else s.endMissed
    | _ => s)

/-- PREAMBLE_RECOGNISED (R147, R148): a reception starts only in an open window; else the frame is not stored. The receiver
takes nothing while the part sends (R141) or while the loop is off, nor from the rest of a broken frame (R148), and one preamble
within a frame starts nothing new. -/
def execPreambleRecognised (s : State) : Host.Outcome State Fault Refusal :=
  .next (s.event fun s =>
    if s.rlc.offTimer.isSome || s.rlc.receiving.isSome then s
    else match s.rlc.exchange with
      | .sending _ _ => s
      | .window n _ =>
        if s.rlc.broken then { s with rlc := { s.rlc with idle := 0 } }
        else { s with rlc := { s.rlc with receiving := some n, foreign := false, fifo := [], level := false, idle := 0 } }
      | _ => { s with rlc := { s.rlc with foreign := true, idle := 0 } })

/-- INBOUND_CURRENT_STEP (R146): the idle stretch is broken. -/
def execInboundCurrentStep (s : State) : Host.Outcome State Fault Refusal :=
  .next (s.event fun s => { s with rlc := { s.rlc with idle := 0 } })

/-- RECEIVE_BYTE (R148): appended, with the level trip, or an overflow. -/
def execReceiveByte (b : Byte) (s : State) : Host.Outcome State Fault Refusal :=
  .next (s.event fun s =>
    match s.rlc.receiving with
    | none => s
    | some n =>
      if 32 ≤ s.rlc.fifo.length then s.breakFrame n
      else
        let t := { s with rlc := { s.rlc with fifo := s.rlc.fifo ++ [b], level := 24 < s.rlc.fifo.length + 1 } }
        if t.rlc.level && !s.rlc.level && s.rlc.exchange.answerable n then t.endMissed else t)

/-- CODE_VIOLATION (R141, R148). -/
def execCodeViolation (s : State) : Host.Outcome State Fault Refusal :=
  .next (s.event fun s =>
    match s.rlc.receiving with
    | none => s
    | some n => s.breakFrame n)

/-- INBOUND_FRAME_END (R141, R142, R144, R147, R148, R151, R153): the line has carried no transition for four bit times. A frame
that was not received only lets the line go idle. DESIGN CHOICE: the end of any frame, also of one that no reception and no
foreign preamble stands for, begins the idle stretch anew (log entry 76). -/
def execInboundFrameEnd (s : State) : Host.Outcome State Fault Refusal :=
  .next (s.event fun s =>
    let t := { s with rlc := { s.rlc with foreign := false, broken := false, idle := 0 } }
    match s.rlc.receiving with
    | none => t
    | some n => t.judgeFrame n)

/-- SLOT_SILENT (R152): the third miss of a BOUND slot. -/
def execSlotSilent (n : RoomSlot) (s : State) : Host.Outcome State Fault Refusal :=
  .next (s.event fun s =>
    if (s.rlc.slots.get n).state = .bound then
      (s.setSlotRecord n { s.rlc.slots.get n with misses := 3 }).goSilent n
    else s)

/-- SLOT_LOST (R152): the tenth miss of a SILENT slot. -/
def execSlotLost (n : RoomSlot) (s : State) : Host.Outcome State Fault Refusal :=
  .next (s.event fun s =>
    if (s.rlc.slots.get n).state = .silent then
      (s.setSlotRecord n { s.rlc.slots.get n with misses := 10 }).goLost n
    else s)

/-- R154: a short. -/
def State.takeShort (s : State) : State :=
  let s := { s with rlc :=
    { s.rlc with offTimer := some Config.loopOffMs, shorts := count16 s.rlc.shorts, cleanTimer := none } }
  let s := s.enterKey .a11
  let s := { s with rlc := { s.rlc with receiving := none, foreign := false } }
  s.flush.endMissed

/-- LOOP_SHORT (R154): above 60 mA for 5 ms, while POWERED. -/
def execLoopShort (current lasted : Nat) (s : State) : Host.Outcome State Fault Refusal :=
  .next (s.event fun s => if 60 < current ∧ 5 ≤ lasted ∧ s.rlc.offTimer.isNone then s.takeShort else s)

/-- LOOP_OFF_TIMER_EXPIRY (R155): the line is not idle until 20 ms after the power returns. -/
def execLoopOffTimerExpiry (s : State) : Host.Outcome State Fault Refusal :=
  .next (s.event fun s =>
    if s.rlc.offTimer.isSome then
      { s with rlc :=
          { s.rlc with
            offTimer := none
            cleanTimer := some Config.cleanMs
            idle := 0
            broken := false
            restoring := Config.restoreMs } }
    else s)

/-- CLEAN_TIMER_EXPIRY (R155). -/
def execCleanTimerExpiry (s : State) : Host.Outcome State Fault Refusal :=
  .next (s.event fun s =>
    if s.rlc.cleanTimer.isSome then
      ({ s with rlc := { s.rlc with cleanTimer := none } } : State).leaveKey .a11
    else s)

end Sys2Proof.Machine
end

