-- ==== Sys2Proof/Machine/Store.lean ====
section
/-! DEFINITION. The store: the checks of its blocks, the start-up reads and their hand-over, the end of a write, operating
time, the supply and the resets, with the meanings of those commands (09_stored_settings_combustion_table_and_trim.md; 06
§6.5). -/

namespace Sys2Proof.Machine

/-! ### The checks of R174: the CRC matches and every value lies in its range -/

/-- A value in a range. -/
def within (lo hi x : Int) : Bool := lo ≤ x && x ≤ hi

/-- The settings lie in their ranges (09 §9.4). -/
def Settings.inRange (s : Settings) : Bool :=
  within 350 600 s.dhwSetpoint && within 350 500 s.keepwarmLow && within 250 450 s.chFlowMin
  && within 450 850 s.chFlowMax && within 2 35 s.curveSlope && within (-100) 100 s.curveShift
  && within 150 250 s.defaultRoom && within 0 80 s.roomInfluence && within 5 100 s.onDifferential
  && within 10 100 s.offDifferential && within 0 20 s.antiCycleMin && within 0 15 s.chOverrunMin
  && within 100 250 s.pumpDtTarget && within 200 1000 s.chMaxRate && within 5 60 s.serviceMin
  && within 0 15 s.attnLevel

/-- The trim items lie in their ranges (R181). -/
def Trim.inRange (t : Trim) : Bool :=
  (ntcList t.offsets).all (within (-20) 20) && within 500 2000 t.gain && within 100 1000 t.turbineK
  && within (-20) 20 t.pressOffset && t.factory.valid

/-- The highest stamp and the highest creation number (R176, 06 §6.4). -/
def stampMax : Nat := 4294967294
def numberMax : Nat := 4294967295

/-- A lockout's fields in range (06 §6.3). -/
def Lockout.inRange (l : Lockout) : Bool := keyClass l.cause == .locking && l.attempt ≤ 4 && l.stamp ≤ stampMax

/-- The lockout block's fields in range. -/
def LockoutBlock.inRange (b : LockoutBlock) : Bool :=
  b.lockout.all Lockout.inRange && b.resetCounter ≤ 5 && b.lastCreation ≤ numberMax

/-- The counters in range (R184). -/
def Counters.inRange (c : Counters) : Bool :=
  c.minutes ≤ stampMax && c.burnerStarts ≤ numberMax && c.burnerMinutes ≤ numberMax

/-- What 06 §6.4 and R131 let a record of each kind hold: a RESET record names its source and a lockout's cause, made in
LOCKOUT at rate 0; a RAISED record has no source, and one recorded during lockout has a locking key (log entry 61). -/
def HistoryRecord.fitsKind (r : HistoryRecord) : Bool :=
  match r.kind with
  | .reset => r.source.isSome && keyClass r.key == .locking && r.seqState == .lockout && r.rate == 0
  | .raised => r.source.isNone && (!r.duringLockout || keyClass r.key == .locking)

/-- A history record's fields in range (06 §6.4). -/
def HistoryRecord.inRange (r : HistoryRecord) : Bool :=
  r.fitsKind && r.flow.all (within (-300) 1300) && within 0 1000 r.rate && r.raiseStamp ≤ stampMax
  && r.clearedStamp.all (· ≤ stampMax) && 1 ≤ r.count && r.count ≤ 255 && r.number ≤ numberMax

def Nv.lockoutGood (n : Nv) : Bool := n.lockout.crcGood lockoutBlockWords && n.lockout.contents.inRange
def Nv.combustionGood (n : Nv) : Bool := n.combustion.crcGood tableWords && n.combustion.contents.valid
def Nv.settingsGood (n : Nv) : Bool := n.settings.crcGood settingsWords && n.settings.contents.inRange
def Nv.countersGood (n : Nv) : Bool := n.counters.crcGood counterWords && n.counters.contents.inRange
def Nv.trimGood (n : Nv) : Bool := n.trim.crcGood trimWords && n.trim.contents.inRange

/-- R174, R175: a history slot as it is handed over: a bad slot is handed over as empty. -/
def handedSlot (x : Stored (Option HistoryRecord)) : Option HistoryRecord :=
  if x.crcGood historySlotWords && x.contents.all HistoryRecord.inRange then x.contents else none

/-! ### The start-up hand-over (R175, R136) -/

/-- R175 step 1, R181: the working trim copy and the check word. DESIGN CHOICE: an offset written in START-CHECK before this
step is lost where the trim is reloaded (R182; log entry 85). -/
def State.handTrim (s : State) : State :=
  { s with sto := { s.sto with
      trimGood := s.sto.nv.trimGood
      trim := if s.sto.reloadTrim then (if s.sto.nv.trimGood then s.sto.nv.trim.contents else Trim.fallback)
              else s.sto.trim } }

/-- R149: a slot takes its enable and zone at start-up. -/
def SlotRecord.start (r : SlotRecord) (x : SlotSetting) : SlotRecord :=
  { r with enable := x.enable, zone := x.zone, state := if x.enable then .searching else .disabled }

/-- R5: the OUTDOOR record as the sensor is fitted or not. -/
def outdoorRecord (fitted : Bool) : NtcRecord := .fresh (if fitted then .ok else .notFitted)

/-- R175 step 2: the settings in force and the blocks that take them. A slot that starts is not BOUND, so it has no ROOM entry
(R27). DESIGN CHOICE: a setting written in START-CHECK before this step is replaced by it (log entry 71). -/
def State.handSettings (s : State) : State :=
  let set := if s.sto.nv.settingsGood then s.sto.nv.settings.contents else Settings.default
  let r := s.rlc.slots
  let s := { s with
    sto := { s.sto with settings := set }
    mfe := { s.mfe with ntc := { s.mfe.ntc with outdoor := outdoorRecord set.outdoorFitted } }
    rlc := { s.rlc with slots :=
      ⟨r.slot1.start set.slots.slot1, r.slot2.start set.slots.slot2, r.slot3.start set.slots.slot3,
       r.slot4.start set.slots.slot4⟩ }
    dta := { s.dta with table := { s.dta.table with room := ⟨none, none, none, none⟩ } } }
  if s.sto.nv.settingsGood then s else (s.markDirty .settings).enterKey .a09

/-- The raise and cleared stamps of a record. -/
def HistoryRecord.stamps (r : HistoryRecord) : List Nat := r.raiseStamp :: r.clearedStamp.toList

/-- The largest of a list of counts; 0 for an empty one. -/
def largest (l : List Nat) : Nat := l.foldl max 0

/-- The good occupied history slots of the store. -/
def Nv.records (n : Nv) : List HistoryRecord := n.history.filterMap handedSlot

/-- R176: the largest stamp that the store holds outside the counters block. -/
def Nv.latestStamp (n : Nv) : Nat :=
  max (largest (n.records.flatMap HistoryRecord.stamps))
    (if n.lockoutGood then (match n.lockout.contents.lockout with | some l => l.stamp | none => 0) else 0)

/-- R175 step 3, R176: the counters and the operating minute. -/
def State.handCounters (s : State) : State :=
  let good := s.sto.nv.countersGood
  let c : Counters := if good then s.sto.nv.counters.contents else ⟨0, 0, 0⟩
  let m := max c.minutes s.sto.nv.latestStamp
  let s := { s with sto := { s.sto with counters := { c with minutes := m } } }
  if good && m = c.minutes then s else s.markDirty .counters

/-- R175 step 4, R132: the ring is built from the good slots. -/
def State.handHistory (s : State) : State :=
  { s with flt := { s.flt with
      ring := s.sto.nv.history.map fun x => ⟨handedSlot x, none⟩
      ringBuilt := true
      lastCreation := largest (s.sto.nv.records.map HistoryRecord.number) } }

/-- R136: a lockout restored from the block: the cause enters the set with its notice and no new history record. -/
def State.restoreLockout (s : State) (l : Lockout) : State :=
  let s := { s with flt := { s.flt with lockout := some l, active := addKey s.flt.active l.cause } }
  let s := { s with dta := { s.dta with table := { s.dta.table with service := none } } }
  s.post (.raised l.cause)

/-- R136: the decay timer runs where the counter that was read is above 0. -/
def decayFor (counter : Nat) : Option Nat := if counter = 0 then none else some Config.decayMs

/-- R136: a damaged lockout block is made a lockout with cause F08. It begins a lockout, so the counters block is marked dirty
too (R122, R177, R184; log entry 58). -/
def State.makeF08 (s : State) : State :=
  let s := ({ s with flt := { s.flt with lockout := some ⟨.f08, .startCheck, 0, s.minute⟩ } } : State).markDirty .counters
  let s := { s with dta := { s.dta with table := { s.dta.table with service := none } } }
  s.enterKey .f08

/-- R175 step 5, R136: the lockout block. A lockout that began during START-CHECK stands (log entry 28). -/
def State.handLockout (s : State) : State :=
  if s.sto.nv.lockoutGood then
    let b := s.sto.nv.lockout.contents
    let s := { s with flt := { s.flt with
      resetCounter := b.resetCounter
      decay := decayFor b.resetCounter
      lastCreation := max b.lastCreation s.flt.lastCreation } }
    match s.locked, b.lockout with
    | false, some l => s.restoreLockout l
    | _, _ => s
  else
    let s := { s with flt := { s.flt with resetCounter := 0, decay := none } }
    (if s.locked then s.recordRaise .f08 true else s.makeF08).markDirty .lockout

/-- R136: whether a record read from the store was left open by the reset. -/
def HistoryRecord.leftOpen (r : HistoryRecord) : Bool :=
  r.kind == .raised && keyClass r.key != .locking && r.clearedStamp.isNone

/-- R136: the open records of blocking and advisory keys, with their slots. -/
def leftOpenSlots (ring : List HistorySlot) : List (Nat × HistoryRecord) :=
  ring.zipIdx.filterMap fun x =>
    match x.1.record with
    | some r => if r.leftOpen then some (x.2, r) else none
    | none => none

/-- R136: such a record is closed without a second-of-clear note. -/
def State.closeSlot (s : State) (x : Nat × HistoryRecord) : State :=
  s.putSlot x.1 ⟨some { x.2 with clearedStamp := some s.minute }, none⟩

def State.closeOpen (s : State) : State := (leftOpenSlots s.flt.ring).foldl State.closeSlot s

/-- R136: the record of a key that waited for the ring. -/
def State.recordEarly (s : State) (e : EarlyKey) : State :=
  let s := s.createRecord (s.raisedRecord e.key e.duringLockout)
  if e.left then s.fillCleared e.key else s

def State.recordWaiting (s : State) : State :=
  let l := s.flt.early
  l.foldl State.recordEarly { s with flt := { s.flt with early := [] } }

/-- R175 step 6, R180: the table in use and its mark. -/
def State.handCombustion (s : State) : State :=
  let good := s.sto.nv.combustionGood
  { s with sto := { s.sto with
      table := if good then s.sto.nv.combustion.contents else s.sto.trim.factory
      tableValid := good
      startup := none } }

/-- STARTUP_READS_COMPLETE (R175, R136, R73): the six steps in order, while the start-up reads are awaited. -/
def execStartupReadsComplete (s : State) : Host.Outcome State Fault Refusal :=
  .next (s.event fun s =>
    if s.sto.startup.isSome then
      let s := s.handTrim.handSettings.handCounters.handHistory.handLockout.closeOpen.recordWaiting.handCombustion
      s.endStartCheck s.sto.tableValid
    else s)

/-! ### Writes (R177) -/

/-- A block as a write leaves it: whole, or bad where the write was cut short or does not read back (R174, log entry 27). -/
def Stored.written (words : α → List Word) (whole : Bool) (c : α) : Stored α :=
  if whole then Stored.seal words c else Stored.damaged words c

/-- The non-volatile blocks after a write of an image. -/
def Nv.write (n : Nv) (whole : Bool) : WriteImage → Nv
  | .lockout c => { n with lockout := .written lockoutBlockWords whole c }
  | .combustion c => { n with combustion := .written tableWords whole c }
  | .settings c => { n with settings := .written settingsWords whole c }
  | .counters c => { n with counters := .written counterWords whole c }
  | .slot i c => { n with history := n.history.set i (.written historySlotWords whole c) }

/-- R174: the blocks when a write in flight is cut short. -/
def Sto.cutShort (s : Sto) : Nv :=
  match s.inFlight with
  | none => s.nv
  | some w => s.nv.write false w.image

/-- R177: a write ends and is read back. -/
def State.endWrite (s : State) (w : Write) (readsBack : Bool) : State :=
  let s := { s with sto := { s.sto with inFlight := none, nv := s.sto.nv.write readsBack w.image } }
  if readsBack then s else s.markDirty w.image.item

/-- STORE_WRITE_END (R177): the next item is taken as the event ends. -/
def execStoreWriteEnd (readsBack : Bool) (s : State) : Host.Outcome State Fault Refusal :=
  .next (s.event fun s =>
    match s.sto.inFlight with
    | none => s
    | some w => s.endWrite w readsBack)

/-! ### Operating time (R176, R184, R125) -/

/-- OPERATING_MINUTE (R176, R177): the operating second count returns to 0. -/
def execOperatingMinute (s : State) : Host.Outcome State Fault Refusal :=
  .next (s.event fun s =>
    let m := min stampMax (s.sto.counters.minutes + 1)
    let s := { s with
      sto := { s.sto with counters := { s.sto.counters with minutes := m } }
      clock := { s.clock with minuteStart := s.clock.now } }
    if m % 60 = 0 then s.markDirty .counters else s)

/-- R125: one decay of the reset counter. -/
def State.decayCounter (s : State) : State :=
  let n := s.flt.resetCounter - 1
  let s := { s with flt := { s.flt with resetCounter := n, decay := decayFor n } }
  let s := s.markDirty .lockout
  if n = 4 then s.leaveKey .a12 else s

/-- DECAY_TIMER_EXPIRY (R125): only while the timer runs. -/
def execDecayTimerExpiry (s : State) : Host.Outcome State Fault Refusal :=
  .next (s.event fun s => if s.flt.decay.isSome then s.decayCounter else s)

/-! ### The supply and the resets (R66, R173, R174, R178) -/

/-- SUPPLY_FAILURE (R174): a write in flight leaves its block bad; the part stops. -/
def execSupplyFailure (s : State) : Host.Outcome State Fault Refusal :=
  .next (s.live fun s => { s with powered := false, sto := { s.sto with nv := s.sto.cutShort, inFlight := none } })

/-- POWER_ON_RESET (R5, R22, R47, R66, R98, R136, R149, R157, R161, R168, R181). -/
def execPowerOnReset (s : State) : Host.Outcome State Fault Refusal :=
  .next (State.afterReset s.sto.cutShort Trim.fallback true s.pending)

/-- PIN_RESET (00_scope.md, Resets): the same effect, with the supply there. -/
def execPinReset (s : State) : Host.Outcome State Fault Refusal :=
  .next (s.live fun s => State.afterReset s.sto.cutShort Trim.fallback true s.pending)

/-- R173: a reset of every block but for the three differences. -/
def State.softReset (s : State) : State :=
  let t := State.afterReset s.sto.nv s.sto.trim s.sto.settings.trimReload s.pending
  { t with prt :=
      { t.prt with expiredFlag := s.prt.expiredFlag, expiredNote := s.prt.expiredNote, brst := s.prt.brst } }

/-- SOFT_RESET_EFFECT (R178, R173, R181). -/
def execSoftResetEffect (s : State) : Host.Outcome State Fault Refusal :=
  .next (s.live fun s => if s.softResetReady then s.softReset else s)

end Sys2Proof.Machine
end

