-- ==== Sys2Proof/Machine/Operands.lean ====
section
/-! DEFINITION. The operands of port commands: the command word and its fields, the access spaces with their sizes and rights,
the words that each space reads, and how a written word becomes a value (08 §8.3, §8.4). -/

namespace Sys2Proof.Machine

/-! ### Bytes and command words (R160) -/

/-- A word from the front of a byte sequence, most significant byte first. -/
def takeWord : List Byte → Option (Word × List Byte)
  | hi :: lo :: rest => some (hi ++ lo, rest)
  | _ => none

/-- `n` words from the front of a byte sequence. -/
def takeWords : Nat → List Byte → Option (List Word × List Byte)
  | 0, bytes => some ([], bytes)
  | n + 1, bytes =>
    match takeWord bytes with
    | none => none
    | some (w, rest) =>
      match takeWords n rest with
      | none => none
      | some (ws, rest) => some (w :: ws, rest)

/-- The fields of a command word (08 §8.3). -/
def cmdWrite (w : Word) : Bool := w.getLsbD 15
def cmdAddressFollows (w : Word) : Bool := w.getLsbD 14
def cmdSpace (w : Word) : BitVec 3 := w.extractLsb' 11 3
def cmdStep (w : Word) : Bool := w.getLsbD 10
def cmdSpare (w : Word) : BitVec 4 := w.extractLsb' 6 4
def cmdCount (w : Word) : Nat := (w.extractLsb' 0 6).toNat

/-- The start of a command: its address word or the pointer. -/
def takeStart (w : Word) (bytes : List Byte) : Option (Start × List Byte) :=
  if cmdAddressFollows w then
    match takeWord bytes with
    | none => none
    | some (a, rest) => some (.address a, rest)
  else some (.pointer, bytes)

/-- R160: one command; none where it is refused with BAD-COMMAND. -/
def takeCommand (bytes : List Byte) : Option (PortCommand × List Byte) :=
  match takeWord bytes with
  | none => none
  | some (w, rest) =>
    if cmdCount w = 0 ∨ cmdSpare w ≠ 0 then none
    else match takeStart w rest with
      | none => none
      | some (start, rest) =>
        if cmdWrite w then
          match takeWords (cmdCount w) rest with
          | none => none
          | some (data, rest) => some (⟨cmdSpace w, start, cmdStep w, .inr data⟩, rest)
        else some (⟨cmdSpace w, start, cmdStep w, .inl (cmdCount w)⟩, rest)

/-- R160: at most `fuel` commands of a frame, and whether a command that must be refused with BAD-COMMAND follows them. -/
def takeCommands : Nat → List Byte → List PortCommand × Bool
  | 0, bytes => ([], !bytes.isEmpty)
  | fuel + 1, bytes =>
    if bytes.isEmpty then ([], false)
    else match takeCommand bytes with
      | none => ([], true)
      | some (c, rest) => (c :: (takeCommands fuel rest).1, (takeCommands fuel rest).2)

/-- R160: the most commands that a frame may carry. -/
def maxCommands : Nat := 16

/-- R160: the count of a command as its row gives it is one that the command word can carry. -/
def countOk (c : PortCommand) : Bool :=
  match c.body with
  | .inl n => 1 ≤ n && n ≤ 63
  | .inr data => 1 ≤ data.length && data.length ≤ 63

/-! ### Statuses (08 §8.3, R162) -/

/-- The statuses of a command. -/
inductive Status where
  | ok | clamped | badCommand | noSpace | range | denied | noUnlock | busy | value
  deriving DecidableEq, Repr

def Status.code : Status → Byte
  | .ok => 0
  | .clamped => 1
  | .badCommand => 2
  | .noSpace => 3
  | .range => 4
  | .denied => 5
  | .noUnlock => 6
  | .busy => 7
  | .value => 8

/-- R162: the place of a status in the order in which it applies. -/
def Status.rank : Status → Nat
  | .range => 0
  | .noUnlock => 1
  | .denied => 2
  | .value => 3
  | .busy => 4
  | .clamped => 5
  | .ok => 6
  | _ => 7

/-- R162: of two words' statuses, the one that the command returns. -/
def Status.first (a b : Status) : Status := if a.rank ≤ b.rank then a else b

/-- R162: the status of a command from those of its words. -/
def statusOf (l : List Status) : Status := l.foldl Status.first .ok

def ResetOutcome.code : ResetOutcome → Byte
  | .accepted => 0
  | .notLocked => 1
  | .limit => 2
  | .causePresent => 3

/-- The commit codes (08 §8.3). -/
inductive Commit where
  | none | adopted | discardedUnlock | discardedValue | discardedInvalid | discardedBusy
  deriving DecidableEq, Repr

def Commit.code : Commit → Byte
  | .none => 0
  | .adopted => 1
  | .discardedUnlock => 2
  | .discardedValue => 3
  | .discardedInvalid => 4
  | .discardedBusy => 5

/-! ### Spaces and rights (08 §8.4) -/

/-- The size of a space in words; space 7 has none. -/
def spaceSize (space : BitVec 3) : Nat :=
  match space.toNat with
  | 0 => 336
  | 1 => 144
  | 2 => 29
  | 3 => 49
  | 4 => 449
  | 5 => 2
  | 6 => 99
  | _ => 0

/-- The rights word of a port in a space (R161): 1 read, 2 write, 4 write needs unlock. -/
def rightsOf (port : Port) (space : BitVec 3) : Nat :=
  match port, space.toNat with
  | .control, 0 => 1
  | .control, 1 => 3
  | .control, 2 => 3
  | .control, 3 => 1
  | .control, 4 => 3
  | .control, 5 => 1
  | .control, 6 => 3
  | .service, 0 => 1
  | .service, 1 => 3
  | .service, 2 => 3
  | .service, 3 => 7
  | .service, 4 => 3
  | .service, 5 => 0
  | .service, 6 => 3
  | _, _ => 0

def mayRead (port : Port) (space : BitVec 3) : Bool := rightsOf port space % 2 == 1
def mayWrite (port : Port) (space : BitVec 3) : Bool := rightsOf port space / 2 % 2 == 1

/-- R161: the info words. -/
def isInfo (a : Nat) : Bool := 0xFFF0 ≤ a && a ≤ 0xFFF2

/-- R161: an address that a command may handle; any other stops it with RANGE. -/
def inSpace (space : BitVec 3) (a : Nat) : Bool := a < spaceSize space || isInfo a

/-- R161: an info word. -/
def infoWord (port : Port) (space : BitVec 3) (a : Nat) : Word :=
  if a = 0xFFF0 then BitVec.ofNat 16 space.toNat
  else if a = 0xFFF1 then natWord (spaceSize space)
  else natWord (rightsOf port space)

/-- The next word address (R161). -/
def nextAddress (a : Nat) (step : Bool) : Nat := if step then (a + 1) % 65536 else a

/-- R161: the addresses that a command of `n` words handles, the pointer after it, and whether it was stopped by RANGE. -/
def walk (space : BitVec 3) (step : Bool) : Nat → Nat → List Nat × Nat × Bool
  | 0, a => ([], a, false)
  | n + 1, a =>
    if inSpace space a then
      let r := walk space step n (nextAddress a step)
      (a :: r.1, r.2)
    else ([], a, true)

/-! ### Codes (R163) -/

def pumpCode : PumpRequest → Nat
  | .off => 0
  | .min => 1
  | .max => 2
  | .dtControl => 3

def scopeCode : Scope → Nat
  | .none => 0
  | .dhw => 1
  | .all => 2
  | .lockout => 3

def sideCode : Side → Nat
  | .ch => 0
  | .dhw => 1

def diverterCode : DiverterState → Nat
  | .atCh => 0
  | .movingToDhw => 1
  | .atDhw => 2
  | .movingToCh => 3

def overrunCode : Option (OverrunKind × Nat) → Nat
  | none => 0
  | some (.ch, _) => 1
  | some (.dhw, _) => 2

def reasonCode : LimitReason → Nat
  | .none => 0
  | .control => 1
  | .ramp => 2
  | .mode => 3
  | .flue => 4
  | .deltaT => 5
  | .diverter => 6
  | .floor => 7
  | .selection => 8

def channelStateCode : ChannelState → Nat
  | .idle => 0
  | .held => 1
  | .active => 2
  | .tripped => 3

def phaseCode : Option Phase → Nat
  | none => 0
  | some .pullIn => 1
  | some .hold => 2

def ntcStatusCode : NtcStatus → Nat
  | .ok => 0
  | .openCircuit => 1
  | .shortCircuit => 2
  | .notFitted => 3

def slotStateCode : SlotState → Nat
  | .disabled => 0
  | .searching => 1
  | .bound => 2
  | .silent => 3
  | .lost => 4

def testChannelCode : TestChannel → Nat
  | .fan => 0
  | .pump => 1
  | .diverter => 5
  | .zone1 => 6
  | .zone2 => 7

def testEndCode : TestEnd → Nat
  | .none => 0
  | .expired => 1
  | .ended => 2
  | .demand => 3
  | .lockout => 4

def zoneCode : Option Zone → Nat
  | none => 0
  | some .zone1 => 1
  | some .zone2 => 2

/-- The notice words (08 §8.4, NOTICE space). -/
def noticeWord : Notice → Word
  | .raised k => keyWord k
  | .cleared k => 0x4000 ||| keyWord k
  | .reset o src => BitVec.ofNat 16 (0x8000 + o.code.toNat * 16 + resetSourceCode src)
  | .slot n st => BitVec.ofNat 16 (0xC000 + slotNumber n * 16 + slotStateCode st)

/-- A free word (log entry 20). -/
def unstated (x : UnstatedWord) : Word := Config.unstatedWord x

/-! ### The words of a space -/

/-- The word at an address, from groups of consecutive words; a word that no group names reads as 0 (R161). -/
def groupWord : List (Nat × List Word) → Nat → Word
  | [], _ => 0
  | (base, ws) :: rest, a => if base ≤ a ∧ a < base + ws.length then ws.getD (a - base) 0 else groupWord rest a

/-- STATUS 0x000: a channel record. -/
def ntcWords (r : NtcRecord) : List Word :=
  [tempWord r.value, natWord (ntcStatusCode r.status), natWord r.age, unstated (.badRun r.badKind r.badRun)]

/-- STATUS 0x01C. DESIGN CHOICE: the strap level reads 1 for high and 0 for low (R6, R163; log entry 80). -/
def measureWords (s : State) : List Word :=
  [(match s.mfe.pressValue with | some p => intWord p | none => unstated .pressureAbsent), natWord s.mfe.pressAge,
   natWord s.mfe.ionSample, boolWord s.mfe.flameOn, natWord s.mfe.tapFlow, natWord s.mfe.fanSpeed, tempWord s.flow,
   tempWord s.returnTemp, tempWord s.deltaT, boolWord s.mfe.strapHigh, natWord s.dta.startRun, natWord s.dta.stopRun]

/-- The bit of a source: its place in source order. -/
def sourceBit : Source → Nat
  | .board => 0
  | .room n => slotNumber n
  | .service => 5
  | .tap => 6
  | .frost => 7
  | .keepwarm => 8

/-- STATUS 0x040. -/
def planWords (d : Dta) : List Word :=
  [natWord (modeCode d.plan.mode), boolWord d.plan.request, tempWord d.plan.target, intWord d.plan.dhwSetpoint,
   BitVec.ofNat 16 ((d.plan.sources.map fun src => 2 ^ sourceBit src).sum), unstated (.zoneSet d.plan.zone1 d.plan.zone2),
   natWord (pumpCode d.plan.pump), natWord (sideCode d.plan.diverter), natWord (scopeCode d.plan.scope),
   boolWord d.dhwPause, natWord (secondsOf d.antiCycle), natWord (secondsOf (d.overrun.map (·.2))),
   natWord (secondsOf d.spacing), natWord (d.burnTime / 1000), natWord (overrunCode d.overrun),
   natWord (diverterCode d.divState), natWord d.divLeft, boolWord d.homing, boolWord d.frostStage]

/-- STATUS 0x060. DESIGN CHOICE: its fan target word is the sequencer's, during an output test of the fan too (log entry 55). -/
def rateWords (s : State) : List Word :=
  [natWord (modeCode s.fre.served), intWord s.fre.chI, intWord s.fre.dhwI, intWord s.fre.lastRate,
   intWord s.fre.caps.mode, intWord s.fre.caps.flue, intWord s.fre.caps.deltaT, intWord s.fre.caps.diverter,
   natWord (reasonCode s.fre.reason), intWord s.reportedRate]
  ++ words32 s.reportedPower.toNat ++ [natWord s.bsq.fanTarget]

/-- STATUS 0x080. -/
def sequencerWords (b : Bsq) : List Word :=
  [natWord (seqStateCode b.state), natWord b.timeIn, natWord b.attempts, boolWord b.recycleUsed,
   natWord b.provingFailures, boolWord b.band.inBand, natWord b.fanTarget, boolWord b.gasOpen, boolWord b.spark]

/-- STATUS 0x0A0: a channel record. -/
def channelWords (r : ChannelRecord) : List Word :=
  [natWord (channelStateCode r.state), natWord (phaseCode r.phase), natWord r.duty,
   unstated (.tripCauses r.tripCauses.limit r.tripCauses.cond r.tripCauses.ext), boolWord r.rearmPending,
   natWord r.pulseCount, (match r.testLevel with | some n => natWord n | none => unstated .testLevelAbsent)]

/-- STATUS 0x0E0 and FAULTS 0x000: the active fault set in code order. -/
def activeWords (f : Flt) : List Word := natWord f.active.length :: f.active.map keyWord

/-- STATUS 0x100: a room slot record in twelve words. The temperatures of an absent last REPORT read as absent (R163). DESIGN
CHOICE: of the last REPORT's reset request no word is given beside the last reset flag's (log entry 75). -/
def slotWords (r : SlotRecord) : List Word :=
  [boolWord r.enable, natWord (zoneCode r.zone), natWord (slotStateCode r.state), natWord r.misses]
  ++ (match r.lastReport with
      | some x => [boolWord x.heat, intWord x.setpoint, intWord x.actual, intWord x.flowRequest]
      | none => [unstated .reportAbsent, tempWord none, tempWord none, tempWord none])
  ++ [boolWord r.lastReset, natWord r.good, natWord r.bad, natWord r.ignoredResets]

/-- STATUS 0x130. -/
def loopWords (r : Rlc) : List Word :=
  [natWord r.pollsSent, natWord r.skippedPolls, natWord r.shorts,
   (match r.pointer with | some n => natWord (slotNumber n) | none => unstated .pointerAbsent), natWord r.onTimeRun,
   boolWord r.offTimer.isSome, natWord r.fifo.length, boolWord r.level]

/-- A listed channel of the output test with its level; an entry that is not there reads as absent. -/
def testEntryWords (l : List (TestChannel × Nat)) (i : Nat) : List Word :=
  match l[i]? with
  | some x => [natWord (testChannelCode x.1), natWord x.2]
  | none => [0xFFFF, unstated .testLevelAbsent]

/-- STATUS 0x140. -/
def testWords (t : OutputTest) : List Word :=
  [boolWord t.timer.isSome, natWord t.listed.length]
  ++ (List.range 5).flatMap (testEntryWords t.listed)
  ++ [natWord (secondsOf t.timer), natWord (testEndCode t.endCause)]

/-- The STATUS space (08 §8.4). -/
def State.statusGroups (s : State) : List (Nat × List Word) :=
  [(0x000, (ntcList s.mfe.ntc).flatMap ntcWords), (0x01C, measureWords s), (0x040, planWords s.dta), (0x060, rateWords s),
   (0x080, sequencerWords s.bsq),
   (0x0A0, [s.ocu.fan, s.ocu.pump, s.ocu.spark, s.ocu.gv1, s.ocu.gv2, s.ocu.diverter, s.ocu.zone1, s.ocu.zone2].flatMap
     channelWords),
   (0x0D8, [boolWord s.ocu.lines.limit, boolWord s.ocu.lines.cond, boolWord s.ocu.lines.ext,
     natWord s.ocu.coils.gv1.reading, natWord s.ocu.coils.gv2.reading]),
   (0x0E0, activeWords s.flt), (0x100, s.rlc.slots.toList.flatMap slotWords), (0x130, loopWords s.rlc),
   (0x140, testWords s.ocu.test)]

/-- The class code of a source (08 §8.4, DEMAND space). -/
def classCode : Source → Nat
  | .service => 3
  | .tap => 2
  | .keepwarm => 2
  | _ => 1

def selectionCode : Option RateSelection → Word
  | none => 0xFFFF
  | some .min => 1
  | some .ignition => 2
  | some .chMax => 3
  | some .explicit => 4

/-- R26: the time left to an expiry, in ms. -/
def expiryLeft (now : Nat) (e : Entry) : Option Nat := e.expiry.map fun t => t - now

/-- The words of a present entry from its requesting flag on. -/
def entryWords (e : Entry) (now : Nat) : List Word :=
  [boolWord e.requesting, (match e.flowRequest with | some f => intWord f | none => 0),
   (match e.roomPair with | some p => intWord p.setpoint | none => 0), tempWord (e.roomPair.map (·.actual)),
   natWord (zoneCode e.zone), selectionCode e.selection,
   (match e.explicitRate with | some r => intWord r | none => unstated .explicitRateAbsent),
   (match expiryLeft now e with | some t => natWord (t / 1000) | none => unstated .expiryAbsent), boolWord e.held]

/-- The DEMAND block of a source; an absent entry reads as one without any field. -/
def State.demandBlock (s : State) (src : Source) : List Word :=
  let e := s.dta.table.get src
  [boolWord e.isSome, natWord (classCode src)] ++ entryWords (e.getD (Entry.plain false)) s.clock.now
  ++ [tempWord (s.fre.targets.get src)]

/-- The DEMAND space (08 §8.4). -/
def State.demandGroups (s : State) : List (Nat × List Word) :=
  allSources.map fun src => (16 * sourceBit src, s.demandBlock src)

/-- A record put in its place among records in the order of their creation numbers. -/
def insertRecord (r : HistoryRecord) : List HistoryRecord → List HistoryRecord
  | [] => [r]
  | x :: rest => if r.number ≤ x.number then r :: x :: rest else x :: insertRecord r rest

/-- R132: the records of the ring, oldest first. -/
def recordsInOrder (ring : List HistorySlot) : List HistoryRecord :=
  (ring.filterMap HistorySlot.record).foldr insertRecord []

/-- FAULTS 0x020. -/
def lockoutWords (f : Flt) : List Word :=
  (match f.lockout with
   | none => [0, unstated .lockoutCauseAbsent, 0xFFFF, unstated .lockoutAttemptAbsent, 0xFFFF, 0xFFFF]
   | some l => [1, keyWord l.cause, natWord (seqStateCode l.seqState), natWord l.attempt] ++ words32 l.stamp)
  ++ [natWord f.resetCounter, natWord (secondsOf f.decay)]

/-- FAULTS 0x028. -/
def conditionsWord (c : LockingConditions) : Word :=
  (if c.limit then 1 else 0) + (if c.flowPair then 2 else 0) + (if c.flue then 4 else 0) + (if c.flame then 8 else 0)
  + (if c.table then 16 else 0)

/-- The FAULTS space (08 §8.4). -/
def Flt.groups (f : Flt) : List (Nat × List Word) :=
  [(0x000, activeWords f), (0x020, lockoutWords f), (0x028, [conditionsWord f.conditions]),
   (0x030, [unstated (.writeOnly 4 0x30), unstated (.writeOnly 4 0x31)]),
   (0x040, [natWord (recordsInOrder f.ring).length]), (0x041, (recordsInOrder f.ring).flatMap historyWords)]

/-- The NOTICE space; the pop word (08 §8.4, R170). -/
def noticeCountWord (p : Prt) : Word := natWord p.notices.length ||| (if p.overflow then 0x8000 else 0)

def popWord (p : Prt) : Word :=
  match p.notices with
  | [] => 0xFFFF
  | n :: _ => noticeWord n

/-- The record of a port. -/
def Prt.portRecord (p : Prt) : Port → PortRecord
  | .control => p.control
  | .service => p.service

/-- The six counters in their order (R172). -/
def counterList (c : PortCounters) : List Word :=
  [natWord c.frames, natWord c.badFrames, natWord c.badCommands, natWord c.denied, natWord c.writeErrors,
   natWord c.overruns]

/-- The PORT space as a port reads it (08 §8.4). -/
def State.portGroups (s : State) (port : Port) : List (Nat × List Word) :=
  [(0x00, counterList (s.prt.portRecord port).counters),
   (0x10, [0x4120, natWord s.sto.trim.hwRev] ++ words32 s.sto.trim.serial ++ [boolWord s.sto.trimGood]),
   (0x20, [unstated (.writeOnly 6 0x20), boolWord s.prt.heartbeat.isSome, natWord (secondsOf s.prt.heartbeat),
     boolWord s.prt.expiredFlag]),
   (0x30, [unstated (.writeOnly 6 0x30), unstated (.writeOnly 6 0x31)]),
   (0x40, (ntcList s.sto.trim.offsets).map intWord), (0x50, counterWords s.sto.counters),
   (0x60, [unstated (.writeOnly 6 0x60), unstated (.writeOnly 6 0x61), unstated (.writeOnly 6 0x62)])]

/-- R166: the table that a port reads: the staged copy within a frame that holds one, else the table in use. -/
def State.tableFor (s : State) (port : Port) : CombustionTable :=
  match port with
  | .control => s.sto.table
  | .service => s.prt.staged.getD s.sto.table

/-- The word that a port reads at an address of a space, within its size. -/
def State.spaceWord (s : State) (port : Port) (space : BitVec 3) (a : Nat) : Word :=
  match space.toNat with
  | 0 => groupWord s.statusGroups a
  | 1 => groupWord s.demandGroups a
  | 2 => groupWord [(0, settingsWords s.sto.settings)] a
  | 3 => groupWord [(0, tableWords (s.tableFor port)), (0x30, [unstated (.writeOnly 3 0x30)])] a
  | 4 => groupWord s.flt.groups a
  | 5 => if a = 0 then noticeCountWord s.prt else popWord s.prt
  | 6 => groupWord (s.portGroups port) a
  | _ => 0

/-- R161: the word that a port reads. -/
def State.readValue (s : State) (port : Port) (space : BitVec 3) (a : Nat) : Word :=
  if isInfo a then infoWord port space a else s.spaceWord port space a

/-! ### Written words as values -/

/-- A clamp and whether it changed the value. -/
def clampWord (lo hi x : Int) : Int × Bool := (clampInt lo hi x, clampInt lo hi x != x)

/-- An unsigned word. -/
def unsigned (w : Word) : Int := (w.toNat : Int)

/-- R163: a yes/no word. -/
def yesWord (w : Word) : Bool := w != 0

/-- R163: a slot's settings word; a zone field of 3 is taken as none and clamped. DESIGN CHOICE: the bits outside bit 8 and bits
1 to 0 are ignored, and clamp nothing (log entry 78). -/
def slotSettingOf (w : Word) : SlotSetting × Bool :=
  match (w.extractLsb' 0 2).toNat with
  | 0 => (⟨w.getLsbD 8, none⟩, false)
  | 1 => (⟨w.getLsbD 8, some .zone1⟩, false)
  | 2 => (⟨w.getLsbD 8, some .zone2⟩, false)
  | _ => (⟨w.getLsbD 8, none⟩, true)

/-- R53: CH flow min is kept 10.0 K below CH flow max. -/
def clampFlowMin (s : Settings) (w : Word) : Int × Bool :=
  let v := min (clampInt 250 450 w.toInt) (s.chFlowMax - 100)
  (v, v != w.toInt)

/-- R53: CH flow max is kept 10.0 K above CH flow min. -/
def clampFlowMax (s : Settings) (w : Word) : Int × Bool :=
  let v := max (clampInt 450 850 w.toInt) (s.chFlowMin + 100)
  (v, v != w.toInt)

/-- R163, R179: a SETTINGS word written at an address: the settings after it and whether the value was clamped. -/
def Settings.put (s : Settings) (a : Nat) (w : Word) : Option (Settings × Bool) :=
  let num (x : Int × Bool) (f : Int → Settings) : Option (Settings × Bool) := some (f x.1, x.2)
  let slot (f : SlotSetting → Settings) : Option (Settings × Bool) := some (f (slotSettingOf w).1, (slotSettingOf w).2)
  match a with
  | 0x00 => num (clampWord 350 600 w.toInt) fun v => { s with dhwSetpoint := v }
  | 0x01 => some ({ s with dhwEnable := yesWord w }, false)
  | 0x02 => some ({ s with keepwarmEnable := yesWord w }, false)
  | 0x03 => num (clampWord 350 500 w.toInt) fun v => { s with keepwarmLow := v }
  | 0x04 => num (clampFlowMin s w) fun v => { s with chFlowMin := v }
  | 0x05 => num (clampFlowMax s w) fun v => { s with chFlowMax := v }
  | 0x06 => num (clampWord 2 35 (unsigned w)) fun v => { s with curveSlope := v }
  | 0x07 => num (clampWord (-100) 100 w.toInt) fun v => { s with curveShift := v }
  | 0x08 => num (clampWord 150 250 w.toInt) fun v => { s with defaultRoom := v }
  | 0x09 => num (clampWord 0 80 (unsigned w)) fun v => { s with roomInfluence := v }
  | 0x0A => num (clampWord 5 100 w.toInt) fun v => { s with onDifferential := v }
  | 0x0B => num (clampWord 10 100 w.toInt) fun v => { s with offDifferential := v }
  | 0x0C => num (clampWord 0 20 (unsigned w)) fun v => { s with antiCycleMin := v }
  | 0x0D => num (clampWord 100 250 w.toInt) fun v => { s with pumpDtTarget := v }
  | 0x0E => some ({ s with pumpInverted := yesWord w }, false)
  | 0x0F => num (clampWord 200 1000 (unsigned w)) fun v => { s with chMaxRate := v }
  | 0x10 => some ({ s with outdoorFitted := yesWord w }, false)
  | 0x11 => some ({ s with alarmHigh := yesWord w }, false)
  | 0x12 => some ({ s with remoteReset := yesWord w }, false)
  | 0x13 => some ({ s with boardResetPulse := yesWord w }, false)
  | 0x14 => some ({ s with trimReload := yesWord w }, false)
  | 0x15 => num (clampWord 5 60 (unsigned w)) fun v => { s with serviceMin := v }
  | 0x16 => num (clampWord 0 15 (unsigned w)) fun v => { s with attnLevel := v }
  | 0x17 => slot fun x => { s with slots := { s.slots with slot1 := x } }
  | 0x18 => slot fun x => { s with slots := { s.slots with slot2 := x } }
  | 0x19 => slot fun x => { s with slots := { s.slots with slot3 := x } }
  | 0x1A => slot fun x => { s with slots := { s.slots with slot4 := x } }
  | 0x1B => num (clampWord 0 15 (unsigned w)) fun v => { s with chOverrunMin := v }
  | _ => none

/-- The room slot whose settings word stands at an address. -/
def slotOfSetting (a : Nat) : Option RoomSlot :=
  match a with
  | 0x17 => some .slot1
  | 0x18 => some .slot2
  | 0x19 => some .slot3
  | 0x1A => some .slot4
  | _ => none

/-- The range of the parameter at a COMBUSTION address (R69, 09 §9.5): a curve point's rate word takes 0 to 1000 and its speed
word 600 to 7,500. -/
def combustionRange (a : Nat) : Option (Int × Int) :=
  if a < 0x13 then tableRanges[a]?
  else if a ≤ 0x22 then (if a % 2 = 1 then some (0, 1000) else some (600, 7500))
  else none

/-- A curve point changed: at an odd address its rate, at an even one its speed. -/
def putPoint (l : List CurvePoint) (a : Nat) (v : Int) : List CurvePoint :=
  l.modify ((a - 0x13) / 2) fun p => if a % 2 = 1 then { p with rate := v } else { p with rpm := v }

/-- A COMBUSTION parameter put at its address. -/
def CombustionTable.put (t : CombustionTable) (a : Nat) (v : Int) : CombustionTable :=
  match a with
  | 0x00 => { t with pnom := v }
  | 0x01 => { t with rmin := v }
  | 0x02 => { t with dhwMax := v }
  | 0x03 => { t with dtMax := v }
  | 0x04 => { t with derateStart := v }
  | 0x05 => { t with prePurge := v }
  | 0x06 => { t with safetyTime := v }
  | 0x07 => { t with stabilise := v }
  | 0x08 => { t with interPurge := v }
  | 0x09 => { t with postPurge := v }
  | 0x0A => { t with attempts := v }
  | 0x0B => { t with provingTimeout := v }
  | 0x0C => { t with fanBand := v }
  | 0x0D => { t with purgeSpeed := v }
  | 0x0E => { t with postPurgeSpeed := v }
  | 0x0F => { t with ignitionRate := v }
  | 0x10 => { t with pullIn := v }
  | 0x11 => { t with holdDuty := v }
  | 0x12 => { t with curveCount := v }
  | _ => { t with points := putPoint t.points a v }

/-- R186, R187: the channels that an output test may force, by their codes. -/
def testChannelOf (w : Word) : Option TestChannel :=
  match w.toNat with
  | 0 => some .fan
  | 1 => some .pump
  | 5 => some .diverter
  | 6 => some .zone1
  | 7 => some .zone2
  | _ => none

/-- R104: a test level and whether it was clamped. DESIGN CHOICE: an energised DIVERTER or ZONE level is held, and read, as 1
whatever non-zero word was written (R186; log entry 72). -/
def testLevelOf (c : TestChannel) (w : Word) : Nat × Bool :=
  match c with
  | .pump => (min 1000 w.toNat, 1000 < w.toNat)
  | .fan =>
    if w = 0 then (0, false)
    else if w.toNat < 600 then (600, true)
    else if 7500 < w.toNat then (7500, true)
    else (w.toNat, false)
  | _ => (if w = 0 then 0 else 1, false)

end Sys2Proof.Machine
end

