-- ==== Sys2Proof/Decode.lean ====
section
/-! DEFINITION. Decoding. No row of spec/opcode_table.json has bits: the commands of this block are events and frames, not
instruction words, so no word spells one. The command words of a port frame (08 §8.3) are decoded by
`Sys2Proof.Machine.takeCommand` in Machine/Operands.lean. -/

namespace Sys2Proof

/-- The command that a word spells by the table's bits: the table gives no row bits, so there is none. -/
def decodeTableWord (_nbits _w : Nat) : Option Instr := none

end Sys2Proof
end

