-- ==== Sys2Proof/Machine/Burner.lean ====
section
/-! DEFINITION. The meanings of the burner sequencer's own events (04_burner_sequence_and_flame_supervision.md). An event that
the sequencer's state does not know has no effect (log entry 3). -/

namespace Sys2Proof.Machine

/-- R76: the first case that applies at the expiry of the PRE-CHECK timer. -/
def State.preCheckExpiry (s : State) : State :=
  if s.mfe.flameOn then s.lockWith .f03
  else if !s.bsq.coilZero.gv1 || !s.bsq.coilZero.gv2 then s.lockWith .f07
  else if 300 ≤ s.mfe.fanSpeed then s.provingFailure .idle
  else s

/-- PRE_CHECK_TIMER_EXPIRY (R76). The timer has run out and is stopped. -/
def execPreCheckTimerExpiry (s : State) : Host.Outcome State Fault Refusal :=
  .next (s.event fun s =>
    if s.bsq.state = .preCheck then
      ({ s with bsq := { s.bsq with timer := none } } : State).preCheckExpiry
    else s)

/-- PRE_PURGE_TIME_REACHED (R78). -/
def execPrePurgeTimeReached (s : State) : Host.Outcome State Fault Refusal :=
  .next (s.event fun s => if s.bsq.state = .prePurge then s.goto .ignitionSpeed else s)

/-- R78, R79, R85: where a fan-proving failure before the gas leads. -/
def State.provingTimeout (s : State) : State :=
  match s.bsq.state with
  | .prePurge => s.provingFailure .idle
  | .ignitionSpeed => s.provingFailure (if s.bsq.gasOpened then .postPurge else .idle)
  | .interPurge => s.provingFailure .postPurge
  | _ => s

/-- FAN_PROVING_TIMEOUT (R78, R79, R81, R85). -/
def execFanProvingTimeout (s : State) : Host.Outcome State Fault Refusal :=
  .next (s.event State.provingTimeout)

/-- IGNITION_SPEED_RUN_REACHED (R79, R82): the flame must be OFF. -/
def execIgnitionSpeedRunReached (s : State) : Host.Outcome State Fault Refusal :=
  .next (s.event fun s =>
    if s.bsq.state = .ignitionSpeed ∧ s.mfe.flameOn = false then s.enterSafetyTime else s)

/-- SAFETY_TIME_EXPIRY (R83, R91). -/
def execSafetyTimeExpiry (s : State) : Host.Outcome State Fault Refusal :=
  .next (s.event fun s => if s.bsq.state = .safetyTime then s.unlessTripped State.failedAttempt else s)

/-- STABILISATION_TIME_EXPIRY (R84, R48). -/
def execStabilisationTimeExpiry (s : State) : Host.Outcome State Fault Refusal :=
  .next (s.event fun s => if s.bsq.state = .stabilise then s.enterRunning else s)

/-- INTER_PURGE_TIME_REACHED (R85). -/
def execInterPurgeTimeReached (s : State) : Host.Outcome State Fault Refusal :=
  .next (s.event fun s => if s.bsq.state = .interPurge then s.goto .ignitionSpeed else s)

/-- OUT_OF_BAND_RUN_TIMEOUT (R80, R81). -/
def execOutOfBandRunTimeout (s : State) : Host.Outcome State Fault Refusal :=
  .next (s.event fun s => if s.bsq.state.gasOpen then s.provingFailure .postPurge else s)

/-- POST_PURGE_TIME_EXPIRY (R87, R74): the next burn begins in the same event where the request is yes. -/
def execPostPurgeTimeExpiry (s : State) : Host.Outcome State Fault Refusal :=
  .next (s.event fun s => if s.bsq.state = .postPurge then s.goto .idle else s)

/-- STRAY_FLAME_TIME_LIMIT (R89). -/
def execStrayFlameTimeLimit (s : State) : Host.Outcome State Fault Refusal :=
  .next (s.event fun s => if s.bsq.state.supervisesStray && s.mfe.flameOn then s.lockWith .f03 else s)

/-- B06_TIMER_EXPIRY (R81): only while the timer runs. -/
def execB06TimerExpiry (s : State) : Host.Outcome State Fault Refusal :=
  .next (s.event fun s =>
    if s.bsq.b06Timer.isSome then ({ s with bsq := { s.bsq with b06Timer := none } } : State).leaveKey .b06 else s)

/-- LOCKOUT_PURGE_END (R95). -/
def execLockoutPurgeEnd (s : State) : Host.Outcome State Fault Refusal :=
  .next (s.event fun s =>
    if s.bsq.state = .lockout then
      ({ s with bsq := { s.bsq with purgeLeft := 0 } } : State).setFanTarget 0
    else s)

/-- LOCKOUT_PURGE_REMAINDER_END (R74). -/
def execLockoutPurgeRemainderEnd (s : State) : Host.Outcome State Fault Refusal :=
  .next (s.event fun s =>
    if s.bsq.state = .idle then
      ({ s with bsq := { s.bsq with purgeLeft := 0 } } : State).setFanTarget 0
    else s)

/-- TRIP_REPORT (R90): the oldest report that the sequencer has not taken. -/
def execTripReport (s : State) : Host.Outcome State Fault Refusal :=
  .next (s.event fun s =>
    match s.bsq.tripReports with
    | [] => s
    | c :: rest => ({ s with bsq := { s.bsq with tripReports := rest } } : State).takeTrip c)

/-- REFUSED_OPEN (R109, R90): the oldest refused open that the sequencer has not taken. -/
def execRefusedOpen (s : State) : Host.Outcome State Fault Refusal :=
  .next (s.event fun s =>
    match s.bsq.refusedOpens with
    | [] => s
    | r :: rest => ({ s with bsq := { s.bsq with refusedOpens := rest } } : State).takeTrip r.causes)

/-- BURNER_MINUTE (R97, R184): counted in STABILISE and RUNNING. -/
def execBurnerMinute (s : State) : Host.Outcome State Fault Refusal :=
  .next (s.event fun s =>
    if s.bsq.state = .stabilise ∨ s.bsq.state = .running then
      { s with
        bsq := { s.bsq with burnerPart := 0 }
        sto := { s.sto with counters :=
          { s.sto.counters with burnerMinutes := min 4294967295 (s.sto.counters.burnerMinutes + 1) } } }
    else s)

end Sys2Proof.Machine
end

