-- ==== Sys2Proof/Machine/Demands.lean ====
section
/-! DEFINITION. The timers of the demand table and arbiter and of the firing-rate engine: the meanings of their expiries
(02_heat_demands_and_the_burner_arbiter.md, 03_firing_rate_computation.md). A timer that does not run has no expiry: the
command then has no effect (log entry 3). -/

namespace Sys2Proof.Machine

/-- R44, R46: the move ends in the resting state, and a homing move clears its flag. -/
def Dta.endMove (d : Dta) : Dta :=
  match d.divState with
  | .movingToDhw => { d with divState := .atDhw, divLeft := 0, homing := false }
  | .movingToCh => { d with divState := .atCh, divLeft := 0, homing := false }
  | _ => d

/-- ANTI_CYCLE_TIMER_EXPIRY (R38, R36). -/
def execAntiCycleTimerExpiry (s : State) : Host.Outcome State Fault Refusal :=
  .next (s.event fun s => { s with dta := { s.dta with antiCycle := none } })

/-- SERVICE_ENTRY_EXPIRY (R26): the entry is removed; an entry without an expiry stays. DESIGN CHOICE: the command is not
compared with the clock, so an expiry that lies ahead is taken at its word (log entry 52). -/
def execServiceEntryExpiry (s : State) : Host.Outcome State Fault Refusal :=
  .next (s.event fun s =>
    if s.dta.table.service.any (fun e => e.expiry.isSome) then { s with dta := s.dta.put .service none } else s)

/-- KEEPWARM_SPACING_TIMER_EXPIRY (R30): the detector checks its conditions again as the event ends. -/
def execKeepwarmSpacingTimerExpiry (s : State) : Host.Outcome State Fault Refusal :=
  .next (s.event fun s => { s with dta := { s.dta with spacing := none } })

/-- KEEPWARM_BURN_TIME_LIMIT (R31). -/
def execKeepwarmBurnTimeLimit (s : State) : Host.Outcome State Fault Refusal :=
  .next (s.event fun s => if s.dta.table.keepwarm.isSome then { s with dta := s.dta.endKeepwarm } else s)

/-- PUMP_OVERRUN_TIMER_EXPIRY (R42, R41). -/
def execPumpOverrunTimerExpiry (s : State) : Host.Outcome State Fault Refusal :=
  .next (s.event fun s => { s with dta := { s.dta with overrun := none } })

/-- DIVERTER_MOVE_END (R44, R46). A pending move to DHW begins in the re-evaluation. -/
def execDiverterMoveEnd (s : State) : Host.Outcome State Fault Refusal :=
  .next (s.event fun s => { s with dta := s.dta.endMove })

/-- R55, R63: what the CH interval timer's expiry computes for the served mode. -/
def State.intervalCompute (s : State) : State :=
  match s.fre.served with
  | .ch => s.chCompute
  | .service => s.serviceForm
  | _ => s

/-- CH_COMPUTATION (R55, R56, R63): only while the interval timer runs; the timer is restarted. -/
def execChComputation (s : State) : Host.Outcome State Fault Refusal :=
  .next (s.event fun s =>
    if s.fre.chTimer.isSome then
      ({ s with fre := { s.fre with chTimer := some Config.chIntervalMs } } : State).intervalCompute
    else s)

end Sys2Proof.Machine
end

