-- ==== Sys2Proof/Machine/Measurement.lean ====
section
/-! DEFINITION. The measurement front end: NTC channels, the checks over them, water pressure, the flame state and the pulse
inputs, and the meanings of its commands (01_measurement_front_end.md). -/

namespace Sys2Proof.Machine

/-! ### NTC channels (R1 to R3) -/

/-- A window of at most `n` readings with a new one appended; the oldest is dropped first. -/
def pushWindow (n : Nat) (w : List α) (x : α) : List α := if n ≤ w.length then w.drop (w.length + 1 - n) ++ [x] else w ++ [x]

/-- The sum of a list of readings. -/
def sumInt (l : List Int) : Int := l.foldl (· + ·) 0

/-- R2: the value of a full window. -/
def windowValue (w : List Int) (offset : Int) : Int := clampInt (-300) 1300 (divz (sumInt w) 8 + offset)

/-- R1: the classification of a reading; `none` is good. -/
def badReading (r : Int) : Option BadKind := if r < -350 then some .low else if 1400 < r then some .high else none

/-- The status that a bad run of a kind leads to (R3). -/
def badStatus : BadKind → NtcStatus
  | .low => .openCircuit
  | .high => .shortCircuit

/-- R1 to R3: a good conversion. -/
def NtcRecord.good (r : NtcRecord) (x offset : Int) : NtcRecord :=
  let w := pushWindow 8 r.window x
  let r := { r with window := w, age := 0, badRun := 0 }
  if w.length = 8 then { r with value := some (windowValue w offset), status := .ok } else r

/-- R3: OPEN or SHORT: the window is emptied and the value becomes absent. -/
def NtcRecord.fail (r : NtcRecord) (kind : BadKind) : NtcRecord :=
  { r with window := [], value := none, status := badStatus kind, badKind := kind, badRun := 3 }

/-- R1: the length of the bad run after one more bad conversion. -/
def NtcRecord.nextRun (r : NtcRecord) (kind : BadKind) : Nat :=
  if r.badKind = kind ∧ 0 < r.badRun then min 3 (r.badRun + 1) else 1

/-- R1, R3: a bad conversion. -/
def NtcRecord.bad (r : NtcRecord) (kind : BadKind) : NtcRecord :=
  if r.nextRun kind = 3 then r.fail kind
  else
    { r with
      badKind := kind
      badRun := r.nextRun kind
      window := if r.status = .ok then r.window else [] }

/-- R1: one conversion. -/
def NtcRecord.convert (r : NtcRecord) (x offset : Int) : NtcRecord :=
  match badReading x with
  | none => r.good x offset
  | some kind => r.bad kind

/-- R1: all channels are converted in one cycle; OUTDOOR only while it is fitted. -/
def convertAll (n : NtcSet NtcRecord) (x offsets : NtcSet Int) (outdoorFitted : Bool) : NtcSet NtcRecord where
  flowA := n.flowA.convert x.flowA offsets.flowA
  flowB := n.flowB.convert x.flowB offsets.flowB
  ret := n.ret.convert x.ret offsets.ret
  dhwOut := n.dhwOut.convert x.dhwOut offsets.dhwOut
  dhwIn := n.dhwIn.convert x.dhwIn offsets.dhwIn
  flue := n.flue.convert x.flue offsets.flue
  outdoor := if outdoorFitted then n.outdoor.convert x.outdoor offsets.outdoor else n.outdoor

/-- R7, R121: the sensor faults follow the faulty conditions, in channel order, each change handed on in turn. -/
def State.judgeSensors (s : State) : State :=
  let n := s.mfe.ntc
  let s := s.inTurn (·.follow .b03 (n.flowA.faulty || n.flowB.faulty))
  let s := s.inTurn (·.follow .b04 n.ret.faulty)
  let s := s.inTurn (·.follow .b11 n.dhwOut.faulty)
  let s := s.inTurn (·.follow .a06 n.dhwIn.faulty)
  let s := s.inTurn (·.follow .b10 n.flue.faulty)
  s.inTurn (·.follow .a01 n.outdoor.faulty)

/-! ### The checks over the channels (R9 to R12)

DESIGN CHOICE: each check goes by whether its values are present, as R9 to R12 have it; a value that is held while its channel is
faulty by age alone (R4) is judged like any other (log entry 50). -/

/-- R9: whether the pair disagrees; absent when either value is. -/
def Mfe.pairApart (m : Mfe) : Option Bool :=
  match m.ntc.flowA.value, m.ntc.flowB.value with
  | some a, some b => some (60 < (a - b).natAbs)
  | _, _ => none

/-- R9: the count reaches 100: F05 is raised, the count is set to 0 and the check is disarmed. -/
def State.pairExpiry (s : State) : State :=
  ({ s with mfe := { s.mfe with pairCount := 0, pairArmed := false } } : State).raiseForeign .f05

/-- R9: the flow pair check of one cycle. -/
def State.judgePair (s : State) : State :=
  match s.mfe.pairApart with
  | none => { s with mfe := { s.mfe with pairCount := 0 } }
  | some false => { s with mfe := { s.mfe with pairCount := 0, pairArmed := true } }
  | some true =>
    if s.mfe.pairArmed then
      if 100 ≤ s.mfe.pairCount + 1 then s.pairExpiry
      else { s with mfe := { s.mfe with pairCount := s.mfe.pairCount + 1 } }
    else s

/-- R10: flow over-temperature. -/
def State.judgeOverTemperature (s : State) : State :=
  match s.flow with
  | none => s
  | some f => s.hysteresis .b05 (950 ≤ f) (f ≤ 850)

/-- R11: the count reaches 300: b09 is raised and the 120 s timer is started. -/
def State.circulationExpiry (s : State) : State :=
  ({ s with mfe := { s.mfe with circCount := 0, circTimer := some Config.b09Ms } } : State).enterKey .b09

/-- R11: the no-circulation check of one cycle. -/
def State.judgeCirculation (s : State) : State :=
  match s.mfe.circTimer with
  | some _ => s
  | none =>
    let high : Bool := match s.deltaT with
      | some d => s.sto.table.dtMax + 100 ≤ d
      | none => false
    if high then
      if 300 ≤ s.mfe.circCount + 1 then s.circulationExpiry
      else { s with mfe := { s.mfe with circCount := s.mfe.circCount + 1 } }
    else { s with mfe := { s.mfe with circCount := 0 } }

/-- R12: flue overheat. -/
def State.judgeFlue (s : State) : State :=
  match s.flue with
  | none => s
  | some f =>
    if 1100 ≤ f ∧ s.mfe.flueArmed then
      ({ s with mfe := { s.mfe with flueArmed := false } } : State).raiseForeign .f06
    else if f ≤ 1000 then { s with mfe := { s.mfe with flueArmed := true } }
    else s

/-- R9, R12, R126: the locking conditions that the temperatures report. -/
def State.reportTemperatures (s : State) : State :=
  { s with flt := { s.flt with conditions := { s.flt.conditions with
      flowPair := s.mfe.pairApart == some true
      flue := match s.flue with
        | some f => 1100 ≤ f
        | none => false } } }

/-- R29, R43: the frost detector and the frost pump stage of the demand table and arbiter, at a flow value. -/
def Dta.judgeFrost (d : Dta) (flow : Int) : Dta :=
  { d with
    table := { d.table with frost :=
      if d.table.frost.isNone then (if flow ≤ 50 then some (Entry.plain true) else none)
      else if 150 ≤ flow then none else d.table.frost }
    frostStage := if flow < 80 then true else if 100 ≤ flow then false else d.frostStage }

def State.judgeFrost (s : State) : State :=
  match s.flow with
  | none => s
  | some f => { s with dta := s.dta.judgeFrost f }

/-! ### Water pressure (R13, R14) -/

/-- R13: b02 is raised, the window is emptied and the value becomes absent. -/
def State.pressureFails (s : State) : State :=
  ({ s with mfe := { s.mfe with pressWindow := [], pressValue := none } } : State).enterKey .b02

/-- R13: while the age is over 1,000 ms, b02 is raised, the window is emptied and the value is absent. -/
def State.judgePressureAge (s : State) : State := if 1000 < s.mfe.pressAge then s.pressureFails else s

/-- R13: the pressure of an in-band reading. -/
def pressureOf (mv : Nat) (offset : Int) : Int := clampInt 0 400 (divz ((mv : Int) - 500) 10 + offset)

/-- R14: the pressure faults are judged on a recomputed value. -/
def State.judgePressure (s : State) (p : Int) : State :=
  let s := s.hysteresis .b01 (p < 60) (80 ≤ p)
  let s := s.hysteresis .a04 (p < 90) (100 ≤ p)
  s.hysteresis .a05 (280 < p) (p ≤ 260)

/-- R13: an in-band reading. -/
def State.pressureGood (s : State) (mv : Nat) : State :=
  let w := pushWindow 4 s.mfe.pressWindow (pressureOf mv s.sto.trim.pressOffset)
  let s := { s with mfe := { s.mfe with pressWindow := w, pressAge := 0, pressBadRun := 0 } }
  if w.length = 4 then
    let p := divz (sumInt w) 4
    let s := { s with mfe := { s.mfe with pressValue := some p } }
    (s.inTurn (·.leaveKey .b02)).judgePressure p
  else s

/-- R13: an out-of-band reading. -/
def State.pressureBad (s : State) : State :=
  let s := { s with mfe := { s.mfe with pressBadRun := min 3 (s.mfe.pressBadRun + 1) } }
  if s.mfe.pressBadRun = 3 then s.pressureFails
  else if s.isActive .b02 then { s with mfe := { s.mfe with pressWindow := [] } }
  else s

/-! ### The flame (R15 to R17) -/

/-- R15: the sample. -/
def ionSampleOf (current : Nat) (gain : Int) : Nat := clampNat 0 500 (divz ((current : Int) * gain) 1000).toNat

/-- R17: a block mean is judged. -/
def State.judgeBlock (s : State) (sum : Nat) : State :=
  s.hysteresis .a03 (sum / 1200 < 20) (25 ≤ sum / 1200)

/-- R17: a complete block. -/
def State.endBlock (s : State) (sum : Nat) : State :=
  ({ s with mfe := { s.mfe with blockSum := 0, blockCount := 0 } } : State).judgeBlock sum

/-- R17: a sample taken in RUNNING. -/
def State.addToBlock (s : State) (sample : Nat) : State :=
  if s.bsq.state = .running then
    if 1200 ≤ s.mfe.blockCount + 1 then s.endBlock (s.mfe.blockSum + sample)
    else { s with mfe := { s.mfe with blockSum := s.mfe.blockSum + sample, blockCount := s.mfe.blockCount + 1 } }
  else s

/-- R16, R126: the flame state with its locking condition. A flame that goes OFF sets the stray-flame time to 0 (R89). -/
def State.setFlame (s : State) (on : Bool) : State :=
  { s with
    mfe := { s.mfe with flameOn := on, provingRun := 0, lossRun := 0 }
    flt := { s.flt with conditions := { s.flt.conditions with flame := on } }
    bsq := { s.bsq with strayTime := if on then s.bsq.strayTime else 0 } }

/-- R16, R82: the flame is proved. -/
def State.flameProved (s : State) : State := (s.setFlame true).takeFlameProved

/-- R16, R86: the flame is lost. -/
def State.flameLost (s : State) : State := (s.setFlame false).takeFlameLost

/-- R16: the runs of the flame state. -/
def State.judgeFlame (s : State) (sample : Nat) : State :=
  if s.mfe.flameOn then
    if sample < 6 then
      if 2 ≤ s.mfe.lossRun + 1 then s.flameLost
      else { s with mfe := { s.mfe with lossRun := s.mfe.lossRun + 1 } }
    else { s with mfe := { s.mfe with lossRun := 0 } }
  else
    if 10 ≤ sample then
      if 3 ≤ s.mfe.provingRun + 1 then s.flameProved
      else { s with mfe := { s.mfe with provingRun := s.mfe.provingRun + 1 } }
    else { s with mfe := { s.mfe with provingRun := 0 } }

/-! ### Pulse inputs (R18 to R21) -/

/-- R18: pulses: a sample that reads high after one that read low. -/
def risingEdges : Bool → List Bool → Nat
  | _, [] => 0
  | last, x :: rest => (if x && !last then 1 else 0) + risingEdges x rest

/-- R18: an over-range gate. -/
def overRange (count : Nat) : Bool := 275 ≤ count

/-- R18: the gate ends: the counts of the two inputs are taken and the counters are set to 0. -/
def Mfe.turbineCount (m : Mfe) (samples : List Bool) : Nat := m.turbineCounter + risingEdges m.turbineLast samples
def Mfe.tachoCount (m : Mfe) (samples : List Bool) : Nat := m.tachoCounter + risingEdges m.tachoLast samples

/-- R19: the four counts after a gate. -/
def Mfe.nextGates (m : Mfe) (count : Nat) : List Nat :=
  if overRange count then m.turbineGates else pushWindow 4 m.turbineGates count

/-- R19: tap flow. -/
def tapFlowOf (gates : List Nat) (k : Int) : Nat := clampNat 0 2500 (divz ((gates.sum : Int) * 6000) k).toNat

/-- R18 to R20: the values at the end of a gate. -/
def Mfe.endGate (m : Mfe) (turbine tacho : List Bool) (k : Int) : Mfe :=
  let nt := m.turbineCount turbine
  let nf := m.tachoCount tacho
  { m with
    turbineLast := turbine.getLast?.getD m.turbineLast
    tachoLast := tacho.getLast?.getD m.tachoLast
    turbineCounter := 0
    tachoCounter := 0
    turbineGates := m.nextGates nt
    tapFlow := if overRange nt then m.tapFlow else tapFlowOf (m.nextGates nt) k
    fanSpeed := if overRange nf then m.fanSpeed else nf * 120 }

/-- R21: the count reaches 40: A08 is cleared. -/
def State.endA08 (s : State) : State :=
  ({ s with mfe := { s.mfe with goodGates := 40 } } : State).leaveKey .a08

/-- R21: A08 at the end of a gate. The count stops at 40. -/
def State.judgeA08 (s : State) (wild : Bool) : State :=
  if wild then ({ s with mfe := { s.mfe with goodGates := 0 } } : State).enterKey .a08
  else if 40 ≤ s.mfe.goodGates + 1 then s.endA08
  else { s with mfe := { s.mfe with goodGates := s.mfe.goodGates + 1 } }

/-- R28: the tap detector at a gate. -/
def State.judgeTap (s : State) : State :=
  if s.tapEnabled then
    { s with dta :=
        if s.dta.asks .tap then
          if s.mfe.tapFlow < 150 then
            if 4 ≤ s.dta.stopRun + 1 then s.dta.setTap false else { s.dta with stopRun := s.dta.stopRun + 1 }
          else { s.dta with stopRun := 0 }
        else
          if 200 ≤ s.mfe.tapFlow then
            if 2 ≤ s.dta.startRun + 1 then s.dta.setTap true else { s.dta with startRun := s.dta.startRun + 1 }
          else { s.dta with startRun := 0 } }
  else s

/-- R57: whether the DHW controller is at work. -/
def State.servesDhw (s : State) : Bool := s.bsq.state == .running && s.fre.served == .dhw

/-- R77: the band judgement at a gate end. -/
def State.judgeFan (s : State) : State := { s with bsq := s.bsq.judgeBand s.mfe.fanSpeed s.sto.table.fanBand }

/-! ### Meanings -/

/-- R7, R9 to R12, R121: the checks of one cycle, in the order of their rules, each change of the active fault set handed on in
turn. DESIGN CHOICE: the spec does not order the keys that one cycle raises (log entry 51). -/
def State.judgeCycle (s : State) : State :=
  let s := s.judgeSensors.inTurn State.judgePair
  let s := (s.inTurn State.judgeOverTemperature).inTurn State.judgeCirculation
  s.inTurn State.judgeFlue

/-- NTC_CONVERSION_CYCLE (R1, R6, R7, R9 to R12, R29, R39, R43, R60, R61). DESIGN CHOICE: a lockout that the cycle's checks
begin is taken before its frost detector creates FROST, and before its falling outlet creates KEEPWARM (R30), so a running
output test ends with LOCKOUT (R189; log entry 73). -/
def execNtcConversionCycle (readings : NtcSet Int) (polOut : Nat) (s : State) : Host.Outcome State Fault Refusal :=
  .next (s.event fun s =>
    let fitted := s.sto.settings.outdoorFitted
    let s := { s with mfe := { s.mfe with
      ntc := convertAll s.mfe.ntc readings s.sto.trim.offsets fitted
      strapHigh := if fitted then s.mfe.strapHigh else 500 < polOut } }
    s.judgeCycle.reportTemperatures.judgeFrost.judgePause)

/-- CHANNEL_OPEN_OR_SHORT (R3, R7), with the report of the locking conditions, for which an absent value counts as no condition
(R9, R12). A channel that is not fitted is not converted. -/
def execChannelOpenOrShort (ch : NtcChannel) (kind : BadKind) (s : State) : Host.Outcome State Fault Refusal :=
  .next (s.event fun s =>
    if (ntcGet s.mfe.ntc ch).status = .notFitted then s
    else
      let s := { s with mfe := { s.mfe with ntc := ntcPut s.mfe.ntc ch ((ntcGet s.mfe.ntc ch).fail kind) } }
      s.judgeSensors.reportTemperatures)

/-- FLOW_PAIR_COUNT_EXPIRY (R9): only an armed check counts. -/
def execFlowPairCountExpiry (s : State) : Host.Outcome State Fault Refusal :=
  .next (s.event fun s => if s.mfe.pairArmed then s.pairExpiry else s)

/-- NO_CIRCULATION_COUNT_EXPIRY (R11): only in WATCHING. -/
def execNoCirculationCountExpiry (s : State) : Host.Outcome State Fault Refusal :=
  .next (s.event fun s => if s.mfe.circTimer.isNone then s.circulationExpiry else s)

/-- B09_TIMER_EXPIRY (R11): only while the timer runs. -/
def execB09TimerExpiry (s : State) : Host.Outcome State Fault Refusal :=
  .next (s.event fun s =>
    if s.mfe.circTimer.isSome then
      ({ s with mfe := { s.mfe with circTimer := none, circCount := 0 } } : State).leaveKey .b09
    else s)

/-- PRESSURE_READING (R13, R14). -/
def execPressureReading (mv : Nat) (s : State) : Host.Outcome State Fault Refusal :=
  .next (s.event fun s =>
    let s := s.judgePressureAge
    if 300 ≤ mv ∧ mv ≤ 4700 then s.pressureGood mv else s.pressureBad)

/-- IONISATION_SAMPLE (R15 to R17). DESIGN CHOICE: a sample taken in RUNNING joins its block, and a block that it completes is
judged, before the sample is judged for the flame, whose loss leaves RUNNING and sets the block to 0 (log entry 74). -/
def execIonisationSample (current : Nat) (s : State) : Host.Outcome State Fault Refusal :=
  .next (s.event fun s =>
    let sample := ionSampleOf current s.sto.trim.gain
    let s := { s with mfe := { s.mfe with ionSample := sample } }
    (s.addToBlock sample).judgeFlame sample)

/-- FLAME_PROVED (R16, R82): only while the flame state is OFF. -/
def execFlameProved (s : State) : Host.Outcome State Fault Refusal :=
  .next (s.event fun s => if s.mfe.flameOn then s else s.flameProved)

/-- FLAME_LOST (R16, R79, R83, R86, R91): only while the flame state is ON. -/
def execFlameLost (s : State) : Host.Outcome State Fault Refusal :=
  .next (s.event fun s => if s.mfe.flameOn then s.flameLost else s)

/-- WEAK_FLAME_BLOCK_END (R17): the block that has been gathered is judged as one of 1,200 samples. -/
def execWeakFlameBlockEnd (s : State) : Host.Outcome State Fault Refusal :=
  .next (s.event fun s => if s.bsq.state = .running ∧ 0 < s.mfe.blockCount then s.endBlock s.mfe.blockSum else s)

/-- PULSE_GATE_END (R18 to R21, R28, R57, R77). A DHW computation is made only where DHW was served as the gate ended and
still is once the tap detector's change has been taken. -/
def execPulseGateEnd (turbine tacho : List Bool) (s : State) : Host.Outcome State Fault Refusal :=
  .next (s.event fun s =>
    let wild := overRange (s.mfe.turbineCount turbine) || overRange (s.mfe.tachoCount tacho)
    let served := s.servesDhw
    let s := { s with mfe := s.mfe.endGate turbine tacho s.sto.trim.turbineK }
    let s := (s.judgeA08 wild).judgeTap.settle
    let s := if served && s.servesDhw then s.dhwCompute else s
    s.judgeFan)

/-- A08_GOOD_GATE_COUNT (R21): only while A08 is raised. -/
def execA08GoodGateCount (s : State) : Host.Outcome State Fault Refusal :=
  .next (s.event fun s => if s.isActive .a08 then s.endA08 else s)

/-- TAP_START (R28): an enabled detector that does not request. -/
def execTapStart (s : State) : Host.Outcome State Fault Refusal :=
  .next (s.event fun s => if s.tapEnabled && !s.dta.asks .tap then { s with dta := s.dta.setTap true } else s)

/-- TAP_STOP (R28): a detector that requests. -/
def execTapStop (s : State) : Host.Outcome State Fault Refusal :=
  .next (s.event fun s => if s.dta.asks .tap then { s with dta := s.dta.setTap false } else s)

end Sys2Proof.Machine
end

