-- ==== Sys2Proof/Machine/Outputs.lean ====
section
/-! DEFINITION. The meanings of the output channel unit's events: trip lines, period starts, the pull-in, coil checks, and the
two control loops (05_output_channels.md). -/

namespace Sys2Proof.Machine

/-! ### Trip lines (R105 to R110) -/

/-- R105: a change of level acts when it lasts at least 20 µs. -/
def lineSettles (lasted : Nat) : Bool := 20 ≤ lasted

/-- R110: the fault of a trip line. -/
def lineKey : TripLine → Option FaultKey
  | .limit => none
  | .cond => some .b07
  | .ext => some .b08

/-- R105, R110: the recorded state of a line is handed to the fault unit: LIMIT as a locking condition, COND and EXT as
their blocking fault. -/
def State.reportLine (s : State) (l : TripLine) (active : Bool) : State :=
  match lineKey l with
  | none => { s with flt := { s.flt with conditions := { s.flt.conditions with limit := active } } }
  | some k => s.follow k active

/-- R75, R106, R108: the cancelled re-arms of these channels are reported refused, with the cause sets and the lines as they
stand after the trip; in PRE-CHECK that takes the sequencer to IDLE. -/
def State.takeRefusal (s : State) (cancelled : List Channel) : State :=
  if cancelled.isEmpty then s
  else
    let s := { s with bsq := { s.bsq with rearmRefusals := cancelled.map s.ocu.refusal } }
    if s.bsq.state = .preCheck then s.goto .idle else s

/-- R106: the line goes active: the channels are tripped, one trip report is sent, and the fault is raised. -/
def State.lineActive (s : State) (l : TripLine) : State :=
  let o := s.ocu.tripAll l
  let t := { s with ocu := o, bsq := { s.bsq with tripReports := s.bsq.tripReports ++ [o.causes] } }
  (t.takeRefusal s.ocu.rearming).reportLine l true

/-- TRIP_LINE_ACTIVE (R105, R106, R108, R110). -/
def execTripLineActive (line : TripLine) (lowFor : Nat) (s : State) : Host.Outcome State Fault Refusal :=
  .next (s.event fun s => if lineSettles lowFor && !s.ocu.lines.get line then s.lineActive line else s)

/-- TRIP_LINE_INACTIVE (R105, R107, R110). -/
def execTripLineInactive (line : TripLine) (highFor : Nat) (s : State) : Host.Outcome State Fault Refusal :=
  .next (s.event fun s =>
    if lineSettles highFor && s.ocu.lines.get line then
      ({ s with ocu := { s.ocu with lines := s.ocu.lines.set line false } } : State).reportLine line false
    else s)

/-! ### Period starts (R99, R108) -/

/-- R108: a re-arm that completes is reported done. -/
def Bsq.takeRearm (b : Bsq) : Channel → Bsq
  | .spark => { b with sparkRearmed := true }
  | .gv1 => { b with valveRearmed := { b.valveRearmed with gv1 := true } }
  | .gv2 => { b with valveRearmed := { b.valveRearmed with gv2 := true } }
  | _ => b

/-- CHANNEL_PERIOD_START (R99 to R102, R108). A STEADY channel has no period. -/
def execChannelPeriodStart (ch : Channel) (s : State) : Host.Outcome State Fault Refusal :=
  .next (s.event fun s =>
    if channelPeriod ch = 0 then s
    else
      let r := s.ocu.get ch
      { s with
        ocu := s.ocu.set ch (r.completeRearm.loadPeriod ch s.sto.settings.pumpInverted)
        bsq := if r.rearmPending then s.bsq.takeRearm ch else s.bsq
        clock := { s.clock with periodDue := s.clock.periodDue.filter fun x => x != ch } })

/-- PULL_IN_END (R102). -/
def execPullInEnd (valve : GasValve) (s : State) : Host.Outcome State Fault Refusal :=
  .next (s.event fun s => { s with ocu := s.ocu.endPullIn valve })

/-! ### Coil checks (R116 to R118) -/

/-- The current of a reading, 0 to 1,000 mA (R116). -/
def coilReading (mA : Nat) : Nat := min 1000 mA

/-- A check of a coil, with the report of this kind that it may give. -/
def State.checkCoil (s : State) (v : GasValve) (mA : Nat) (right : Bool) (kind : CoilFaultKind) : State :=
  let c := s.ocu.coils.get v
  let t := { s with ocu := { s.ocu with coils := s.ocu.coils.set v (c.check mA right) } }
  if c.reports right then t.coilFault ⟨v, kind⟩ else t

/-- COIL_CHECK_HOLD (R117): a channel that is ACTIVE in phase HOLD. -/
def execCoilCheckHold (valve : GasValve) (current : Nat) (s : State) : Host.Outcome State Fault Refusal :=
  .next (s.event fun s =>
    let r := s.ocu.get (valveChannel valve)
    if r.state = .active ∧ r.phase = some .hold then
      let c := coilClass (coilReading current)
      s.checkCoil valve (coilReading current) (c == .holdBand) c.heldKind
    else s)

/-- COIL_CHECK_IDLE (R116, R118): a channel that is IDLE or TRIPPED; the sequencer is handed whether the coil is zero. -/
def execCoilCheckIdle (valve : GasValve) (current : Nat) (s : State) : Host.Outcome State Fault Refusal :=
  .next (s.event fun s =>
    let r := s.ocu.get (valveChannel valve)
    if r.state = .idle ∨ r.state = .tripped then
      let zero := coilClass (coilReading current) == .zero
      ({ s with bsq := { s.bsq with coilZero := s.bsq.coilZero.set valve zero } } : State).checkCoil
        valve (coilReading current) zero .live
    else s)

/-! ### The loops (R111, R114) -/

/-- FAN_LOOP_STEP (R111). -/
def execFanLoopStep (s : State) : Host.Outcome State Fault Refusal :=
  .next (s.event fun s =>
    { s with
      ocu := { s.ocu with fan := s.ocu.fan.stepFan s.ocu.fanInForce s.mfe.fanSpeed }
      clock := { s.clock with fanStepDue := false } })

/-- PUMP_DT_STEP_TIMER_EXPIRY (R114): only while the timer runs. -/
def execPumpDtStepTimerExpiry (s : State) : Host.Outcome State Fault Refusal :=
  .next (s.event fun s =>
    if s.ocu.dtTimer.isSome then
      { s with ocu :=
          { s.ocu with
            pump := { s.ocu.pump with duty := stepPump s.ocu.pump.duty s.sto.settings.pumpDtTarget s.deltaT }
            dtTimer := some Config.dtStepMs } }
    else s)

/-! ### The output test (R189) -/

/-- OUTPUT_TEST_TIMER_EXPIRY (R189). -/
def execOutputTestTimerExpiry (s : State) : Host.Outcome State Fault Refusal :=
  .next (s.event fun s => s.endTest .expired)

end Sys2Proof.Machine
end

