-- ==== Sys2Proof/Machine/Ports.lean ====
section
/-! DEFINITION. The port unit: what each written word does, commands, frames, the commit, heartbeat supervision and the soft
reset request (08_control_and_service_ports.md; 10 §10.2). -/

namespace Sys2Proof.Machine

/-! ### Port records -/

def Prt.setPort (p : Prt) (port : Port) (r : PortRecord) : Prt :=
  match port with
  | .control => { p with control := r }
  | .service => { p with service := r }

def State.setPort (s : State) (port : Port) (r : PortRecord) : State := { s with prt := s.prt.setPort port r }

/-- The frame of a port changed. -/
def State.onFrame (s : State) (port : Port) (f : Frame → Frame) : State :=
  let r := s.prt.portRecord port
  s.setPort port { r with frame := f r.frame }

/-- The counters of a port changed. -/
def State.onCounters (s : State) (port : Port) (f : PortCounters → PortCounters) : State :=
  let r := s.prt.portRecord port
  s.setPort port { r with counters := f r.counters }

/-- R161: the access pointer of a port for a space. -/
def PortRecord.pointer (r : PortRecord) (space : BitVec 3) : Nat := (r.pointers.getD space.toNat 0).toNat

def State.setPointer (s : State) (port : Port) (space : BitVec 3) (a : Nat) : State :=
  let r := s.prt.portRecord port
  s.setPort port { r with pointers := r.pointers.set space.toNat (BitVec.ofNat 16 a) }

/-! ### Written words: the blocks that own them -/

/-- What the write of a word answers: the state, the word's status and the outcome bytes it puts in the reply. -/
structure Written where
  state : State
  status : Status
  outcomes : List Byte

/-- A word that is refused and changes nothing. -/
def refuse (s : State) (x : Status) : Written := ⟨s, x, []⟩

/-- A word that is taken. -/
def taken (s : State) (clamped : Bool) : Written := ⟨s, if clamped then .clamped else .ok, []⟩

/-! #### SETTINGS (R179, R163) -/

/-- R5: a change of "outdoor sensor fitted". -/
def State.takeOutdoor (s : State) (was : Bool) : State :=
  let fitted := s.sto.settings.outdoorFitted
  if fitted = was then s
  else
    let s := { s with mfe := { s.mfe with ntc := { s.mfe.ntc with outdoor := outdoorRecord fitted } } }
    if fitted then s else s.leaveKey .a01

/-- R150: the setting of a slot is handed to the room loop controller. -/
def State.takeSlot (s : State) : Option RoomSlot → State
  | none => s
  | some n => s.takeSlotSetting n (s.sto.settings.slots.get n)

/-- R179: a taken setting: the settings block is marked dirty, A09 is cleared, and every block that uses it acts. -/
def State.takeSetting (s : State) (a : Nat) (new : Settings) : State :=
  let was := s.sto.settings.outdoorFitted
  let s := ({ s with sto := { s.sto with settings := new } } : State).markDirty .settings
  let s := (s.leaveKey .a09).takeOutdoor was
  let s := (s.takeSlot (slotOfSetting a)).settle
  if a = 0x00 then s.judgePause.settle else s

def State.writeSetting (s : State) (a : Nat) (w : Word) : Written :=
  match s.sto.settings.put a w with
  | none => refuse s .denied
  | some x => taken (s.takeSetting a x.1) x.2

/-! #### COMBUSTION (R166) -/

/-- Whether a port is processing a frame (R157, R159). -/
def Prt.processing (p : Prt) : Port → Bool
  | .control => p.replyState == .processing
  | .service => p.serviceState == .processing

/-- R166: the staged copy of the frame in process is `t`; outside a frame there is none. -/
def Prt.stage (p : Prt) (t : CombustionTable) : Prt := { p with staged := if p.processing .service then some t else none }

/-- R166: the staged copy is created as a copy of the table in use. -/
def State.stage (s : State) : State := { s with prt := s.prt.stage (s.prt.staged.getD s.sto.table) }

/-- R166: a parameter word under unlock. -/
def State.stageWord (s : State) (a : Nat) (w : Word) : Written :=
  if a = 0x30 then
    if w = 1 then taken { s with prt := s.prt.stage s.sto.trim.factory } false else refuse s .value
  else match combustionRange a with
    | none => refuse s .denied
    | some r =>
      if within r.1 r.2 (unsigned w) then
        taken { s with prt := { s.prt with staged := s.prt.staged.map fun t => t.put a (unsigned w) } } false
      else refuse s .value

/-- R166, R167: a combustion word; the frame keeps what the commit asks about. DESIGN CHOICE: a word at an unused address,
which is DENIED under unlock, is a combustion write too, and stages the table in use (log entry 70). -/
def State.writeCombustion (s : State) (a : Nat) (w : Word) : Written :=
  let s := s.onFrame .service fun f => { f with combustionWrite := true }
  if s.prt.service.frame.unlock then
    let x := s.stage.stageWord a w
    if x.status = .value then
      { x with state := x.state.onFrame .service fun f => { f with valueRefused := true } }
    else x
  else refuse s .noUnlock

/-! #### FAULTS (R165, R135) -/

/-- The source word of a port. -/
def portSource : Port → ResetSource
  | .control => .control
  | .service => .service

def State.writeFaults (s : State) (port : Port) (a : Nat) : Written :=
  if a = 0x30 then
    let x := s.requestReset (portSource port)
    ⟨x.1.settle, .ok, [x.2.code]⟩
  else if a = 0x31 ∧ port = .service then taken s.clearHistory.settle false
  else refuse s .denied

/-! #### PORT: heartbeat, flag, unlock, soft reset, counters, trim (R168, R169, R166, R173, R172, R182) -/

/-- R168: a heartbeat with this timeout in s. -/
def State.takeHeartbeat (s : State) (timeout : Nat) : State :=
  let running := s.prt.heartbeat.isSome
  let s := { s with prt := { s.prt with heartbeat := some (timeout * 1000), timeout := timeout } }
  if running then s else s.leaveKey .a07

def State.writeHeartbeat (s : State) (w : Word) : Written :=
  if (w.extractLsb' 8 8).toNat = 0x5A then
    let t := (w.extractLsb' 0 8).toNat
    taken (s.takeHeartbeat (clampNat 2 60 t)).settle (clampNat 2 60 t != t)
  else refuse s .value

/-- R169: a write to the board-expired flag. -/
def State.writeFlag (s : State) (w : Word) : Written :=
  if w ≠ 0 then refuse s .value
  else if s.prt.expiredNote then taken { s with prt := { s.prt with expiredFlag := false, expiredNote := false } } false
  else refuse s .denied

/-- R166: a write to the unlock word. -/
def State.writeUnlock (s : State) (w : Word) : Written :=
  if w = 1 then taken (s.onFrame .service fun f => { f with unlock := true }) false else refuse s .value

/-- R178: the flush set: the dirty set and the write in flight. -/
def Sto.flushSet (s : Sto) : List StoreItem :=
  match s.inFlight with
  | none => s.dirty
  | some w => markItem s.dirty w.image.item

/-- R173: a soft reset request is accepted; a second one changes nothing. -/
def State.acceptSoftReset (s : State) (port : Port) : State :=
  match s.prt.softReset with
  | some _ => s
  | none =>
    let reply : ReplyPhase := if s.prt.processing port then .executing else .delivered
    { s with prt := { s.prt with softReset := some ⟨port, reply, s.sto.flushSet⟩ } }

def State.writeSoftReset (s : State) (port : Port) (w : Word) : Written :=
  if w ≠ 1 then refuse s .value
  else if s.bsq.state = .idle ∨ s.bsq.state = .lockout then taken (s.acceptSoftReset port) false
  else refuse s .busy

/-- The counter at an address of the PORT space (R172). -/
def counterAt (a : Nat) : Option PortCounter :=
  match a with
  | 0 => some .frames
  | 1 => some .badFrames
  | 2 => some .badCommands
  | 3 => some .denied
  | 4 => some .writeErrors
  | 5 => some .overruns
  | _ => none

/-- R172: a counter set to 0. -/
def PortCounters.clear (c : PortCounters) : PortCounter → PortCounters
  | .frames => { c with frames := 0 }
  | .badFrames => { c with badFrames := 0 }
  | .badCommands => { c with badCommands := 0 }
  | .denied => { c with denied := 0 }
  | .writeErrors => { c with writeErrors := 0 }
  | .overruns => { c with overruns := 0 }

def State.writeCounter (s : State) (port : Port) (k : PortCounter) (w : Word) : Written :=
  if w = 0 then taken (s.onCounters port fun c => c.clear k) false else refuse s .value

/-- The channel of a trim offset word (08 §8.4, PORT space). -/
def offsetChannel (a : Nat) : Option NtcChannel :=
  match a with
  | 0x40 => some .flowA
  | 0x41 => some .flowB
  | 0x42 => some .ret
  | 0x43 => some .dhwOut
  | 0x44 => some .dhwIn
  | 0x45 => some .flue
  | 0x46 => some .outdoor
  | _ => none

/-- R182: a working trim offset. -/
def State.writeOffset (s : State) (ch : NtcChannel) (w : Word) : Written :=
  let x := clampWord (-20) 20 w.toInt
  taken { s with sto := { s.sto with trim := { s.sto.trim with offsets := ntcPut s.sto.trim.offsets ch x.1 } } } x.2

/-! #### The output test request (R186, R187) -/

/-- R187: whether a test request is answered BUSY. -/
def State.testBusy (s : State) (c : TestChannel) : Bool :=
  s.bsq.state != .idle || s.dta.anyAsking || s.locked || (c == .fan && s.bsq.purgeLeft != 0)

/-- R187: the channel is listed with its level, and the timer is started. -/
def State.startTest (s : State) (c : TestChannel) (level duration : Nat) : State :=
  let o := s.ocu.force c level
  { s with ocu := { o with test :=
      { o.test with listed := listTest o.test.listed c level, timer := some (min 60 duration * 1000) } } }

/-- R187: one request is judged, as its duration word has been handled. DESIGN CHOICE: a channel that it cannot force refuses
that word alone with VALUE, so the write-errors counter goes up by one (R162; log entry 83). -/
def State.requestTest (s : State) (channel level duration : Word) : Written :=
  if duration = 0 then taken (s.endTest .ended).settle false
  else match testChannelOf channel with
    | none => refuse s .value
    | some c =>
      if s.testBusy c then refuse s .busy
      else
        let l := testLevelOf c level
        taken (s.startTest c l.1 duration.toNat).settle (l.2 || 60 < duration.toNat)

/-- A PORT word; `test` holds the three words of an output test request that the command covers whole. -/
def State.writePort (s : State) (port : Port) (test : Option (Word × Word × Word)) (a : Nat) (w : Word) : Written :=
  match counterAt a with
  | some k => s.writeCounter port k w
  | none =>
    if a = 0x31 then s.writeSoftReset port w
    else match port with
      | .control =>
        if a = 0x20 then s.writeHeartbeat w else if a = 0x23 then s.writeFlag w else refuse s .denied
      | .service =>
        if a = 0x30 then s.writeUnlock w
        else match offsetChannel a with
          | some ch => s.writeOffset ch w
          | none =>
            if 0x60 ≤ a ∧ a ≤ 0x62 then
              match test with
              | none => refuse s .value
              | some x => if a = 0x62 then s.requestTest x.1 x.2.1 x.2.2 else taken s false
            else refuse s .denied

/-- One word of a write command, in any space but DEMAND. An info word is DENIED (R161). DESIGN CHOICE: so it is in COMBUSTION,
with and without unlock, and it is no combustion write of its frame (R166; log entry 69). -/
def State.writeWord (s : State) (port : Port) (space : BitVec 3) (test : Option (Word × Word × Word)) (x : Nat × Word) :
    Written :=
  if isInfo x.1 then refuse s .denied
  else match space.toNat with
    | 2 => s.writeSetting x.1 x.2
    | 3 => s.writeCombustion x.1 x.2
    | 4 => s.writeFaults port x.1
    | 6 => s.writePort port test x.1 x.2
    | _ => refuse s .denied

/-! #### DEMAND (R24 to R26, R164) -/

/-- The last value that a write carries for an offset of a block. -/
def carried (ws : List (Nat × Word)) (off : Nat) : Option Word := (ws.reverse.find? fun x => x.1 == off).map (·.2)

/-- Whether a word of a block is one that a write may carry for its entry (08 §8.4, R25). -/
def mayCarry (src : Source) (off : Nat) : Bool :=
  match src with
  | .board => off == 0 || off == 2 || (3 ≤ off && off ≤ 6)
  | .service => off == 0 || off == 2 || off == 7 || off == 8
  | _ => false

/-- R24, R26: whether the arbiter refuses a write to the entry as a whole. -/
def State.refusesEntry (s : State) (port : Port) (src : Source) (removal : Bool) : Bool :=
  match src with
  | .board => port == .service || (!removal && s.prt.heartbeat.isNone)
  | .service => !removal && s.locked
  | _ => true

/-- R164: a rate selection outside 1 to 4. -/
def badSelection (off : Nat) (w : Word) : Bool := off == 7 && (w.toNat < 1 || 4 < w.toNat)

/-- The rate selection of a word. -/
def selectionOf (w : Word) : Option RateSelection :=
  match w.toNat with
  | 1 => some .min
  | 2 => some .ignition
  | 3 => some .chMax
  | 4 => some .explicit
  | _ => none

/-- The zone of a word (R25). -/
def zoneOf (w : Word) : Option Zone :=
  match w.toNat with
  | 1 => some .zone1
  | 2 => some .zone2
  | _ => none

/-- R25: whether the value of a word is changed by its clamp. -/
def entryClamps (t : CombustionTable) (pairAbsent : Bool) (off : Nat) (w : Word) : Bool :=
  match off with
  | 3 => w != 0 && clampInt 200 900 w.toInt != w.toInt
  | 4 => w != 0 && clampInt 50 300 w.toInt != w.toInt
  | 5 => !pairAbsent && clampInt 0 400 w.toInt != w.toInt
  | 6 => 2 < w.toNat
  | 8 => clampInt t.rmin t.dhwMax (unsigned w) != unsigned w
  | _ => false

/-- R25: the room pair after a write; an actual that neither the write nor the entry gives is a free value (log entry 22). -/
def pairAfter (old : Option RoomPair) (setpoint actual : Option Word) : Option RoomPair :=
  match setpoint with
  | some sp =>
    if sp = 0 then none
    else
      let a := match actual, old with
        | some x, _ => clampInt 0 400 x.toInt
        | none, some p => p.actual
        | none, none => clampInt 0 400 Config.unwrittenRoomActual
      some ⟨clampInt 50 300 sp.toInt, a⟩
  | none =>
    match old, actual with
    | some p, some x => some { p with actual := clampInt 0 400 x.toInt }
    | p, _ => p

/-- R25: the BOARD entry after a write. -/
def boardAfter (old : Entry) (ws : List (Nat × Word)) : Entry :=
  { old with
    requesting := match carried ws 2 with | some w => yesWord w | none => old.requesting
    flowRequest := match carried ws 3 with
      | some w => if w = 0 then none else some (clampInt 200 900 w.toInt)
      | none => old.flowRequest
    roomPair := pairAfter old.roomPair (carried ws 4) (carried ws 5)
    zone := match carried ws 6 with | some w => zoneOf w | none => old.zone }

/-- R26: the SERVICE entry that a write creates, before the write's own words. -/
def newServiceEntry : Entry := { Entry.plain true with selection := some .min }

/-- R164: the explicit rate after a write; one that neither the write nor the entry gives is a free value (log entry 22). -/
def explicitAfter (t : CombustionTable) (old : Option Int) (selection : Option Word) (rate : Option Word) : Option Int :=
  match rate with
  | some w => some (clampInt t.rmin t.dhwMax (unsigned w))
  | none =>
    match old, selection with
    | some r, _ => some r
    | none, some w => if w = 4 then some (clampInt t.rmin t.dhwMax Config.unwrittenExplicitRate) else none
    | none, none => none

/-- R25, R26: the SERVICE entry after a write. Every write but one to a present entry that sets requesting to no sets the
expiry. -/
def serviceAfter (t : CombustionTable) (old : Option Entry) (ws : List (Nat × Word)) (expiry : Nat) : Entry :=
  let e := old.getD newServiceEntry
  { e with
    requesting := match carried ws 2 with | some w => yesWord w | none => e.requesting
    selection := match carried ws 7 with | some w => selectionOf w | none => e.selection
    explicitRate := explicitAfter t e.explicitRate (carried ws 7) (carried ws 8)
    expiry := if old.isSome ∧ carried ws 2 = some 0 then e.expiry else some expiry }

/-- R26: the instant to which a write sets the expiry. -/
def State.serviceExpiry (s : State) : Nat := s.clock.now + s.sto.settings.serviceMin.toNat * 60000

/-- R63: the SERVICE rate is formed at a write that changes the selection, while SERVICE is served in RUNNING. DESIGN CHOICE:
the explicit rate counts as a part of the selection, whichever selection stands (log entry 54). -/
def State.formOnChange (s : State) (old : Option Entry) : State :=
  let sel := fun (e : Option Entry) => e.map fun e => (e.selection, e.explicitRate)
  if s.bsq.state = .running ∧ s.fre.served = .service ∧ sel old ≠ sel s.dta.table.service then s.serviceForm.settle else s

/-- R24 to R26: the entry after a write of these words. -/
def State.writeEntry (s : State) (src : Source) (ws : List (Nat × Word)) : State :=
  match src with
  | .board =>
    ({ s with dta := s.dta.put .board (some (boardAfter (s.dta.table.board.getD (Entry.plain false)) ws)) } : State).settle
  | .service =>
    let old := s.dta.table.service
    let s := { s with dta := s.dta.put .service (some (serviceAfter s.sto.table old ws s.serviceExpiry)) }
    s.settle.formOnChange old
  | _ => s

/-- The status of a word of a block that is not refused as a whole. -/
def State.entryStatus (s : State) (src : Source) (pairAbsent : Bool) (x : Nat × Word) : Status :=
  if !mayCarry src x.1 then .denied
  else if badSelection x.1 x.2 then .value
  else if entryClamps s.sto.table pairAbsent x.1 x.2 then .clamped
  else .ok

/-- The words of a block that are taken. -/
def takenWords (src : Source) (ws : List (Nat × Word)) : List (Nat × Word) :=
  ws.filter fun x => mayCarry src x.1 && !badSelection x.1 x.2

/-- R24, R26: the removal of an entry. -/
def State.removeEntry (s : State) (src : Source) : State := ({ s with dta := s.dta.put src none } : State).settle

/-- R164: the words that a command puts into one entry's block: one write, or a removal. A block none of whose words is
taken is left as it is. -/
def State.writeBlock (s : State) (port : Port) (src : Source) (ws : List (Nat × Word)) : State × List Status :=
  let removal := ws.any fun x => x.1 == 0 && x.2 == 0
  if s.refusesEntry port src removal then (s, ws.map fun _ => .denied)
  else
    let pairAbsent := carried ws 4 == some 0 || ((carried ws 4).isNone && (s.dta.table.get src).all fun e => e.roomPair.isNone)
    let statuses := ws.map (s.entryStatus src (src == .board && pairAbsent))
    if removal then (s.removeEntry src, ws.map fun x => if mayCarry src x.1 then .ok else .denied)
    else if (takenWords src ws).isEmpty then (s, statuses)
    else (s.writeEntry src (takenWords src ws), statuses)

/-- The source whose block holds an address of the DEMAND space. -/
def sourceAt (a : Nat) : Option Source := allSources[a / 16]?

/-- The words of a command, in order, put together block by block; `none` is the info words. -/
def splitBlocks : List (Nat × Word) → List (Option Source × List (Nat × Word))
  | [] => []
  | x :: rest =>
    let src := if isInfo x.1 then none else sourceAt x.1
    match splitBlocks rest with
    | [] => [(src, [(x.1 % 16, x.2)])]
    | (src', ws) :: more =>
      if src' = src then (src, (x.1 % 16, x.2) :: ws) :: more else (src, [(x.1 % 16, x.2)]) :: (src', ws) :: more

/-- R162, R172: the words of these statuses that were refused with VALUE are counted as they are handled. -/
def State.countValues (s : State) (port : Port) (words : List Status) : State :=
  if words.contains .value then
    s.onCounters port fun k => { k with writeErrors := min 65535 (k.writeErrors + words.count .value) }
  else s

/-- The blocks of a DEMAND write, one after the other. -/
def State.writeDemand (s : State) (port : Port) : List (Option Source × List (Nat × Word)) → State × List Status
  | [] => (s, [])
  | (src, ws) :: rest =>
    let x := match src with
      | none => (s, ws.map fun _ => Status.denied)
      | some src => s.writeBlock port src ws
    let y := State.writeDemand (x.1.countValues port x.2) port rest
    (y.1, x.2 ++ y.2)

/-! ### Commands (R161, R162) -/

/-- The words of a write, one after the other: the state, their statuses and the outcome bytes. -/
def State.writeWords (s : State) (port : Port) (space : BitVec 3) (test : Option (Word × Word × Word)) :
    List (Nat × Word) → State × List Status × List Byte
  | [] => (s, [], [])
  | x :: rest =>
    let w := s.writeWord port space test x
    let y := State.writeWords (w.state.countValues port [w.status]) port space test rest
    (y.1, w.status :: y.2.1, w.outcomes ++ y.2.2)

/-- R186: the words of an output test request that a command covers whole. -/
def coveredTest (l : List (Nat × Word)) : Option (Word × Word × Word) :=
  match carried l 0x60, carried l 0x61, carried l 0x62 with
  | some c, some v, some d => some (c, v, d)
  | _, _, _ => none

/-- The words of a write command at the addresses it handles. -/
def State.writeAll (s : State) (port : Port) (space : BitVec 3) (l : List (Nat × Word)) :
    State × List Status × List Byte :=
  if space = 1 then
    let x := s.writeDemand port (splitBlocks l)
    (x.1, x.2, [])
  else s.writeWords port space (coveredTest l) l

/-- R169, R170: what a read of a word does besides giving its value. -/
def State.readEffect (s : State) (port : Port) (space : BitVec 3) (a : Nat) : State :=
  if port = .control ∧ space = 5 ∧ a = 1 then
    match s.prt.notices with
    | [] => ({ s with prt := { s.prt with overflow := false } } : State).settle
    | _ :: rest => ({ s with prt := { s.prt with notices := rest } } : State).settle
  else if port = .control ∧ space = 6 ∧ a = 0x23 ∧ s.prt.expiredFlag = true then
    { s with prt := { s.prt with expiredNote := true } }
  else s

/-- The words that a read command returns, one after the other. -/
def State.readAll (s : State) (port : Port) (space : BitVec 3) : List Nat → State × List Word
  | [] => (s, [])
  | a :: rest =>
    let x := State.readAll (s.readEffect port space a) port space rest
    (x.1, s.readValue port space a :: x.2)

/-- R162: a command whose status is DENIED or NO-UNLOCK adds one to the denied counter. -/
def PortCounters.count (c : PortCounters) (status : Status) : PortCounters :=
  { c with denied := if status = .denied ∨ status = .noUnlock then count16 c.denied else c.denied }

/-- R167: the frame notes that a combustion command returned NO-UNLOCK. -/
def State.noteNoUnlock (s : State) (status : Status) : State :=
  if status = .noUnlock then s.onFrame .service fun f => { f with noUnlock := true } else s

/-- The bytes of a command in the reply body. -/
def State.reply (s : State) (port : Port) (bytes : List Byte) : State :=
  s.onFrame port fun f => { f with body := f.body ++ bytes }

/-- R161: the word address at which a command starts. -/
def State.startOf (s : State) (port : Port) (space : BitVec 3) : Start → Nat
  | .pointer => (s.prt.portRecord port).pointer space
  | .address a => a.toNat

/-- R161: a read command within the rights. -/
def State.runRead (s : State) (port : Port) (c : PortCommand) (count : Nat) : State :=
  let w := walk c.space c.step count (s.startOf port c.space c.start)
  let s := s.setPointer port c.space w.2.1
  let x := s.readAll port c.space w.1
  let status := if w.2.2 then Status.range else Status.ok
  x.1.reply port ([status.code, BitVec.ofNat 8 x.2.length] ++ x.2.flatMap wordBytes)

/-- R161, R162: a write command within the rights. -/
def State.runWrite (s : State) (port : Port) (c : PortCommand) (data : List Word) : State :=
  let w := walk c.space c.step data.length (s.startOf port c.space c.start)
  let s := s.setPointer port c.space w.2.1
  let x := s.writeAll port c.space (w.1.zip data)
  let status := if w.2.2 then Status.range else statusOf x.2.1
  ((x.1.onCounters port fun k => k.count status).noteNoUnlock status).reply port (status.code :: x.2.2)

/-- R163: a command refused with DENIED as a whole; a read gives no words. -/
def State.refuseCommand (s : State) (port : Port) (c : PortCommand) : State :=
  (s.onCounters port fun k => k.count .denied).reply port
    (match c.body with
     | .inl _ => [Status.denied.code, 0]
     | .inr _ => [Status.denied.code])

/-- R160: a command refused with BAD-COMMAND; the commands after it are skipped. -/
def State.badCommand (s : State) (port : Port) : State :=
  let s := s.onCounters port fun k => { k with badCommands := count16 k.badCommands }
  (s.reply port [Status.badCommand.code]).onFrame port fun f => { f with skipping := true }

/-- R160: a command naming space 7. -/
def State.noSpace (s : State) (port : Port) : State :=
  (s.onCounters port fun k => { k with denied := count16 k.denied }).reply port [Status.noSpace.code]

/-- R160, R161, R163: one command is executed. An info word may be read without a right to its space. -/
def State.execute (s : State) (port : Port) (c : PortCommand) : State :=
  if c.space = 7 then s.noSpace port
  else match c.body with
    | .inl n =>
      if mayRead port c.space || isInfo (s.startOf port c.space c.start) then s.runRead port c n else s.refuseCommand port c
    | .inr data => if mayWrite port c.space then s.runWrite port c data else s.refuseCommand port c

/-- The frame as one more command is taken from it. -/
def Frame.take (f : Frame) (c : PortCommand) : Frame :=
  { f with
    todo := match f.todo with
      | [] => []
      | x :: rest => if x = c then rest else x :: rest
    taken := f.taken + 1 }

/-- R160: the next command of a port: executed, refused with BAD-COMMAND, or skipped. -/
def State.portCommand (s : State) (port : Port) (c : PortCommand) : State :=
  let f := (s.prt.portRecord port).frame
  let s := s.onFrame port fun f => f.take c
  if f.skipping then s
  else if maxCommands ≤ f.taken ∨ countOk c = false then s.badCommand port
  else s.execute port c

/-- A command that writes one word at an address. -/
def wordWrite (space : BitVec 3) (a : Word) (w : Word) : PortCommand := ⟨space, .address a, false, .inr [w]⟩

/-- A command that reads one word at an address. -/
def wordRead (space : BitVec 3) (a : Word) : PortCommand := ⟨space, .address a, false, .inl 1⟩

/-! ### The end of a frame (R167) -/

/-- R167: the commit byte. DESIGN CHOICE: a frame whose only combustion write was locked and returned RANGE holds no staged
copy, which is not a valid table (log entry 68). -/
def State.commit (s : State) (f : Frame) : Commit :=
  if !f.combustionWrite then .none
  else if f.noUnlock then .discardedUnlock
  else if f.valueRefused then .discardedValue
  else match s.prt.staged with
    | none => .discardedInvalid
    | some t =>
      if !t.valid then .discardedInvalid
      else if s.bsq.state = .idle ∨ s.bsq.state = .lockout then .adopted
      else .discardedBusy

/-- R167, R180: the staged copy becomes the table in use. -/
def State.adopt (s : State) (t : CombustionTable) : State :=
  ({ s with
    sto := { s.sto with table := t, tableValid := true }
    flt := { s.flt with conditions := { s.flt.conditions with table := false } } } : State).markDirty .combustion

/-- R167: the commit acts. -/
def State.applyCommit (s : State) (c : Commit) : State :=
  match c, s.prt.staged with
  | .adopted, some t => s.adopt t
  | _, _ => s

/-- The check byte of a service frame: the sum of every byte is 0 (08 §8.2). -/
def serviceCheck (l : List Byte) : Byte := 0 - l.foldl (· + ·) 0

/-- The service port's reply frame around a body. -/
def serviceReply (body : List Byte) : List Byte :=
  let l := [0xC3, BitVec.ofNat 8 (body.length / 256), BitVec.ofNat 8 body.length] ++ body
  l ++ [serviceCheck l]

/-- 08 §8.2: the time in ms that bytes take on the line at 0.52 ms each. -/
def lineMs (n : Nat) : Nat := (n * 52 + 99) / 100

/-- R157, R159: the reply is complete: READY on the control port, sending on the service port. -/
def Prt.deliver (p : Prt) (port : Port) (body : List Byte) : Prt :=
  match port with
  | .control => { p with replyState := .ready, reply := body }
  | .service => { p with serviceState := .sending (lineMs (serviceReply body).length), txd := serviceReply body }

/-- R173: the reply of the frame that asked for a soft reset is ready. -/
def SoftReset.ready (r : SoftReset) (port : Port) : SoftReset :=
  if r.port = port ∧ r.reply = .executing then { r with reply := .ready Config.replyHoldMs } else r

/-- R173: that reply has been delivered: sent, or collected in full while the port still holds it. -/
def SoftReset.deliver (r : SoftReset) (port : Port) : SoftReset :=
  match r.reply with
  | .ready _ => if r.port = port then { r with reply := .delivered } else r
  | _ => r

/-- R157: a REQUEST that is taken discards the reply that the control port holds (log entry 41). -/
def SoftReset.replace (r : SoftReset) : SoftReset :=
  match r.port, r.reply with
  | .control, .ready hold => { r with reply := .replaced hold }
  | _, _ => r

/-- R173: 100 ms after it became READY a control reply counts as delivered, collected or not. -/
def SoftReset.endHold (r : SoftReset) : SoftReset :=
  match r.port, r.reply with
  | .control, .ready _ => { r with reply := .delivered }
  | .control, .replaced _ => { r with reply := .delivered }
  | _, _ => r

def State.onSoftReset (s : State) (f : SoftReset → SoftReset) : State :=
  { s with prt := { s.prt with softReset := s.prt.softReset.map f } }

/-- R160: the rest of the frame is executed, and a malformed command at its end is refused. -/
def State.finishCommands (s : State) (port : Port) : State :=
  let f := (s.prt.portRecord port).frame
  let s := f.todo.foldl (fun s c => s.portCommand port c) s
  let f := (s.prt.portRecord port).frame
  if f.badTail && !f.skipping then s.badCommand port else s

/-- R167: the commit is formed, the staged copy and the unlock flag go, and the reply is complete. -/
def State.endFrame (s : State) (port : Port) : State :=
  let f := (s.prt.portRecord port).frame
  let c := s.commit f
  let s := s.applyCommit c
  let s := { s with prt := { s.prt.deliver port (f.body ++ [c.code]) with
    staged := match port with | .control => s.prt.staged | .service => none } }
  (s.onFrame port fun _ => Frame.fresh).onSoftReset fun r => r.ready port

/-! ### Frames that arrive (R156 to R159) -/

/-- R156: the most bytes a REQUEST may carry after its first. -/
def requestMax : Nat := 2080

/-- The frame of a REQUEST with these command bytes. -/
def frameOf (bytes : List Byte) : Frame :=
  { Frame.fresh with todo := (takeCommands maxCommands bytes).1, badTail := (takeCommands maxCommands bytes).2 }

def State.countFrame (s : State) (port : Port) : State :=
  s.onCounters port fun k => { k with frames := count16 k.frames }

def State.countBadFrame (s : State) (port : Port) : State :=
  s.onCounters port fun k => { k with badFrames := count16 k.badFrames }

def State.countOverrun (s : State) (port : Port) : State :=
  s.onCounters port fun k => { k with overruns := count16 k.overruns }

/-- R157: a REQUEST is taken, or is an overrun. -/
def State.takeRequest (s : State) (bytes : List Byte) : State :=
  let s := s.countFrame .control
  if s.prt.replyState = .processing then
    let s := s.countOverrun .control
    { s with prt := { s.prt with overrunFlag := true } }
  else
    let s := { s with prt := { s.prt with replyState := .processing, overrunFlag := false, reply := [] } }
    (s.onFrame .control fun _ => frameOf bytes).onSoftReset SoftReset.replace

/-- R158: the collect status and the body it comes with. -/
def Prt.collect (p : Prt) : Byte × List Byte :=
  if p.overrunFlag then (3, [])
  else match p.replyState with
    | .processing => (2, [])
    | .empty => (4, [])
    | .ready => (0, p.reply)
    | .collected => (1, p.reply)

/-- 08 §8.1: the bytes that SDO gives in a COLLECT frame of this length. -/
def collectBytes (status : Byte) (body : List Byte) (clocked : Nat) : List Byte :=
  let l := [0, status] ++ wordBytes (natWord body.length) ++ body
  (l ++ List.replicate (clocked - l.length) 0).take clocked

/-- R158: a COLLECT frame in which so many whole bytes were clocked. -/
def State.takeCollect (s : State) (clocked : Nat) : State :=
  let s := s.countFrame .control
  let x := s.prt.collect
  let whole := 4 + x.2.length ≤ clocked
  let s := { s with prt :=
    { s.prt with
      sdo := collectBytes x.1 x.2 clocked
      overrunFlag := false
      replyState := if !s.prt.overrunFlag && s.prt.replyState == .ready && whole then .collected else s.prt.replyState } }
  if s.prt.replyState = .collected then s.onSoftReset fun r => r.deliver .control else s

/-- R156: a bad frame: an unknown first byte, or a REQUEST that is too long. -/
def badControlFrame : List Byte → Bool
  | [] => false
  | b :: rest => if b = 1 then requestMax < rest.length else b != 2

/-- R159: what the receiver of the service port makes of a byte: nothing yet, a bad frame, or a complete good frame with these
command bytes. -/
inductive Received where
  | nothing | bad
  | good (commands : List Byte)
  deriving DecidableEq, Repr

/-- R159: whether the bytes from a start byte on are a whole frame: the length byte, as many command bytes, the check byte. -/
def wholeFrame (bytes : List Byte) : Bool :=
  match bytes with
  | _ :: len :: rest => rest.length == len.toNat + 1
  | _ => false

/-- R159: a frame that is complete at its check byte. -/
def judgeServiceFrame (bytes : List Byte) (stopBitError : Bool) : Received :=
  if stopBitError || bytes.foldl (· + ·) 0 != 0 then .bad else .good ((bytes.drop 2).take (bytes.length - 3))

/-- R159: one byte reaches the receiver. -/
def Receiver.take (r : Receiver) (stopBitError : Bool) (b : Byte) : Receiver × Received :=
  match r with
  | .inFrame bytes err =>
    let bytes := bytes ++ [b]
    let err := err || stopBitError
    if bytes.length = 2 ∧ b = 0 then (.idle, .bad)
    else if wholeFrame bytes then (.idle, judgeServiceFrame bytes err)
    else (.inFrame bytes err, .nothing)
  | _ => if b = 0xC3 then (.inFrame [b] stopBitError, .nothing) else (.discarding, .nothing)

/-- R159: what the receiver has made of a byte acts: a complete good frame is taken by a free port, which holds no staged copy
(R166), and is an overrun otherwise. -/
def State.takeReceived (s : State) : Received → State
  | .nothing => s
  | .bad => s.countBadFrame .service
  | .good commands =>
    if s.prt.serviceState = .free then
      let s := s.countFrame .service
      let s := { s with prt := { s.prt with serviceState := .processing, staged := none } }
      s.onFrame .service fun _ => frameOf commands
    else s.countOverrun .service

/-- R159: one byte arrives at the service port. -/
def State.receiveService (stopBitError : Bool) (s : State) (b : Byte) : State :=
  let x := s.prt.receiver.take stopBitError b
  ({ s with prt := { s.prt with receiver := x.1 } } : State).takeReceived x.2

/-- R159: the bytes of a service frame arrive, one after the other. -/
def State.takeServiceBytes (s : State) (bytes : List Byte) (stopBitError : Bool) : State :=
  bytes.foldl (State.receiveService stopBitError) s

/-- R159: a gap of more than 20 ms ends an incomplete frame, or a run of discarded bytes, as one bad frame. -/
def State.serviceGap (s : State) : State :=
  match s.prt.receiver with
  | .idle => s
  | _ => ({ s with prt := { s.prt with receiver := .idle } } : State).countBadFrame .service

/-! ### Heartbeat supervision (R168) -/

/-- R168: the five steps of an expiry. -/
def State.heartbeatExpiry (s : State) : State :=
  let s := { s with prt := { s.prt with heartbeat := none } }
  let s := { s with dta := s.dta.put .board none }
  let s := s.enterKey .a07
  { s with prt :=
      { s.prt with
        expiredFlag := true
        expiredNote := false
        brst := if s.sto.settings.boardResetPulse then some Config.brstMs else s.prt.brst } }

end Sys2Proof.Machine
end

