-- ==== Sys2Proof/Machine/PortCommands.lean ====
section
/-! DEFINITION. The meanings of the port unit's commands: frames, the commands of a frame, and the port timers
(08_control_and_service_ports.md). A port command is taken as the next command of its port's frame; outside a frame it acts
alike, and its reply bytes go with the frame record that the next frame discards (log entry 8). -/

namespace Sys2Proof.Machine

/-! ### Frames -/

/-- CONTROL_REQUEST_FRAME (R156, R157, R160): too long a REQUEST is a bad frame. -/
def execControlRequestFrame (commands : List Byte) (s : State) : Host.Outcome State Fault Refusal :=
  .next (s.event fun s => if requestMax < commands.length then s.countBadFrame .control else s.takeRequest commands)

/-- COLLECT_FRAME (R156, R158, R173): a frame that ends before its first whole byte is ignored. -/
def execCollectFrame (clocked : Nat) (s : State) : Host.Outcome State Fault Refusal :=
  .next (s.event fun s => if clocked = 0 then s else s.takeCollect clocked)

/-- CONTROL_BAD_FRAME (R156). -/
def execControlBadFrame (bytes : List Byte) (s : State) : Host.Outcome State Fault Refusal :=
  .next (s.event fun s => if badControlFrame bytes then s.countBadFrame .control else s)

/-- SERVICE_REQUEST_FRAME (R159, R160): its bytes reach the receiver, which may be within a frame already (log entry 64). -/
def execServiceRequestFrame (bytes : List Byte) (stopBitError : Bool) (s : State) : Host.Outcome State Fault Refusal :=
  .next (s.event fun s => s.takeServiceBytes bytes stopBitError)

/-- SERVICE_FRAME_GAP (R159): only after bytes that no frame has completed. -/
def execServiceFrameGap (s : State) : Host.Outcome State Fault Refusal :=
  .next (s.event State.serviceGap)

/-- SERVICE_REPLY_SENT (R159, R173). -/
def execServiceReplySent (s : State) : Host.Outcome State Fault Refusal :=
  .next (s.event fun s =>
    match s.prt.serviceState with
    | .sending _ =>
      ({ s with prt := { s.prt with serviceState := .free } } : State).onSoftReset fun r => r.deliver .service
    | _ => s)

/-- CONTROL_REPLY_HOLD_EXPIRY (R173). -/
def execControlReplyHoldExpiry (s : State) : Host.Outcome State Fault Refusal :=
  .next (s.event fun s => s.onSoftReset SoftReset.endHold)

/-- FRAME_PROCESSING_END (R167, R157, R159, R160): only while the port processes a frame. -/
def execFrameProcessingEnd (port : Port) (s : State) : Host.Outcome State Fault Refusal :=
  .next (s.event fun s => if s.prt.processing port then (s.finishCommands port).endFrame port else s)

/-! ### Commands -/

/-- READ_COMMAND (R160 to R163). -/
def execReadCommand (port : Port) (space : BitVec 3) (start : Start) (step : Bool) (count : Nat) (s : State) :
    Host.Outcome State Fault Refusal :=
  .next (s.event fun s => s.portCommand port ⟨space, start, step, .inl count⟩)

/-- GENERIC_WRITE (R160 to R163): a write to any words of a space. -/
def execGenericWrite (port : Port) (space : BitVec 3) (start : Start) (step : Bool) (data : List Word) (s : State) :
    Host.Outcome State Fault Refusal :=
  .next (s.event fun s => s.portCommand port ⟨space, start, step, .inr data⟩)

/-- DEMAND_WRITE (R164, R24 to R26). -/
def execDemandWrite (port : Port) (start : Start) (step : Bool) (data : List Word) (s : State) :
    Host.Outcome State Fault Refusal :=
  .next (s.event fun s => s.portCommand port ⟨1, start, step, .inr data⟩)

/-- SETTINGS_WRITE (R179, R163, R150, R53). -/
def execSettingsWrite (port : Port) (start : Start) (step : Bool) (data : List Word) (s : State) :
    Host.Outcome State Fault Refusal :=
  .next (s.event fun s => s.portCommand port ⟨2, start, step, .inr data⟩)

/-- COMBUSTION_WRITE (R166). -/
def execCombustionWrite (port : Port) (start : Start) (step : Bool) (data : List Word) (s : State) :
    Host.Outcome State Fault Refusal :=
  .next (s.event fun s => s.portCommand port ⟨3, start, step, .inr data⟩)

/-- RESTORE_FACTORY_TABLE (R183, R166). -/
def execRestoreFactoryTable (value : Word) (s : State) : Host.Outcome State Fault Refusal :=
  .next (s.event fun s => s.portCommand .service (wordWrite 3 0x30 value))

/-- RESET_REQUEST_WORD (R165, R127 to R130). -/
def execResetRequestWord (port : Port) (value : Word) (s : State) : Host.Outcome State Fault Refusal :=
  .next (s.event fun s => s.portCommand port (wordWrite 4 0x30 value))

/-- HISTORY_CLEAR_WORD (R135, R165). -/
def execHistoryClearWord (port : Port) (value : Word) (s : State) : Host.Outcome State Fault Refusal :=
  .next (s.event fun s => s.portCommand port (wordWrite 4 0x31 value))

/-- NOTICE_POP (R170, R171). -/
def execNoticePop (s : State) : Host.Outcome State Fault Refusal :=
  .next (s.event fun s => s.portCommand .control (wordRead 5 1))

/-- HEARTBEAT_WORD (R168). -/
def execHeartbeatWord (value : Word) (s : State) : Host.Outcome State Fault Refusal :=
  .next (s.event fun s => s.portCommand .control (wordWrite 6 0x20 value))

/-- BOARD_EXPIRED_FLAG_READ (R169). -/
def execBoardExpiredFlagRead (s : State) : Host.Outcome State Fault Refusal :=
  .next (s.event fun s => s.portCommand .control (wordRead 6 0x23))

/-- BOARD_EXPIRED_FLAG_WRITE (R169). -/
def execBoardExpiredFlagWrite (value : Word) (s : State) : Host.Outcome State Fault Refusal :=
  .next (s.event fun s => s.portCommand .control (wordWrite 6 0x23 value))

/-- UNLOCK_WORD (R166). -/
def execUnlockWord (value : Word) (s : State) : Host.Outcome State Fault Refusal :=
  .next (s.event fun s => s.portCommand .service (wordWrite 6 0x30 value))

/-- SOFT_RESET_WORD (R173, R178). -/
def execSoftResetWord (port : Port) (value : Word) (s : State) : Host.Outcome State Fault Refusal :=
  .next (s.event fun s => s.portCommand port (wordWrite 6 0x31 value))

/-- The address of a counter word (08 §8.4, PORT space). -/
def counterAddress : PortCounter → Word
  | .frames => 0
  | .badFrames => 1
  | .badCommands => 2
  | .denied => 3
  | .writeErrors => 4
  | .overruns => 5

/-- COUNTER_CLEAR (R172). -/
def execCounterClear (port : Port) (counter : PortCounter) (value : Word) (s : State) : Host.Outcome State Fault Refusal :=
  .next (s.event fun s => s.portCommand port (wordWrite 6 (counterAddress counter) value))

/-- The address of a working trim offset (08 §8.4, PORT space). -/
def offsetAddress : NtcChannel → Word
  | .flowA => 0x40
  | .flowB => 0x41
  | .ret => 0x42
  | .dhwOut => 0x43
  | .dhwIn => 0x44
  | .flue => 0x45
  | .outdoor => 0x46

/-- TRIM_OFFSET_WRITE (R182). -/
def execTrimOffsetWrite (ch : NtcChannel) (value : Word) (s : State) : Host.Outcome State Fault Refusal :=
  .next (s.event fun s => s.portCommand .service (wordWrite 6 (offsetAddress ch) value))

/-- OUTPUT_TEST_REQUEST (R186, R187): one command that covers the channel, level and duration words. -/
def execOutputTestRequest (channel level duration : Word) (s : State) : Host.Outcome State Fault Refusal :=
  .next (s.event fun s => s.portCommand .service ⟨6, .address 0x60, true, .inr [channel, level, duration]⟩)

/-! ### Timers -/

/-- HEARTBEAT_TIMER_EXPIRY (R168): only while supervision runs. -/
def execHeartbeatTimerExpiry (s : State) : Host.Outcome State Fault Refusal :=
  .next (s.event fun s => if s.prt.heartbeat.isSome then s.heartbeatExpiry else s)

/-- BRST_PULSE_END (R168). -/
def execBrstPulseEnd (s : State) : Host.Outcome State Fault Refusal :=
  .next (s.event fun s => { s with prt := { s.prt with brst := none } })

end Sys2Proof.Machine
end

