-- ==== Sys2Proof/Machine/Dispatch.lean ====
section
/-! DEFINITION. `exec`: one arm for each command, each one direct call of its meaning. -/

namespace Sys2Proof.Machine

/-- The effect of a command on everything but the queue. -/
def exec (i : Instr) (s : State) : Host.Outcome State Fault Refusal :=
  match i with
  | .powerOnReset => Sys2Proof.Machine.execPowerOnReset s
  | .pinReset => Sys2Proof.Machine.execPinReset s
  | .startupReadsComplete => Sys2Proof.Machine.execStartupReadsComplete s
  | .softResetEffect => Sys2Proof.Machine.execSoftResetEffect s
  | .ntcConversionCycle readings polOut => Sys2Proof.Machine.execNtcConversionCycle readings polOut s
  | .channelOpenOrShort ch kind => Sys2Proof.Machine.execChannelOpenOrShort ch kind s
  | .flowPairCountExpiry => Sys2Proof.Machine.execFlowPairCountExpiry s
  | .noCirculationCountExpiry => Sys2Proof.Machine.execNoCirculationCountExpiry s
  | .b09TimerExpiry => Sys2Proof.Machine.execB09TimerExpiry s
  | .pressureReading mv => Sys2Proof.Machine.execPressureReading mv s
  | .ionisationSample current => Sys2Proof.Machine.execIonisationSample current s
  | .flameProved => Sys2Proof.Machine.execFlameProved s
  | .flameLost => Sys2Proof.Machine.execFlameLost s
  | .weakFlameBlockEnd => Sys2Proof.Machine.execWeakFlameBlockEnd s
  | .pulseGateEnd turbine tacho => Sys2Proof.Machine.execPulseGateEnd turbine tacho s
  | .a08GoodGateCount => Sys2Proof.Machine.execA08GoodGateCount s
  | .tapStart => Sys2Proof.Machine.execTapStart s
  | .tapStop => Sys2Proof.Machine.execTapStop s
  | .antiCycleTimerExpiry => Sys2Proof.Machine.execAntiCycleTimerExpiry s
  | .serviceEntryExpiry => Sys2Proof.Machine.execServiceEntryExpiry s
  | .keepwarmSpacingTimerExpiry => Sys2Proof.Machine.execKeepwarmSpacingTimerExpiry s
  | .keepwarmBurnTimeLimit => Sys2Proof.Machine.execKeepwarmBurnTimeLimit s
  | .pumpOverrunTimerExpiry => Sys2Proof.Machine.execPumpOverrunTimerExpiry s
  | .diverterMoveEnd => Sys2Proof.Machine.execDiverterMoveEnd s
  | .chComputation => Sys2Proof.Machine.execChComputation s
  | .preCheckTimerExpiry => Sys2Proof.Machine.execPreCheckTimerExpiry s
  | .prePurgeTimeReached => Sys2Proof.Machine.execPrePurgeTimeReached s
  | .fanProvingTimeout => Sys2Proof.Machine.execFanProvingTimeout s
  | .ignitionSpeedRunReached => Sys2Proof.Machine.execIgnitionSpeedRunReached s
  | .safetyTimeExpiry => Sys2Proof.Machine.execSafetyTimeExpiry s
  | .stabilisationTimeExpiry => Sys2Proof.Machine.execStabilisationTimeExpiry s
  | .interPurgeTimeReached => Sys2Proof.Machine.execInterPurgeTimeReached s
  | .outOfBandRunTimeout => Sys2Proof.Machine.execOutOfBandRunTimeout s
  | .postPurgeTimeExpiry => Sys2Proof.Machine.execPostPurgeTimeExpiry s
  | .strayFlameTimeLimit => Sys2Proof.Machine.execStrayFlameTimeLimit s
  | .b06TimerExpiry => Sys2Proof.Machine.execB06TimerExpiry s
  | .lockoutPurgeEnd => Sys2Proof.Machine.execLockoutPurgeEnd s
  | .lockoutPurgeRemainderEnd => Sys2Proof.Machine.execLockoutPurgeRemainderEnd s
  | .tripReport => Sys2Proof.Machine.execTripReport s
  | .refusedOpen => Sys2Proof.Machine.execRefusedOpen s
  | .burnerMinute => Sys2Proof.Machine.execBurnerMinute s
  | .tripLineActive line lowFor => Sys2Proof.Machine.execTripLineActive line lowFor s
  | .tripLineInactive line highFor => Sys2Proof.Machine.execTripLineInactive line highFor s
  | .channelPeriodStart ch => Sys2Proof.Machine.execChannelPeriodStart ch s
  | .pullInEnd valve => Sys2Proof.Machine.execPullInEnd valve s
  | .coilCheckHold valve current => Sys2Proof.Machine.execCoilCheckHold valve current s
  | .coilCheckIdle valve current => Sys2Proof.Machine.execCoilCheckIdle valve current s
  | .fanLoopStep => Sys2Proof.Machine.execFanLoopStep s
  | .pumpDtStepTimerExpiry => Sys2Proof.Machine.execPumpDtStepTimerExpiry s
  | .decayTimerExpiry => Sys2Proof.Machine.execDecayTimerExpiry s
  | .operatingMinute => Sys2Proof.Machine.execOperatingMinute s
  | .pollTick => Sys2Proof.Machine.execPollTick s
  | .pollStart => Sys2Proof.Machine.execPollStart s
  | .pollSkip => Sys2Proof.Machine.execPollSkip s
  | .onTimeRunComplete => Sys2Proof.Machine.execOnTimeRunComplete s
  | .answerWindowClose => Sys2Proof.Machine.execAnswerWindowClose s
  | .receiveByte b => Sys2Proof.Machine.execReceiveByte b s
  | .codeViolation => Sys2Proof.Machine.execCodeViolation s
  | .inboundFrameEnd => Sys2Proof.Machine.execInboundFrameEnd s
  | .slotSilent n => Sys2Proof.Machine.execSlotSilent n s
  | .slotLost n => Sys2Proof.Machine.execSlotLost n s
  | .loopShort current lasted => Sys2Proof.Machine.execLoopShort current lasted s
  | .loopOffTimerExpiry => Sys2Proof.Machine.execLoopOffTimerExpiry s
  | .cleanTimerExpiry => Sys2Proof.Machine.execCleanTimerExpiry s
  | .controlRequestFrame commands => Sys2Proof.Machine.execControlRequestFrame commands s
  | .collectFrame clocked => Sys2Proof.Machine.execCollectFrame clocked s
  | .controlBadFrame bytes => Sys2Proof.Machine.execControlBadFrame bytes s
  | .serviceRequestFrame bytes stopBitError => Sys2Proof.Machine.execServiceRequestFrame bytes stopBitError s
  | .serviceFrameGap => Sys2Proof.Machine.execServiceFrameGap s
  | .serviceReplySent => Sys2Proof.Machine.execServiceReplySent s
  | .controlReplyHoldExpiry => Sys2Proof.Machine.execControlReplyHoldExpiry s
  | .frameProcessingEnd port => Sys2Proof.Machine.execFrameProcessingEnd port s
  | .readCommand port space start step count => Sys2Proof.Machine.execReadCommand port space start step count s
  | .genericWrite port space start step data => Sys2Proof.Machine.execGenericWrite port space start step data s
  | .demandWrite port start step data => Sys2Proof.Machine.execDemandWrite port start step data s
  | .settingsWrite port start step data => Sys2Proof.Machine.execSettingsWrite port start step data s
  | .combustionWrite port start step data => Sys2Proof.Machine.execCombustionWrite port start step data s
  | .restoreFactoryTable value => Sys2Proof.Machine.execRestoreFactoryTable value s
  | .resetRequestWord port value => Sys2Proof.Machine.execResetRequestWord port value s
  | .historyClearWord port value => Sys2Proof.Machine.execHistoryClearWord port value s
  | .noticePop => Sys2Proof.Machine.execNoticePop s
  | .heartbeatWord value => Sys2Proof.Machine.execHeartbeatWord value s
  | .boardExpiredFlagRead => Sys2Proof.Machine.execBoardExpiredFlagRead s
  | .boardExpiredFlagWrite value => Sys2Proof.Machine.execBoardExpiredFlagWrite value s
  | .unlockWord value => Sys2Proof.Machine.execUnlockWord value s
  | .softResetWord port value => Sys2Proof.Machine.execSoftResetWord port value s
  | .counterClear port counter value => Sys2Proof.Machine.execCounterClear port counter value s
  | .trimOffsetWrite ch value => Sys2Proof.Machine.execTrimOffsetWrite ch value s
  | .outputTestRequest channel level duration => Sys2Proof.Machine.execOutputTestRequest channel level duration s
  | .heartbeatTimerExpiry => Sys2Proof.Machine.execHeartbeatTimerExpiry s
  | .brstPulseEnd => Sys2Proof.Machine.execBrstPulseEnd s
  | .storeWriteEnd readsBack => Sys2Proof.Machine.execStoreWriteEnd readsBack s
  | .outputTestTimerExpiry => Sys2Proof.Machine.execOutputTestTimerExpiry s
  | .supplyFailure => Sys2Proof.Machine.execSupplyFailure s
  | .pollSendEnd => Sys2Proof.Machine.execPollSendEnd s
  | .preambleRecognised => Sys2Proof.Machine.execPreambleRecognised s
  | .inboundCurrentStep => Sys2Proof.Machine.execInboundCurrentStep s

end Sys2Proof.Machine
end

