-- ==== Sys2Proof/Machine/Clock.lean ====
section
/-! DEFINITION. Operating time: one tick of the model's 1 ms clock, and the event of the block's own that is due (log entries 4
and 5). The spec times its events and gives no clock a command row; a step on an empty queue takes the event that is due, or
lets 1 ms pass. -/

namespace Sys2Proof.Machine

/-! ### One millisecond -/

/-- R4: the age grows with time, that of a channel that is not fitted too. -/
def NtcRecord.tick (r : NtcRecord) : NtcRecord := { r with age := r.age + 1 }

def Mfe.tick (m : Mfe) : Mfe :=
  { m with
    ntc := ⟨m.ntc.flowA.tick, m.ntc.flowB.tick, m.ntc.ret.tick, m.ntc.dhwOut.tick, m.ntc.dhwIn.tick, m.ntc.flue.tick,
      m.ntc.outdoor.tick⟩
    pressAge := m.pressAge + 1
    circTimer := countdown m.circTimer }

/-- R31: whether the keep-warm burn time counts. -/
def State.burnsKeepwarm (s : State) : Bool :=
  s.dta.plan.mode == .dhw && s.dta.plan.sources == [.keepwarm] && s.bsq.state.gasOpen

def Dta.tick (d : Dta) (burns : Bool) : Dta :=
  { d with
    antiCycle := countdown d.antiCycle
    overrun := d.overrun.map fun x => (x.1, x.2 - 1)
    spacing := countdown d.spacing
    burnTime := if burns then d.burnTime + 1 else d.burnTime
    divLeft := if d.divState.moving then d.divLeft - 1 else d.divLeft }

/-- R77: operating time is credited to the judgement that stands. -/
def Band.tick (b : Band) : Band :=
  if b.inBand then { b with inTime := b.inTime + 1, inRun := b.inRun + 1 }
  else { b with outTime := b.outTime + 1, outRun := b.outRun + 1 }

/-- R97: the states in which burner minutes are counted. -/
def SeqState.burns : SeqState → Bool
  | .stabilise => true
  | .running => true
  | _ => false

def Bsq.tick (b : Bsq) (flameOn : Bool) : Bsq :=
  { b with
    timeIn := b.timeIn + 1
    timer := countdown b.timer
    band := if b.state.keepsBand then b.band.tick else b.band
    strayTime := if flameOn && b.state.supervisesStray then min Config.strayFlameMs (b.strayTime + 1) else b.strayTime
    purgeLeft := b.purgeLeft - 1
    b06Timer := countdown b.b06Timer
    burnerPart := if b.state.burns then b.burnerPart + 1 else b.burnerPart }

/-- R99: the period counter 1 ms on. -/
def ChannelRecord.tick (r : ChannelRecord) (period : Nat) : ChannelRecord :=
  { r with counter := if period = 0 then 0 else (r.counter + 1000) % period }

def CoilRecord.tick (c : CoilRecord) : CoilRecord :=
  { c with pullIn := countdown c.pullIn, nextCheck := countdown c.nextCheck }

def Ocu.tick (o : Ocu) : Ocu :=
  { o with
    fan := o.fan.tick (channelPeriod .fan)
    pump := o.pump.tick (channelPeriod .pump)
    spark := o.spark.tick (channelPeriod .spark)
    gv1 := o.gv1.tick (channelPeriod .gv1)
    gv2 := o.gv2.tick (channelPeriod .gv2)
    coils := ⟨o.coils.gv1.tick, o.coils.gv2.tick⟩
    dtTimer := countdown o.dtTimer
    test := { o.test with timer := countdown o.test.timer } }

def Exchange.tick : Exchange → Exchange
  | .waiting n since => .waiting n (since + 1)
  | .sending n left => .sending n (left - 1)
  | .window n left => .window n (left - 1)
  | x => x

/-- R146, R147, R155: whether the line is idle: no reception, no frame that starts none, and the power back for 20 ms. -/
def Rlc.lineIdle (r : Rlc) : Bool := r.receiving.isNone && !r.foreign && r.offTimer.isNone && r.restoring == 0

/-- R146: the idle stretch 1 ms on; it stops at the 20 ms that a POLL asks for. -/
def Rlc.nextIdle (r : Rlc) : Nat := if r.lineIdle then min Config.pollIdleMs (r.idle + 1) else 0

def Rlc.tick (r : Rlc) : Rlc :=
  { r with
    idle := r.nextIdle
    broken := r.broken && r.nextIdle < Config.frameGapMs
    restoring := r.restoring - 1
    exchange := r.exchange.tick
    offTimer := countdown r.offTimer
    cleanTimer := countdown r.cleanTimer }

def Sto.tick (s : Sto) : Sto :=
  { s with
    startup := countdown s.startup
    inFlight := s.inFlight.map fun w => { w with left := w.left - 1 } }

def ServiceState.tick : ServiceState → ServiceState
  | .sending left => .sending (left - 1)
  | x => x

def ReplyPhase.tick : ReplyPhase → ReplyPhase
  | .ready hold => .ready (hold - 1)
  | .replaced hold => .replaced (hold - 1)
  | x => x

def Prt.tick (p : Prt) : Prt :=
  { p with
    heartbeat := countdown p.heartbeat
    brst := countdown p.brst
    serviceState := p.serviceState.tick
    softReset := p.softReset.map fun r => { r with reply := r.reply.tick } }

/-- R99: whether a channel's period starts at this millisecond. -/
def startsPeriod (now : Nat) : Channel → Bool
  | .spark => now % 40 == 0
  | .fan => true
  | .pump => true
  | .gv1 => true
  | .gv2 => true
  | _ => false

/-- The channels with a period. -/
def periodChannels : List Channel := [.fan, .pump, .spark, .gv1, .gv2]

/-- The channels whose period start at this millisecond changes their record. -/
def State.periodsDue (s : State) (now : Nat) : List Channel :=
  periodChannels.filter fun ch =>
    startsPeriod now ch && (s.ocu.get ch).periodMatters ch s.sto.settings.pumpInverted

/-- The grids of the fan loop (100 ms, R111) and of the poll tick (1 s, R145). -/
def Clock.tick (c : Clock) (periods : List Channel) : Clock :=
  { c with
    now := c.now + 1
    fanStepDue := c.fanStepDue || (c.now + 1) % 100 == 0
    pollTickDue := c.pollTickDue || (c.now + 1) % 1000 == 0
    periodDue := periods }

/-- What 1 ms of operating time does to every timer, age and credited time. -/
def State.pass (s : State) : State :=
  { s with
    mfe := s.mfe.tick
    dta := s.dta.tick s.burnsKeepwarm
    fre := { s.fre with chTimer := countdown s.fre.chTimer }
    bsq := s.bsq.tick s.mfe.flameOn
    ocu := s.ocu.tick
    flt := { s.flt with decay := countdown s.flt.decay }
    rlc := s.rlc.tick
    prt := s.prt.tick
    sto := s.sto.tick
    clock := s.clock.tick (s.periodsDue (s.clock.now + 1)) }

/-- R13: the pressure record is over its age and still holds something that the age takes from it. -/
def State.pressureStale (s : State) : Bool :=
  1000 < s.mfe.pressAge && (!s.isActive .b02 || !s.mfe.pressWindow.isEmpty || s.mfe.pressValue.isSome)

/-- A tick. The age of the pressure record passes its limit in operating time, so it is judged at the tick (R13). -/
def State.tick (s : State) : State :=
  let t := s.pass
  if t.pressureStale then t.pressureFails.settle else t

/-! ### What is due -/

/-- Whether a timer has run out. -/
def ranOut (t : Option Nat) : Bool := t == some 0

/-- The command of a port frame as its row. -/
def commandRow (port : Port) (c : PortCommand) : Instr :=
  match c.body with
  | .inl n => .readCommand port c.space c.start c.step n
  | .inr data =>
    match c.space.toNat with
    | 1 => .demandWrite port c.start c.step data
    | 2 => .settingsWrite port c.start c.step data
    | 3 => .combustionWrite port c.start c.step data
    | _ => .genericWrite port c.space c.start c.step data

/-- The next row of a frame in process: its next command, or its end. -/
def frameRow (port : Port) (f : Frame) : Instr :=
  match f.todo with
  | [] => .frameProcessingEnd port
  | c :: _ => commandRow port c

/-- The row of the sequencer's state timer. -/
def timerRow : SeqState → Option Instr
  | .preCheck => some .preCheckTimerExpiry
  | .safetyTime => some .safetyTimeExpiry
  | .stabilise => some .stabilisationTimeExpiry
  | .postPurge => some .postPurgeTimeExpiry
  | _ => none

/-- R78, R79, R85: the states in which the out-of-band time is limited. -/
def SeqState.limitsOutTime : SeqState → Bool
  | .prePurge => true
  | .ignitionSpeed => true
  | .interPurge => true
  | _ => false

/-- A row that is due where a condition holds. -/
def dueIf (b : Bool) (i : Instr) : Option Instr := if b then some i else none

/-- What the sequencer has due. -/
def State.dueBurner (s : State) : List (Option Instr) :=
  let b := s.bsq
  let t := s.sto.table
  let timeout := secondsMs t.provingTimeout
  [dueIf (!b.tripReports.isEmpty) .tripReport,
   dueIf (!b.refusedOpens.isEmpty) .refusedOpen,
   if ranOut b.timer then timerRow b.state else none,
   dueIf (b.state == .prePurge && secondsMs t.prePurge ≤ b.band.inTime) .prePurgeTimeReached,
   dueIf (b.state == .interPurge && secondsMs t.interPurge ≤ b.band.inTime) .interPurgeTimeReached,
   dueIf (b.state == .ignitionSpeed && Config.ignitionRunMs ≤ b.band.inRun && !s.mfe.flameOn) .ignitionSpeedRunReached,
   dueIf (b.state.limitsOutTime && timeout ≤ b.band.outTime) .fanProvingTimeout,
   dueIf (b.state.gasOpen && timeout ≤ b.band.outRun) .outOfBandRunTimeout,
   dueIf (b.state.supervisesStray && s.mfe.flameOn && Config.strayFlameMs ≤ b.strayTime) .strayFlameTimeLimit,
   dueIf (ranOut b.b06Timer) .b06TimerExpiry,
   dueIf (b.state == .lockout && b.purgeLeft == 0 && b.fanTarget != 0) .lockoutPurgeEnd,
   dueIf (b.state == .idle && b.purgeLeft == 0 && b.fanTarget != 0) .lockoutPurgeRemainderEnd,
   dueIf (b.state.burns && 60000 ≤ b.burnerPart) .burnerMinute]

/-- What the demand table, the firing-rate engine and the measurement front end have due. -/
def State.dueDemand (s : State) : List (Option Instr) :=
  let d := s.dta
  [dueIf (ranOut d.antiCycle) .antiCycleTimerExpiry,
   dueIf (d.table.service.any fun e => e.expiry.any fun t => t ≤ s.clock.now) .serviceEntryExpiry,
   dueIf (ranOut d.spacing) .keepwarmSpacingTimerExpiry,
   dueIf (d.table.keepwarm.isSome && Config.keepwarmBurnMs ≤ d.burnTime) .keepwarmBurnTimeLimit,
   dueIf (ranOut (d.overrun.map (·.2))) .pumpOverrunTimerExpiry,
   dueIf (d.divState.moving && d.divLeft == 0) .diverterMoveEnd,
   dueIf (ranOut s.fre.chTimer) .chComputation,
   dueIf (ranOut s.mfe.circTimer) .b09TimerExpiry]

/-- Whether the pull-in of a gas channel has run out. -/
def Ocu.pullInOver (o : Ocu) (v : GasValve) : Bool :=
  ranOut (o.coils.get v).pullIn && (o.get (valveChannel v)).state == .active
  && (o.get (valveChannel v)).phase == some .pullIn

/-- What the output channel unit and the fault unit have due. -/
def State.dueOutputs (s : State) : List (Option Instr) :=
  [s.clock.periodDue.head?.map .channelPeriodStart,
   dueIf (s.ocu.pullInOver .gv1) (.pullInEnd .gv1),
   dueIf (s.ocu.pullInOver .gv2) (.pullInEnd .gv2),
   dueIf s.clock.fanStepDue .fanLoopStep,
   dueIf (ranOut s.ocu.dtTimer) .pumpDtStepTimerExpiry,
   dueIf (ranOut s.ocu.test.timer) .outputTestTimerExpiry,
   dueIf (ranOut s.flt.decay) .decayTimerExpiry]

/-- What the room loop has due. -/
def State.dueLoop (s : State) : List (Option Instr) :=
  [dueIf (ranOut s.rlc.offTimer) .loopOffTimerExpiry,
   dueIf (ranOut s.rlc.cleanTimer) .cleanTimerExpiry,
   dueIf s.clock.pollTickDue .pollTick,
   match s.rlc.exchange with
   | .waiting _ since =>
     if Config.pollIdleMs ≤ s.rlc.idle then some .pollStart
     else if Config.pollSkipMs ≤ since then some .pollSkip
     else none
   | .sending _ left => dueIf (left == 0) .pollSendEnd
   | .window _ left => dueIf (left == 0) .answerWindowClose
   | _ => none]

/-- Whether the reply hold of a soft reset's control reply has run out. -/
def SoftReset.holdOver (r : SoftReset) : Bool := r.port == .control && (r.reply == .ready 0 || r.reply == .replaced 0)

/-- What the port unit and the store have due. -/
def State.duePorts (s : State) : List (Option Instr) :=
  [dueIf (ranOut s.sto.startup) .startupReadsComplete,
   dueIf (s.sto.inFlight.any fun w => w.left == 0) (.storeWriteEnd true),
   dueIf (60000 ≤ s.clock.now - s.clock.minuteStart) .operatingMinute,
   dueIf (ranOut s.prt.heartbeat) .heartbeatTimerExpiry,
   dueIf (ranOut s.prt.brst) .brstPulseEnd,
   dueIf (s.prt.processing .control) (frameRow .control s.prt.control.frame),
   dueIf (s.prt.processing .service) (frameRow .service s.prt.service.frame),
   dueIf (s.prt.serviceState == .sending 0) .serviceReplySent,
   dueIf (s.prt.softReset.any SoftReset.holdOver) .controlReplyHoldExpiry,
   dueIf s.softResetReady .softResetEffect]

/-- The event that is due: the first of these lists in this order (log entry 4). -/
def State.nextDue (s : State) : Option Instr :=
  (s.dueBurner ++ s.dueOutputs ++ s.dueDemand ++ s.dueLoop ++ s.duePorts).findSome? id

/-- A step on an empty queue: the event that is due, or 1 ms of operating time. A part without supply stands still. -/
def State.idleStep (s : State) : Host.Outcome State Fault Refusal :=
  if s.powered then
    match s.nextDue with
    | some i => exec i s
    | none => .next s.tick
  else .next s

end Sys2Proof.Machine
end

