-- ==== Sys2Proof/Safety.lean ====
section
/-! DEFINITION. The terms in which claims about the KC-4120 are made: what an event's end may write, which records an
operation touches, and the laws that every state of a run obeys. -/

namespace Sys2Proof.Machine

/-! ### Frames -/

/-- The records of State that an operation may write. -/
inductive Block where
  | mfe | dta | fre | bsq | ocu | flt | rlc | prt | sto | clock
  deriving DecidableEq, Repr

/-- Nothing but the records named in the list differs between two states; the supply and the queue never do. -/
structure Touches (l : List Block) (s t : State) : Prop where
  powered : t.powered = s.powered
  pending : t.pending = s.pending
  mfe : .mfe ∉ l → t.mfe = s.mfe
  dta : .dta ∉ l → t.dta = s.dta
  fre : .fre ∉ l → t.fre = s.fre
  bsq : .bsq ∉ l → t.bsq = s.bsq
  ocu : .ocu ∉ l → t.ocu = s.ocu
  flt : .flt ∉ l → t.flt = s.flt
  rlc : .rlc ∉ l → t.rlc = s.rlc
  prt : .prt ∉ l → t.prt = s.prt
  sto : .sto ∉ l → t.sto = s.sto
  clock : .clock ∉ l → t.clock = s.clock

/-- What the end of an event leaves as it was (`State.settle`: R32, R35, R137, R138, R140, R171, R177). The end writes the
heat plan with the detectors behind it, the firing-rate record, the sequencer's state with the outputs that follow it, the
levels of ALARM and ATTN, what the room loop controller is handed, and the store writer. Everything else is as it was. -/
structure EndsFrom (s t : State) : Prop where
  powered : t.powered = s.powered
  pending : t.pending = s.pending
  clock : t.clock = s.clock
  mfe : t.mfe = { s.mfe with blockSum := t.mfe.blockSum, blockCount := t.mfe.blockCount }
  flt : t.flt = { s.flt with alarmActive := t.flt.alarmActive, alarmHigh := t.flt.alarmHigh }
  rlc : t.rlc = { s.rlc with
    planMode := t.rlc.planMode, planRequest := t.rlc.planRequest, lockoutPresent := t.rlc.lockoutPresent,
    displayed := t.rlc.displayed }
  prt : t.prt = { s.prt with attn := t.prt.attn }
  sto : t.sto = { s.sto with dirty := t.sto.dirty, inFlight := t.sto.inFlight }
  table : t.dta.table = { s.dta.table with tap := t.dta.table.tap, keepwarm := t.dta.table.keepwarm }
  frostStage : t.dta.frostStage = s.dta.frostStage
  lines : t.ocu.lines = s.ocu.lines
  bsq : t.bsq.provingFailures = s.bsq.provingFailures ∧ t.bsq.b06Timer = s.bsq.b06Timer
    ∧ t.bsq.pendingCauses = s.bsq.pendingCauses ∧ t.bsq.coilZero = s.bsq.coilZero
    ∧ t.bsq.tripReports = s.bsq.tripReports ∧ t.bsq.refusedOpens = s.bsq.refusedOpens
    ∧ t.bsq.coilReport = s.bsq.coilReport ∧ t.bsq.burnerPart = s.bsq.burnerPart

/-- How a command's effect ends: from the state `u` that the command's own effect gives, the event's end leads to `t`. -/
structure Follows (u t : State) : Prop where
  settled : t = u.settle
  ends : EndsFrom u t

/-! ### Faults, read -/

/-- R120, R121: a key that enters the active fault set: the set with the key in its place, its notice, and no other field of
the fault unit's record but the history; nothing at all where the key was in the set. -/
structure EntersKey (k : FaultKey) (s t : State) : Prop where
  touches : Touches [.flt, .prt, .sto] s t
  active : t.flt.active = if s.isActive k then s.flt.active else addKey s.flt.active k
  flt : t.flt = { s.flt with
    active := t.flt.active, ring := t.flt.ring, early := t.flt.early, lastCreation := t.flt.lastCreation }
  notice : t.prt = if s.isActive k then s.prt else s.prt.post (.raised k)
  sto : t.sto = { s.sto with dirty := t.sto.dirty }
  ignored : s.isActive k = true → t = s

/-- R120, R121: a key that leaves the active fault set; nothing at all where the key was not in the set. -/
structure LeavesKey (k : FaultKey) (s t : State) : Prop where
  touches : Touches [.flt, .prt, .sto] s t
  active : t.flt.active = dropKey s.flt.active k
  flt : t.flt = { s.flt with active := t.flt.active, ring := t.flt.ring, early := t.flt.early }
  notice : t.prt = if s.isActive k then s.prt.post (.cleared k) else s.prt
  sto : t.sto = { s.sto with dirty := t.sto.dirty }
  ignored : s.isActive k = false → t = s

/-- R93, R94, R95, R122: a locking fault `k` begins a lockout and the sequencer enters LOCKOUT: what is recorded, where the
purge and the fan go, and the records that take part. -/
structure LocksOut (k : FaultKey) (s t : State) : Prop where
  touches : Touches [.mfe, .dta, .fre, .bsq, .ocu, .flt, .prt, .sto] s t
  lockout : t.flt.lockout = some ⟨k, s.bsq.state, s.bsq.attempts, s.minute⟩
  active : t.isActive k = true
  conditions : t.flt.conditions = s.flt.conditions ∧ t.flt.resetCounter = s.flt.resetCounter ∧ t.flt.decay = s.flt.decay
  state : t.bsq.state = .lockout
  purge : t.bsq.purgeLeft = if s.bsq.gasOpened then secondsMs s.sto.table.postPurge else 0
  fan : t.bsq.fanTarget = if t.bsq.purgeLeft = 0 then 0 else s.sto.table.postPurgeSpeed.toNat
  gas : t.bsq.gasOpen = false ∧ t.ocu.gv1.state ≠ .active ∧ t.ocu.gv2.state ≠ .active
  spark : t.bsq.spark = false ∧ t.ocu.spark.state ≠ .active
  service : t.dta.table = { s.dta.table with service := none }
  test : t.ocu.test.timer = none
  lines : t.ocu.lines = s.ocu.lines
  mfe : t.mfe = { s.mfe with blockSum := t.mfe.blockSum, blockCount := t.mfe.blockCount }
  sto : t.sto = { s.sto with dirty := t.sto.dirty }
  dirty : .lockout ∈ t.sto.dirty ∧ .counters ∈ t.sto.dirty

/-- R68, R70 to R72: the sequencer enters the state `q` from another: its state timer, its fan target, no gas outside the
three gas states and no spark outside SAFETY-TIME; nothing of the other blocks but what follows a change of state. -/
structure EntersState (q : SeqState) (s t : State) : Prop where
  touches : Touches [.mfe, .dta, .fre, .bsq, .ocu] s t
  ends : EndsFrom s t
  state : t.bsq.state = q
  timeIn : t.bsq.timeIn = 0
  gas : q.gasOpen = false → t.bsq.gasOpen = false ∧ t.ocu.gv1.state ≠ .active ∧ t.ocu.gv2.state ≠ .active
  spark : q ≠ .safetyTime → t.bsq.spark = false ∧ t.ocu.spark.state ≠ .active
  fan : t.ocu.fan.owner = .fanTarget t.bsq.fanTarget

/-! ### Port commands -/

/-- R160: the frame of a port takes one more command: it is the sixteenth at most, and none before it was BAD-COMMAND. -/
def Frame.Takes (f : Frame) : Prop := f.skipping = false ∧ f.taken < 16

/-- R161, R162: a command of a port is answered with this status and these bytes after it; the port's pointer for the space
stands at `next`, and the other port's record is as it was. -/
structure Answers (p : Port) (space : BitVec 3) (next : Nat) (status : Status) (bytes : List Byte) (s t : State) : Prop where
  body : (t.prt.portRecord p).frame.body = (s.prt.portRecord p).frame.body ++ status.code :: bytes
  pointers : (t.prt.portRecord p).pointers
    = (s.prt.portRecord p).pointers.set space.toNat (BitVec.ofNat 16 next)
  taken : (t.prt.portRecord p).frame.taken = (s.prt.portRecord p).frame.taken + 1
  other : ∀ q, q ≠ p → t.prt.portRecord q = s.prt.portRecord q

/-- R162, R172: a command of one word counts a DENIED or NO-UNLOCK among the denied, a VALUE among the write errors, and leaves
the other counters. -/
def Counts (p : Port) (status : Status) (s t : State) : Prop :=
  let c := (s.prt.portRecord p).counters
  (t.prt.portRecord p).counters = { c with
    denied := if status = .denied ∨ status = .noUnlock then min 65535 (c.denied + 1) else c.denied
    writeErrors := if status = .value then min 65535 (c.writeErrors + 1) else c.writeErrors }

/-- R177: an item has been marked dirty: it waits in the dirty set, or its write has begun. -/
def Marked (i : StoreItem) (t : State) : Prop :=
  i ∈ t.sto.dirty ∨ ∃ w, t.sto.inFlight = some w ∧ w.image.item = i

/-! ### Events without their cause (log entry 3) -/

/-- R9, R11, R16, R21, R28, R38, R42, R44, R55, R76 to R90, R97, R100 to R105, R114, R117, R118, R125, R141 to R159, R168,
R173 to R189: whether a command finds nothing in this state that it could act on: a timer that does not run, a state that does
not know the event, a report that does not wait, a pulse that is too short. -/
def State.lacksCause (s : State) : Instr → Bool
  | .channelOpenOrShort ch _ => (ntcGet s.mfe.ntc ch).status == .notFitted
  | .flowPairCountExpiry => !s.mfe.pairArmed
  | .noCirculationCountExpiry => s.mfe.circTimer.isSome
  | .b09TimerExpiry => s.mfe.circTimer.isNone
  | .flameProved => s.mfe.flameOn
  | .flameLost => !s.mfe.flameOn
  | .weakFlameBlockEnd => s.bsq.state != .running || s.mfe.blockCount == 0
  | .a08GoodGateCount => !s.isActive .a08
  | .tapStart => s.dta.asks .tap || !s.tapEnabled
  | .tapStop => !s.dta.asks .tap
  | .antiCycleTimerExpiry => s.dta.antiCycle.isNone
  | .serviceEntryExpiry => !s.dta.table.service.any fun e => e.expiry.isSome
  | .keepwarmSpacingTimerExpiry => s.dta.spacing.isNone
  | .keepwarmBurnTimeLimit => s.dta.table.keepwarm.isNone
  | .pumpOverrunTimerExpiry => s.dta.overrun.isNone
  | .diverterMoveEnd => !s.dta.divState.moving
  | .chComputation => s.fre.chTimer.isNone
  | .preCheckTimerExpiry => s.bsq.state != .preCheck
  | .prePurgeTimeReached => s.bsq.state != .prePurge
  | .fanProvingTimeout => !s.bsq.state.limitsOutTime
  | .ignitionSpeedRunReached => s.bsq.state != .ignitionSpeed || s.mfe.flameOn
  | .safetyTimeExpiry => s.bsq.state != .safetyTime
  | .stabilisationTimeExpiry => s.bsq.state != .stabilise
  | .interPurgeTimeReached => s.bsq.state != .interPurge
  | .outOfBandRunTimeout => !s.bsq.state.gasOpen
  | .postPurgeTimeExpiry => s.bsq.state != .postPurge
  | .strayFlameTimeLimit => !s.bsq.state.supervisesStray || !s.mfe.flameOn
  | .b06TimerExpiry => s.bsq.b06Timer.isNone
  | .lockoutPurgeEnd => s.bsq.state != .lockout
  | .lockoutPurgeRemainderEnd => s.bsq.state != .idle
  | .tripReport => s.bsq.tripReports.isEmpty
  | .refusedOpen => s.bsq.refusedOpens.isEmpty
  | .burnerMinute => !s.bsq.state.burns
  | .tripLineActive line lowFor => lowFor < 20 || s.ocu.lines.get line
  | .tripLineInactive line highFor => highFor < 20 || !s.ocu.lines.get line
  | .channelPeriodStart ch => channelPeriod ch == 0
  | .pullInEnd v => (s.ocu.get (valveChannel v)).state != .active || (s.ocu.get (valveChannel v)).phase != some .pullIn
  | .coilCheckHold v _ => (s.ocu.get (valveChannel v)).state != .active || (s.ocu.get (valveChannel v)).phase != some .hold
  | .coilCheckIdle v _ => (s.ocu.get (valveChannel v)).state != .idle && (s.ocu.get (valveChannel v)).state != .tripped
  | .pumpDtStepTimerExpiry => s.ocu.dtTimer.isNone
  | .outputTestTimerExpiry => s.ocu.test.timer.isNone
  | .decayTimerExpiry => s.flt.decay.isNone
  | .pollStart => match s.rlc.exchange with | .waiting _ _ => false | _ => true
  | .pollSkip => match s.rlc.exchange with | .waiting _ _ => false | _ => true
  | .pollSendEnd => match s.rlc.exchange with | .sending _ _ => false | _ => true
  | .answerWindowClose => match s.rlc.exchange with | .window _ _ => false | _ => true
  | .preambleRecognised =>
    s.rlc.offTimer.isSome || s.rlc.receiving.isSome || (match s.rlc.exchange with | .sending _ _ => true | _ => false)
  | .receiveByte _ => s.rlc.receiving.isNone
  | .codeViolation => s.rlc.receiving.isNone
  | .onTimeRunComplete => !s.isActive .a10
  | .slotSilent n => (s.rlc.slots.get n).state != .bound
  | .slotLost n => (s.rlc.slots.get n).state != .silent
  | .loopShort current lasted => current ≤ 60 || lasted < 5 || s.rlc.offTimer.isSome
  | .loopOffTimerExpiry => s.rlc.offTimer.isNone
  | .cleanTimerExpiry => s.rlc.cleanTimer.isNone
  | .collectFrame clocked => clocked == 0
  | .controlBadFrame bytes => !badControlFrame bytes
  | .serviceFrameGap => s.prt.receiver == .idle
  | .serviceReplySent => match s.prt.serviceState with | .sending _ => false | _ => true
  | .controlReplyHoldExpiry =>
    s.prt.softReset.all fun r =>
      r.port != .control || (match r.reply with | .ready _ => false | .replaced _ => false | _ => true)
  | .frameProcessingEnd p => !s.prt.processing p
  | .heartbeatTimerExpiry => s.prt.heartbeat.isNone
  | .brstPulseEnd => s.prt.brst.isNone
  | .storeWriteEnd _ => s.sto.inFlight.isNone
  | .startupReadsComplete => s.sto.startup.isNone
  | _ => false

/-! ### Laws of every state of a run -/

/-- R70, R71: the gas is commanded open exactly in SAFETY-TIME, STABILISE and RUNNING, the spark exactly in SAFETY-TIME, where
the flame is OFF, and no gas channel and no spark is ACTIVE anywhere else. R41: with the gas commanded open the pump runs.
R88: without a burner request the sequencer stands in a state that needs none. R75: PRE-CHECK lasts only while a condition of
it is unmet. -/
structure BurnerLaw (s : State) : Prop where
  gasFlag : s.bsq.gasOpen = s.bsq.state.gasOpen
  sparkFlag : s.bsq.spark = (s.bsq.state == .safetyTime)
  gv1 : s.ocu.gv1.state = .active → s.bsq.state.gasOpen = true
  gv2 : s.ocu.gv2.state = .active → s.bsq.state.gasOpen = true
  spark : s.ocu.spark.state = .active → s.bsq.state = .safetyTime
  flame : s.bsq.state = .safetyTime → s.mfe.flameOn = false
  pump : s.bsq.state.gasOpen = true → s.dta.plan.pump ≠ .off
  request : s.dta.plan.request = false → s.bsq.state ∈ [.startCheck, .idle, .postPurge, SeqState.lockout]
  preCheck : s.bsq.state = .preCheck → s.preCheckDone = false

/-- R106, R108: while any trip line is active, SPARK, GV1 and GV2 are TRIPPED and none of them waits for a re-arm. -/
def TripLaw (s : State) : Prop :=
  s.ocu.lines.nonempty = true →
    (s.ocu.spark.state = .tripped ∧ s.ocu.spark.rearmPending = false)
    ∧ (s.ocu.gv1.state = .tripped ∧ s.ocu.gv1.rearmPending = false)
    ∧ (s.ocu.gv2.state = .tripped ∧ s.ocu.gv2.rearmPending = false)

/-- R73, R95, R122, R129: the start-up reads are awaited exactly in START-CHECK; a lockout stands in LOCKOUT and, beside it,
only in START-CHECK. -/
structure LockoutLaw (s : State) : Prop where
  startup : s.sto.startup.isSome = (s.bsq.state == .startCheck)
  held : s.bsq.state = .lockout → s.locked = true
  only : s.locked = true → s.bsq.state = .lockout ∨ s.bsq.state = .startCheck

/-- R120: the active fault set is in code order without repeats, and its one locking key is the cause of the lockout that
stands. -/
structure ActiveLaw (s : State) : Prop where
  order : s.flt.active.Sublist allKeys
  cause : ∀ k ∈ s.flt.active, keyClass k = .locking → s.flt.lockout.map Lockout.cause = some k
  held : ∀ l, s.flt.lockout = some l → keyClass l.cause = .locking ∧ l.cause ∈ s.flt.active

/-- R51: outside RUNNING the last rate is 0, no mode is served, the CH interval timer is stopped and there is no limiting
reason. -/
def RateLaw (s : State) : Prop :=
  s.bsq.state ≠ .running →
    s.fre.lastRate = 0 ∧ s.fre.served = .none ∧ s.fre.chTimer = none ∧ s.fre.reason = .none

/-- R69, R180: the table in use is valid, or the part is in START-CHECK, or it is locked out with F09 and the table's locking
condition stands. -/
structure TableLaw (s : State) : Prop where
  valid : s.sto.tableValid = true → s.sto.table.valid = true
  invalid : s.sto.tableValid = false → s.bsq.state = .startCheck ∨
    (s.bsq.state = .lockout ∧ s.flt.lockout.map Lockout.cause = some .f09 ∧ s.flt.conditions.table = true)

/-- R62: in RUNNING the caps in force are those of the measurements as they stand, and the last rate lies from rmin to the
least of them, or stands at rmin where that cap is lower. -/
structure RateBoundLaw (s : State) : Prop where
  caps : s.bsq.state = .running → s.fre.caps = s.formedCaps
  floor : s.bsq.state = .running → s.sto.table.rmin ≤ s.fre.lastRate
  cap : s.bsq.state = .running → s.fre.lastRate ≤ max s.sto.table.rmin s.formedCaps.least

/-- R32, R33, R35, R40, R44: the heat plan's mode, sources, CH target, DHW setpoint, diverter target and scope are what the
demand table, the settings and the active fault set make of them, the burner request is never yes in a scope that forbids it
or without a mode, and the room loop controller holds the plan's mode and request. -/
structure PlanLaw (s : State) : Prop where
  mode : s.dta.plan.mode = s.chooseMode
  sources : s.dta.plan.sources = s.sourcesFor s.chooseMode
  scope : s.dta.plan.scope = s.scopeInForce
  request : s.dta.plan.request = true → s.scopeInForce.allows = true ∧ s.chooseMode ≠ .none
  loop : s.rlc.planMode = s.dta.plan.mode ∧ s.rlc.planRequest = s.dta.plan.request
  target : s.dta.plan.target = s.targetFor s.chooseMode
  dhwSetpoint : s.dta.plan.dhwSetpoint
    = if s.chooseMode = .dhw ∧ s.sourcesFor .dhw = [.keepwarm] then 550 else s.sto.settings.dhwSetpoint
  diverter : (s.chooseMode = .dhw → s.dta.plan.diverter = .dhw)
    ∧ (s.chooseMode = .ch ∨ s.chooseMode = .service → s.dta.plan.diverter = .ch)

/-- R41: the row of the pump table that the part stands in. -/
def State.pumpRowNow (s : State) : PumpRow :=
  pumpRow s.dta.divState s.bsq.state s.dta.plan.mode s.dta.plan.scope s.dta.plan.request s.dta.dhwPause
    s.dta.overrun.isSome s.dta.frostStage

/-- R34, R41: the pump request is that of the first row of the pump table that applies, and a zone is open where a requesting
entry asks for it; both are where none is asked for and the pump runs for a CH overrun or for the frost stage. -/
structure PumpLaw (s : State) : Prop where
  pump : s.dta.plan.pump = pumpFor s.dta.plan.mode s.pumpRowNow
  zones : let both := !s.dta.zoneAsked .zone1 && !s.dta.zoneAsked .zone2
      && (s.pumpRowNow == .frost || (s.pumpRowNow == .overrun && chOverrunRuns s.dta.overrun))
    s.dta.plan.zone1 = (s.dta.zoneAsked .zone1 || both) ∧ s.dta.plan.zone2 = (s.dta.zoneAsked .zone2 || both)

/-- R36, R38, R40: in mode CH and a scope that allows the burner, the request is no from the off point up, and yes from the on
point down while no anti-cycle timer runs. -/
structure RequestLaw (s : State) : Prop where
  off : ∀ f x, s.dta.plan.mode = .ch → s.flow = some f → s.dta.plan.target = some x →
    x + s.sto.settings.offDifferential ≤ f → s.dta.plan.request = false
  on : ∀ f x, s.dta.plan.mode = .ch → s.scopeInForce.allows = true → s.flow = some f → s.dta.plan.target = some x →
    f ≤ x - s.sto.settings.onDifferential → s.dta.antiCycle = none → s.dta.plan.request = true

/-- R24, R27: a BOARD entry stands only under supervision, and a ROOM entry only while its slot is BOUND or SILENT, held
exactly in SILENT. -/
structure EntryLaw (s : State) : Prop where
  board : s.dta.table.board.isSome = true → s.prt.heartbeat.isSome = true
  room : ∀ n e, s.dta.table.room.get n = some e →
    ((s.rlc.slots.get n).state = .bound ∨ (s.rlc.slots.get n).state = .silent)
      ∧ (e.held = true ↔ (s.rlc.slots.get n).state = .silent)

/-- R166: a staged copy exists only while the service port processes a frame. -/
def StagedLaw (s : State) : Prop := s.prt.staged.isSome = true → s.prt.serviceState = .processing

/-- R177: the write in flight carries its item's contents as they stand, or the item has been marked dirty again. -/
def WriterLaw (s : State) : Prop :=
  ∀ w, s.sto.inFlight = some w → w.image = s.imageOf w.image.item ∨ w.image.item ∈ s.sto.dirty

/-- A STEADY channel carries this owner command, and acts on it while no output test forces it (R100, R104, R115). -/
structure SteadyFollows (r : ChannelRecord) (energised : Bool) : Prop where
  owner : r.owner = .steady energised
  state : r.testLevel = none → r.state = if energised then .active else .idle

/-- R72, R113, R115: the owner commands of FAN, PUMP, DIVERTER and the zones are the sequencer's fan target, the plan's pump
request, the diverter record's drive and the plan's zone set. -/
structure OwnerLaw (s : State) : Prop where
  fan : s.ocu.fan.owner = .fanTarget s.bsq.fanTarget
  pump : s.ocu.pump.owner = .pumpRequest s.dta.plan.pump
  diverter : SteadyFollows s.ocu.diverter s.dta.divState.energised
  zone1 : SteadyFollows s.ocu.zone1 s.dta.plan.zone1
  zone2 : SteadyFollows s.ocu.zone2 s.dta.plan.zone2

/-- R137, R140: ALARM is at its active level exactly while a lockout stands or START-CHECK lasts, and the room loop
controller holds the lockout-present flag and the displayed key, no and none until the start-up reads have been taken. -/
structure AlarmLaw (s : State) : Prop where
  alarm : s.flt.alarmActive = true ↔ s.locked = true ∨ s.bsq.state = .startCheck
  present : s.rlc.lockoutPresent = (s.sto.startup.isNone && s.locked)
  displayed : s.rlc.displayed = if s.sto.startup.isNone then s.flt.displayedKey else none

/-- R171: ATTN is high exactly while more notices are held than the ATTN level or a lockout stands, and low until the
start-up reads have been handed over. -/
def AttnLaw (s : State) : Prop :=
  s.prt.attn = true ↔
    s.sto.startup = none ∧ (s.sto.settings.attnLevel < (s.prt.notices.length : Int) ∨ s.locked = true)

/-- R1 to R3: a channel's window holds 8 readings at most, and the value is absent while it holds fewer and while the status
is not OK. -/
structure NtcRecord.Sound (r : NtcRecord) : Prop where
  window : r.window.length ≤ 8
  short : r.window.length < 8 → r.value = none
  status : r.status ≠ .ok → r.value = none

/-- R1 to R3, R13: every channel record is sound; the pressure window holds 4 readings at most, and the pressure is absent
while it holds fewer and while b02 is raised. -/
structure MeasureLaw (s : State) : Prop where
  ntc : ∀ ch, (ntcGet s.mfe.ntc ch).Sound
  window : s.mfe.pressWindow.length ≤ 4
  short : s.mfe.pressWindow.length < 4 → s.mfe.pressValue = none
  b02 : s.isActive .b02 = true → s.mfe.pressValue = none

/-- The sizes that the spec fixes: 16 notices (R170), 32 history slots in the part and in the store (R131), a FIFO of 32
bytes (R148) and a reset counter of 5 at most (R125). -/
structure SizeLaw (s : State) : Prop where
  notices : s.prt.notices.length ≤ 16
  ring : s.flt.ring.length = 32
  history : s.sto.nv.history.length = 32
  fifo : s.rlc.fifo.length ≤ 32
  counter : s.flt.resetCounter ≤ 5

/-- A port's counters are words (R172). -/
structure PortCounters.Small (c : PortCounters) : Prop where
  frames : c.frames ≤ 65535
  badFrames : c.badFrames ≤ 65535
  badCommands : c.badCommands ≤ 65535
  denied : c.denied ≤ 65535
  writeErrors : c.writeErrors ≤ 65535
  overruns : c.overruns ≤ 65535

/-- R172: the counters of both ports stay within a word. -/
def CounterLaw (s : State) : Prop := s.prt.control.counters.Small ∧ s.prt.service.counters.Small

/-! ### Invariants of a run -/

/-- A property that one step carries from every state that has it to the next. -/
def KeptByStep (P : State → Prop) : Prop := ∀ s t : State, P s → step s = .next t → P t

end Sys2Proof.Machine
end

