-- ==== Sys2Proof/Certificates/Slice0/Obligations.lean ====
section
/-! DEFINITION. The statements for the provers about the KC-4120: the laws of a run, the rules of the whole machine, and for
every command what it does and what it leaves alone. `Follows u t` (Safety.lean) says that `t` is what the end of an event
makes of `u`, the state that the command's own effect gives; `EndsFrom`, which it carries, is the frame of that end. -/

section
open Sys2Proof Sys2Proof.Machine

/-! ### A step, and the laws of every run -/

/-- One step with command `c` at the front of the queue is `exec c` on the state with the queue's rest. -/
def Obligations.StepRunsTheFrontCommand : Prop :=
  ∀ (s : State) (c : Instr) (rest : List Instr),
    step { s with pending := c :: rest } = exec c { s with pending := rest }

/-- On an empty queue the block takes the event that is due in its own time, or lets 1 ms pass, and a part without supply
stands still. The model's choice (log entry 4): the spec gives its events their times and no clock command. -/
def Obligations.EmptyQueueFollowsOwnTime : Prop :=
  ∀ s : State, s.pending = [] →
    (s.powered = false → step s = .next s) ∧
    (s.powered = true → ∀ c, s.nextDue = some c → step s = exec c s) ∧
    (s.powered = true → s.nextDue = none →
      ∃ t, step s = .next t ∧ t.clock.now = s.clock.now + 1 ∧ t.pending = []
        ∧ t.bsq.timeIn ≤ s.bsq.timeIn + 1 ∧ t.sto.nv = s.sto.nv ∧ t.sto.settings = s.sto.settings
        ∧ t.flt.lockout = s.flt.lockout)

/-- Every law of a run holds right after the first power-on. -/
def Obligations.EveryLawHoldsAtReset : Prop :=
  BurnerLaw State.reset ∧ TripLaw State.reset ∧ LockoutLaw State.reset ∧ ActiveLaw State.reset ∧ RateLaw State.reset
    ∧ TableLaw State.reset ∧ RateBoundLaw State.reset
    ∧ PlanLaw State.reset ∧ State.reset.sto.settings.inRange = true ∧ RequestLaw State.reset ∧ PumpLaw State.reset
    ∧ OwnerLaw State.reset ∧ AlarmLaw State.reset ∧ AttnLaw State.reset ∧ MeasureLaw State.reset
    ∧ SizeLaw State.reset ∧ CounterLaw State.reset ∧ EntryLaw State.reset ∧ StagedLaw State.reset ∧ WriterLaw State.reset

/-- R70, R71: no step leaves the gas commanded open outside SAFETY-TIME, STABILISE and RUNNING, or the spark triggered outside
SAFETY-TIME, where the flame is OFF. R41: while the gas is commanded open, the pump is commanded on. R88: without a burner
request the sequencer is left in START-CHECK, IDLE, POST-PURGE or LOCKOUT, so that a withdrawn request has closed the gas by
the end of its event. R75: PRE-CHECK lasts only while one of its conditions is unmet. -/
def Obligations.GasAndSparkOnlyInTheirStates : Prop := KeptByStep BurnerLaw

/-- R106, R108: while any trip line is active, no step takes SPARK, GV1 or GV2 out of TRIPPED or leaves a re-arm pending. -/
def Obligations.ActiveLineKeepsGasTripped : Prop := KeptByStep TripLaw

/-- R73, R95, R96, R122, R129: LOCKOUT and a held lockout go together, and the start-up reads are awaited exactly in
START-CHECK. R120: the active fault set stays in code order without repeats, and its one locking key is the lockout's cause. -/
def Obligations.LockoutAndActiveSetAgree : Prop :=
  (KeptByStep LockoutLaw) ∧
  (KeptByStep ActiveLaw)

/-- R51: outside RUNNING there is no last rate, no served mode, no running CH interval timer and no limiting reason. R62: in
RUNNING the caps in force are those of the measurements, and the last rate lies from rmin to the least cap, or at rmin where
that cap is lower. R69, R180: the table in use is valid, or the part is in START-CHECK or locked out with F09. -/
def Obligations.NoRateOutsideRunning : Prop :=
  (KeptByStep RateLaw) ∧
  (KeptByStep fun s => TableLaw s ∧ RateBoundLaw s)

/-- R32, R33, R35, R40, R44: after every step the heat plan's mode, sources, CH target, DHW setpoint, diverter target and
scope are the ones that the demand table, the settings and the active fault set give. R34, R41: its pump request is that of
the first row of the pump table that applies, and its zone set is the one that the requesting entries ask for. R36, R38: in
mode CH its burner request is no from the off point up, and yes from the on point down with no anti-cycle timer. The last two
hold with settings in their ranges, which every step keeps. R52, R53, R54: after every command but a supply failure and a soft
reset, each CH-class entry has the target of its flow request, else of the weather curve on a fitted and faultless outdoor
value, else CH flow max, with the room influence and within CH flow min and max; that an outdoor channel faulty by its age
alone counts from the next event on is the model's choice (log entry 67). -/
def Obligations.HeatPlanFollowsTheTable : Prop :=
  (KeptByStep PlanLaw) ∧
  (KeptByStep fun s => s.sto.settings.inRange = true ∧ RequestLaw s ∧ PumpLaw s) ∧
  (∀ (c : Instr) (s t : State) (src : Source) (e : Entry), s.powered = true → c ≠ .supplyFailure → c ≠ .softResetEffect →
    exec c s = .next t → src ∈ chSources → t.dta.table.get src = some e →
    let set := t.sto.settings
    let outdoor := if set.outdoorFitted && !(ntcGet t.mfe.ntc .outdoor).faulty then (ntcGet t.mfe.ntc .outdoor).value else none
    let room := match e.roomPair with | some p => p.setpoint | none => set.defaultRoom
    let base := match e.flowRequest, outdoor with
      | some f, _ => f
      | none, some out => room + divz (set.curveSlope * (room - out)) 10 + set.curveShift
      | none, none => set.chFlowMax
    let influence := match e.roomPair with
      | some p => divz (set.roomInfluence * (p.setpoint - p.actual)) 10
      | none => 0
    t.fre.targets.get src = some (clampInt set.chFlowMin set.chFlowMax (base + influence)))

/-- R72, R113, R115: after every step FAN, PUMP, DIVERTER and the zones carry their owners' commands. -/
def Obligations.OutputsCarryOwnerCommands : Prop := KeptByStep OwnerLaw

/-- R137, R140: after every step ALARM is active exactly while a lockout stands or START-CHECK lasts; the room loop controller
holds the lockout-present flag and the displayed key, which are no and none until the start-up reads have been taken. -/
def Obligations.AlarmFollowsTheLockout : Prop := KeptByStep AlarmLaw

/-- R171: after every step ATTN is high exactly while more notices are held than its level or a lockout stands, and is low
until the start-up reads have been handed over. -/
def Obligations.AttnFollowsTheNotices : Prop := KeptByStep AttnLaw

/-- R1 to R3, R13, R125, R131, R148, R170, R172: windows and every bounded record stay within their sizes, and a measured
value is absent while its window is not full, step after step. R24, R27, R166: a BOARD entry stands only under supervision, a
ROOM entry only while its slot is BOUND or SILENT, held exactly in SILENT, and a staged copy only while the service port
processes a frame. -/
def Obligations.RecordsStaySoundAndInSize : Prop :=
  (KeptByStep MeasureLaw) ∧
  (KeptByStep fun s => SizeLaw s ∧ CounterLaw s) ∧
  (KeptByStep EntryLaw) ∧
  (KeptByStep StagedLaw)

/-! ### Rules of the whole machine -/

/-- Every command answers a next state in every state, leaves the queue as it is, and without supply every command but
POWER_ON_RESET leaves the part as it is (log entries 2 and 6: the model's reading). -/
def Obligations.EveryCommandCompletes : Prop :=
  ∀ (c : Instr) (s : State), ∃ t, exec c s = .next t ∧ t.pending = s.pending
    ∧ (s.powered = false → c ≠ .powerOnReset → t = s)

/-- R174, R177, R181: the non-volatile blocks change at the end of a write, at a supply failure and at a reset that cuts a
write short, and by no other command; the factory trim block is never written. -/
def Obligations.StoreChangesOnlyByWrites : Prop :=
  ∀ (c : Instr) (s t : State), exec c s = .next t →
    t.sto.nv.trim = s.sto.nv.trim ∧
    ((∀ b, c ≠ .storeWriteEnd b) → c ≠ .supplyFailure → c ≠ .powerOnReset → c ≠ .pinReset → t.sto.nv = s.sto.nv)

/-- R123, R127, R129: a lockout ends only in a command that can carry a reset request, or in a reset of the part: a reset
request word, a generic write, the rest of a frame, a REPORT, or one of the three resets. That the request it carries is an
accepted one is not said here. -/
def Obligations.LockoutEndsOnlyByReset : Prop :=
  ∀ (c : Instr) (s t : State), exec c s = .next t → s.locked = true → t.locked = false →
    (∃ p v, c = .resetRequestWord p v) ∨ (∃ p x a b d, c = .genericWrite p x a b d) ∨ (∃ p, c = .frameProcessingEnd p)
      ∨ c = .inboundFrameEnd ∨ c = .powerOnReset ∨ c = .pinReset ∨ c = .softResetEffect

/-- R3, R9, R11, R16, R17, R21, R26, R28, R30, R31, R38, R42, R44, R55, R76 to R90, R97, R102, R105, R114, R117, R118, R125,
R141, R146 to R155, R156, R158, R159, R167, R168, R173, R175, R177, R189: an event that comes without its cause does nothing
but let the event end, whatever its operands: a channel that is not fitted, a timer that does not run, a state that does not
know the event, a report that does not wait, a coil in another phase, a pulse that is too short (`State.lacksCause` lists
them). The model's reading of the table's effect "none" (log entry 3). -/
def Obligations.EventsWithoutTheirCauseDoNothing : Prop :=
  ∀ (s : State) (c : Instr), s.powered = true → s.lacksCause c = true → ∃ t, exec c s = .next t ∧ Follows s t

end

section
open Sys2Proof Sys2Proof.Machine

/-! ### Resets, the supply and the start-up reads -/

/-- POWER_ON_RESET in any state, PIN_RESET while the supply is there: these values of the spec, block by block. With no write
in flight the non-volatile blocks stand; what a reset does to a write in flight is the model's choice (log entry 35), and
nothing is said of it here. -/
def Obligations.ResetLeavesTheSpecValues : Prop :=
  ∀ (s : State) (c : Instr), c = .powerOnReset ∨ (c = .pinReset ∧ s.powered = true) →
    ∃ t, exec c s = .next t ∧ t.powered = true ∧ t.pending = s.pending
      ∧ (s.sto.inFlight = none → t.sto.nv = s.sto.nv)
      ∧ (t.bsq.state = .startCheck ∧ t.bsq.fanTarget = 0 ∧ t.bsq.gasOpen = false ∧ t.bsq.spark = false
        ∧ t.bsq.provingFailures = 0 ∧ t.bsq.pendingCauses = [] ∧ t.bsq.b06Timer = none ∧ t.bsq.burnerPart = 0)
      ∧ (∀ ch, (ntcGet t.mfe.ntc ch).window = [] ∧ (ntcGet t.mfe.ntc ch).value = none ∧ (ntcGet t.mfe.ntc ch).age = 0
        ∧ (ntcGet t.mfe.ntc ch).badRun = 0 ∧ (ch ≠ .outdoor → (ntcGet t.mfe.ntc ch).status = .ok))
      ∧ (t.mfe.pressWindow = [] ∧ t.mfe.pressValue = none ∧ t.mfe.flameOn = false ∧ t.mfe.tapFlow = 0 ∧ t.mfe.fanSpeed = 0
        ∧ t.mfe.pairArmed = true ∧ t.mfe.flueArmed = true ∧ t.mfe.circTimer = none ∧ t.mfe.strapHigh = false)
      ∧ (∀ src, src ≠ .tap → t.dta.table.get src = none)
      ∧ (t.dta.asks .tap = false ∧ t.dta.plan.mode = .none ∧ t.dta.plan.request = false ∧ t.dta.antiCycle = none
        ∧ t.dta.overrun = none ∧ t.dta.spacing = some 1200000 ∧ t.dta.frostStage = false ∧ t.dta.dhwPause = false
        ∧ t.dta.divState = .movingToCh ∧ t.dta.divLeft = 8000 ∧ t.dta.homing = true)
      ∧ (t.fre.lastRate = 0 ∧ t.fre.served = .none ∧ t.fre.chI = 0 ∧ t.fre.dhwI = 0 ∧ t.fre.chTimer = none)
      ∧ (∀ ch, ch ≠ .pump → (t.ocu.get ch).state = .idle ∧ (t.ocu.get ch).duty = 0)
      ∧ (t.ocu.lines = ⟨false, false, false⟩ ∧ t.ocu.test.timer = none)
      ∧ (t.flt.active = [] ∧ t.flt.lockout = none ∧ t.flt.alarmActive = true ∧ t.flt.decay = none)
      ∧ (t.rlc.exchange = .none ∧ t.rlc.fifo = [] ∧ t.rlc.pollsSent = 0 ∧ t.rlc.offTimer = none ∧ t.rlc.cleanTimer = none
        ∧ ∀ n, (t.rlc.slots.get n).lastReport = none ∧ (t.rlc.slots.get n).misses = 0)
      ∧ (t.prt.notices = [] ∧ t.prt.heartbeat = none ∧ t.prt.expiredFlag = false ∧ t.prt.expiredNote = false
        ∧ t.prt.replyState = .empty ∧ t.prt.staged = none ∧ t.prt.attn = false ∧ t.prt.softReset = none
        ∧ t.prt.control.counters = ⟨0, 0, 0, 0, 0, 0⟩ ∧ t.prt.service.counters = ⟨0, 0, 0, 0, 0, 0⟩)
      ∧ (t.sto.dirty = [] ∧ t.sto.inFlight = none ∧ t.sto.startup.isSome = true ∧ t.sto.reloadTrim = true)

/-- SOFT_RESET_EFFECT: an accepted soft reset whose reply has been delivered and whose flush set has been written resets every
block as a pin reset does, but for the board-expired flag with its note, a BRST pulse, and the working trim copy, which is
set again only where "trim reload" says so. -/
def Obligations.SoftResetKeepsThreeThings : Prop :=
  ∀ (s : State) (r : SoftReset), s.powered = true → s.prt.softReset = some r → r.reply = .delivered →
    s.sto.inFlight = none → (∀ i ∈ r.flush, i ∉ s.sto.dirty) →
    ∃ t p, exec .softResetEffect s = .next t ∧ exec .pinReset s = .next p
      ∧ t.prt = { p.prt with
          expiredFlag := s.prt.expiredFlag, expiredNote := s.prt.expiredNote, brst := s.prt.brst }
      ∧ t.sto = { p.sto with trim := s.sto.trim, reloadTrim := s.sto.settings.trimReload }
      ∧ t.sto.nv = s.sto.nv ∧ t = { p with prt := t.prt, sto := t.sto }

/-- SUPPLY_FAILURE: a write in flight is cut short and leaves its block bad; nothing else of the store changes. That a bad
block is one whose CRC no longer matches its contents is the model's choice (log entry 27). -/
def Obligations.SupplyFailureLeavesTheBlockBad : Prop :=
  ∀ s : State, s.powered = true →
    ∃ t, exec .supplyFailure s = .next t ∧ t.powered = false ∧ t = { s with powered := false, sto := t.sto }
      ∧ t.sto = { s.sto with nv := t.sto.nv, inFlight := none }
      ∧ (s.sto.inFlight = none → t.sto.nv = s.sto.nv)
      ∧ (∀ w, s.sto.inFlight = some w → match w.image with
        | .lockout _ => t.sto.nv.lockout.crcGood lockoutBlockWords = false
            ∧ t.sto.nv = { s.sto.nv with lockout := t.sto.nv.lockout }
        | .combustion _ => t.sto.nv.combustion.crcGood tableWords = false
            ∧ t.sto.nv = { s.sto.nv with combustion := t.sto.nv.combustion }
        | .settings _ => t.sto.nv.settings.crcGood settingsWords = false
            ∧ t.sto.nv = { s.sto.nv with settings := t.sto.nv.settings }
        | .counters _ => t.sto.nv.counters.crcGood counterWords = false
            ∧ t.sto.nv = { s.sto.nv with counters := t.sto.nv.counters }
        | .slot n _ => (∀ x, t.sto.nv.history[n]? = some x → handedSlot x = none)
            ∧ (∀ m, m ≠ n → t.sto.nv.history[m]? = s.sto.nv.history[m]?)
            ∧ t.sto.nv = { s.sto.nv with history := t.sto.nv.history })

/-- R73, R122, R131, R136, R175, R176, R180, R181: STARTUP_READS_COMPLETE with every block good and no lockout: the values are
handed over, the records of blocking and advisory keys that the reset left open get their cleared stamp, and the sequencer
leaves START-CHECK for IDLE. With a bad combustion block: the factory table of the working trim copy is in use, and the part
is locked out with F09 and the table locking condition, whatever it held before. With any blocks: a bad trim block gives the
uncalibrated values, bad settings the defaults with A09 and its record, and bad counters 0, with the operating minute of the
latest stamp; the rewritten blocks are marked dirty. A stored lockout is restored with its notice and without a record. A bad
lockout block makes a lockout with F08, with its record, its notice, a reset counter of 0 and no decay timer (that it marks
the counters block too, takes the first empty slot and a number of at most 4,294,967,295 is the model's choice: log entries
58, 56 and 19). Without either, the first pending cause, F04 of an active LIMIT line after the others, locks out, and one more
is recorded as raised during lockout. A lockout that began in START-CHECK stands over the stored one (log entry 28): nothing
is said of it. A lockout so taken runs no purge. -/
def Obligations.StartupReadsLeadToIdleOrF09 : Prop :=
  (∀ s : State, s.powered = true → s.sto.startup.isSome = true → s.bsq.state = .startCheck →
    s.sto.nv.trimGood = true → s.sto.nv.settingsGood = true → s.sto.nv.countersGood = true →
    s.sto.nv.lockoutGood = true → s.sto.nv.combustionGood = true → s.sto.nv.lockout.contents.lockout = none →
    s.locked = false → s.bsq.pendingCauses = [] → s.ocu.lines.limit = false →
    ∃ u t, exec .startupReadsComplete s = .next t ∧ Follows u t
      ∧ u.bsq.state = .idle ∧ u.locked = false
      ∧ u.sto.settings = s.sto.nv.settings.contents ∧ u.sto.table = s.sto.nv.combustion.contents
      ∧ u.sto.tableValid = true ∧ u.sto.trimGood = true ∧ u.sto.startup = none ∧ u.sto.nv = s.sto.nv
      ∧ (s.sto.reloadTrim = true → u.sto.trim = s.sto.nv.trim.contents) ∧ (s.sto.reloadTrim = false → u.sto.trim = s.sto.trim)
      ∧ u.sto.counters = { s.sto.nv.counters.contents with
          minutes := max s.sto.nv.counters.contents.minutes s.sto.nv.latestStamp }
      ∧ u.flt.active = s.flt.active ∧ u.flt.conditions = s.flt.conditions
      ∧ u.flt.resetCounter = s.sto.nv.lockout.contents.resetCounter
      ∧ u.flt.decay = (if s.sto.nv.lockout.contents.resetCounter = 0 then none else some 180000)
      ∧ u.flt.ringBuilt = true ∧ u.flt.early = [] ∧ u.prt = s.prt
      ∧ (s.flt.early = [] → u.flt.ring = s.sto.nv.history.map fun x => ⟨(handedSlot x).map fun r =>
          if r.kind = .raised ∧ keyClass r.key ≠ .locking ∧ r.clearedStamp = none then { r with clearedStamp := some u.minute }
          else r, none⟩)
      ∧ (∀ i x r, s.sto.nv.history[i]? = some x → handedSlot x = some r → r.kind = .raised → keyClass r.key ≠ .locking →
          r.clearedStamp = none → StoreItem.slot i ∈ u.sto.dirty)
      ∧ (ntcGet u.mfe.ntc .outdoor).status
          = (if s.sto.nv.settings.contents.outdoorFitted then NtcStatus.ok else NtcStatus.notFitted)
      ∧ (∀ n, (u.rlc.slots.get n).enable = (s.sto.nv.settings.contents.slots.get n).enable
          ∧ (u.rlc.slots.get n).zone = (s.sto.nv.settings.contents.slots.get n).zone
          ∧ (u.rlc.slots.get n).state
            = if (s.sto.nv.settings.contents.slots.get n).enable then .searching else .disabled)) ∧
  (∀ s : State, s.powered = true → s.sto.startup.isSome = true → s.bsq.state = .startCheck →
    s.sto.nv.combustionGood = false →
    ∃ u t, exec .startupReadsComplete s = .next t ∧ Follows u t
      ∧ u.flt.lockout.map Lockout.cause = some .f09 ∧ u.bsq.state = .lockout ∧ u.flt.conditions.table = true
      ∧ u.sto.tableValid = false ∧ u.sto.table = u.sto.trim.factory ∧ u.sto.startup = none ∧ u.bsq.pendingCauses = []
      ∧ u.bsq.gasOpen = false ∧ u.sto.nv = s.sto.nv) ∧
  (∀ s : State, s.powered = true → s.sto.startup.isSome = true → s.bsq.state = .startCheck →
    ∃ u t, exec .startupReadsComplete s = .next t ∧ Follows u t
      ∧ u.sto.trimGood = s.sto.nv.trimGood
      ∧ (s.sto.reloadTrim = true → u.sto.trim = if s.sto.nv.trimGood then s.sto.nv.trim.contents
          else ⟨⟨0, 0, 0, 0, 0, 0, 0⟩, 1000, 450, 0, CombustionTable.default, 0, 0⟩)
      ∧ (s.sto.reloadTrim = false → u.sto.trim = s.sto.trim)
      ∧ u.sto.settings = (if s.sto.nv.settingsGood then s.sto.nv.settings.contents else Settings.default)
      ∧ (s.sto.nv.settingsGood = false → StoreItem.settings ∈ u.sto.dirty
          ∧ ((∀ l, s.flt.lockout = some l → l.cause ≠ .a09) → u.isActive .a09 = true))
      ∧ (s.sto.nv.settingsGood = false → s.isActive .a09 = false → s.flt.ringBuilt = false → s.flt.early = [] →
          s.bsq.pendingCauses = [] → s.sto.nv.history.length = 32 → s.sto.nv.records.length ≤ 28 →
          ∃ x ∈ u.flt.ring, ∃ r, x.record = some r ∧ r.key = .a09 ∧ r.kind = .raised ∧ r.raiseStamp = u.minute)
      ∧ u.sto.counters = { (if s.sto.nv.countersGood then s.sto.nv.counters.contents else ⟨0, 0, 0⟩) with
          minutes := max (if s.sto.nv.countersGood then s.sto.nv.counters.contents.minutes else 0) s.sto.nv.latestStamp }
      ∧ (s.sto.nv.countersGood = false ∨ s.sto.nv.counters.contents.minutes < s.sto.nv.latestStamp →
          StoreItem.counters ∈ u.sto.dirty)
      ∧ u.sto.nv = s.sto.nv ∧ u.flt.ringBuilt = true ∧ u.sto.startup = none) ∧
  (∀ (s : State) (l : Lockout), s.powered = true → s.sto.startup.isSome = true → s.bsq.state = .startCheck →
    s.locked = false → s.sto.nv.combustionGood = true → s.sto.nv.lockoutGood = true →
    s.sto.nv.lockout.contents.lockout = some l →
    ∃ u t, exec .startupReadsComplete s = .next t ∧ Follows u t
      ∧ u.flt.lockout = some l ∧ u.isActive l.cause = true ∧ u.bsq.state = .lockout ∧ u.bsq.pendingCauses = []
      ∧ u.flt.resetCounter = s.sto.nv.lockout.contents.resetCounter ∧ u.dta.table.service = none
      ∧ u.flt.decay = (if s.sto.nv.lockout.contents.resetCounter = 0 then none else some 180000)
      ∧ (s.bsq.gasOpened = false → u.bsq.purgeLeft = 0 ∧ u.bsq.fanTarget = 0)
      ∧ (s.bsq.pendingCauses = [] → s.ocu.lines.limit = false → s.sto.nv.settingsGood = true → s.flt.early = [] →
          u.prt = s.prt.post (.raised l.cause)
          ∧ u.flt.lastCreation = max s.sto.nv.lockout.contents.lastCreation
              (largest (s.sto.nv.records.map HistoryRecord.number)))) ∧
  (∀ s : State, s.powered = true → s.sto.startup.isSome = true → s.bsq.state = .startCheck → s.locked = false →
    s.sto.nv.combustionGood = true → s.sto.nv.lockoutGood = false →
    ∃ u t, exec .startupReadsComplete s = .next t ∧ Follows u t
      ∧ u.flt.lockout = some ⟨.f08, .startCheck, 0, u.minute⟩ ∧ u.isActive .f08 = true ∧ u.bsq.state = .lockout
      ∧ u.flt.resetCounter = 0 ∧ u.flt.decay = none ∧ u.dta.table.service = none
      ∧ StoreItem.lockout ∈ u.sto.dirty ∧ StoreItem.counters ∈ u.sto.dirty
      ∧ (s.bsq.gasOpened = false → u.bsq.purgeLeft = 0 ∧ u.bsq.fanTarget = 0)
      ∧ (s.bsq.pendingCauses = [] → s.ocu.lines.limit = false → s.sto.nv.settingsGood = true → s.flt.early = [] →
          s.isActive .f08 = false → s.sto.nv.history.length = 32 →
          let ring := s.sto.nv.history.map fun x => (⟨handedSlot x, none⟩ : HistorySlot)
          u.prt = s.prt.post (.raised .f08)
          ∧ u.flt.ring[slotForNew ring]? = some ⟨some
              { kind := .raised, key := .f08, source := none, seqState := .startCheck, flow := s.flow, rate := 0
                raiseStamp := u.minute, clearedStamp := none, count := 1, duringLockout := false
                number := min 4294967295 (largest (s.sto.nv.records.map HistoryRecord.number) + 1) }, none⟩)) ∧
  (∀ (s : State) (c : PendingCause) (rest : List PendingCause), s.powered = true → s.sto.startup.isSome = true →
    s.bsq.state = .startCheck → s.locked = false → s.sto.nv.combustionGood = true → s.sto.nv.lockoutGood = true →
    s.sto.nv.lockout.contents.lockout = none →
    (if s.ocu.lines.limit = true ∧ .f04 ∉ s.bsq.pendingCauses then s.bsq.pendingCauses ++ [.f04] else s.bsq.pendingCauses)
      = c :: rest →
    ∃ u t, exec .startupReadsComplete s = .next t ∧ Follows u t
      ∧ u.flt.lockout = some ⟨c.key, .startCheck, s.bsq.attempts, u.minute⟩ ∧ u.isActive c.key = true
      ∧ u.bsq.state = .lockout ∧ u.bsq.pendingCauses = []
      ∧ (s.bsq.gasOpened = false → u.bsq.purgeLeft = 0 ∧ u.bsq.fanTarget = 0)
      ∧ (∀ d ∈ rest, d ≠ c → u.isActive d.key = s.isActive d.key)
      ∧ (∀ d, rest = [d] → d ≠ c → s.isActive d.key = false → s.flt.early = [] → s.sto.nv.history.length = 32 →
          (∀ r ∈ s.sto.nv.records, r.key ≠ d.key) →
          ∃ x ∈ u.flt.ring, ∃ r, x.record = some r ∧ r.key = d.key ∧ r.kind = .raised ∧ r.duringLockout = true
            ∧ r.clearedStamp = none))

/-! ### The fault unit -/

/-- R120, R121, R131: a blocking or advisory key that is raised with no RAISED record of it in the ring takes the next creation
number and an empty slot, the first one by the model's choice (log entry 56); its record shows the part as it stands, and its
notice is posted; in a full ring it takes the slot of the oldest record. R133: a key that returns
within 60 s of the second of its clear merges into the newest RAISED record of it: one more on the count, up to 255, and no
cleared stamp; after that time the ring takes a new record. R123, R131: a locking key raised while another is the cause leaves
the set, the record and the notices as they are, and is written to the history alone. R134: a blocking or advisory key that
leaves the set gives the newest open RAISED record of it the operating minute as its cleared stamp, with the second of the
clear, and marks its slot; without such a record nothing is filled. R124, R134: F09 in place of another cause does the same
for that cause. -/
def Obligations.RaisesAreWrittenToTheHistory : Prop :=
  (∀ (s : State) (k : FaultKey) (i : Nat), s.isActive k = false → s.flt.ringBuilt = true →
    newestSlot (fun r => r.raises k) s.flt.ring = none → emptySlot s.flt.ring 0 = some i → s.flt.lastCreation < 4294967295 →
    EntersKey k s (s.enterKey k)
      ∧ (s.enterKey k).flt.lastCreation = s.flt.lastCreation + 1
      ∧ (s.enterKey k).flt.ring = s.flt.ring.set i ⟨some
          { kind := .raised, key := k, source := none, seqState := s.bsq.state, flow := s.flow, rate := s.reportedRate
            raiseStamp := s.minute, clearedStamp := none, count := 1, duringLockout := false
            number := s.flt.lastCreation + 1 }, none⟩
      ∧ StoreItem.slot i ∈ (s.enterKey k).sto.dirty) ∧
  (∀ (s : State) (k : FaultKey) (i sec : Nat) (r : HistoryRecord), s.isActive k = false → s.flt.ringBuilt = true →
    newestSlot (fun r => r.raises k) s.flt.ring = some (i, r) → noteAt s.flt.ring i = some sec →
    r.duringLockout = false → r.clearedStamp.isSome = true → s.flt.lastCreation < 4294967295 →
    (s.seconds - sec ≤ 60 →
      (s.enterKey k).flt.ring = s.flt.ring.set i ⟨some { r with count := min 255 (r.count + 1), clearedStamp := none }, none⟩
        ∧ (s.enterKey k).flt.lastCreation = s.flt.lastCreation) ∧
    (60 < s.seconds - sec → (s.enterKey k).flt.lastCreation = s.flt.lastCreation + 1)) ∧
  (∀ (s : State) (k : FaultKey) (l : Lockout), s.flt.lockout = some l → s.isActive k = false →
    (s.raiseLocking k).flt.active = s.flt.active ∧ (s.raiseLocking k).flt.lockout = some l
      ∧ (s.raiseLocking k).prt = s.prt ∧ Touches [.flt, .sto] s (s.raiseLocking k)
      ∧ (s.flt.ringBuilt = true → newestSlot (fun r => r.raises k) s.flt.ring = none → s.flt.lastCreation < 4294967295 →
          (s.raiseLocking k).flt.lastCreation = s.flt.lastCreation + 1
            ∧ StoreItem.slot (slotForNew s.flt.ring) ∈ (s.raiseLocking k).sto.dirty)) ∧
  (∀ (s : State) (k : FaultKey) (i : Nat) (x : HistorySlot) (r : HistoryRecord), s.isActive k = false →
    s.flt.ringBuilt = true → s.flt.lastCreation < 4294967295 →
    (∀ y ∈ s.flt.ring, ∃ q, y.record = some q ∧ (q.kind = .raised → q.key ≠ k)) →
    s.flt.ring[i]? = some x → x.record = some r →
    (∀ j y q, s.flt.ring[j]? = some y → y.record = some q → j ≠ i → r.number < q.number) →
    (s.enterKey k).flt.lastCreation = s.flt.lastCreation + 1
      ∧ (s.enterKey k).flt.ring = s.flt.ring.set i ⟨some
          { kind := .raised, key := k, source := none, seqState := s.bsq.state, flow := s.flow, rate := s.reportedRate
            raiseStamp := s.minute, clearedStamp := none, count := 1, duringLockout := false
            number := s.flt.lastCreation + 1 }, none⟩
      ∧ StoreItem.slot i ∈ (s.enterKey k).sto.dirty) ∧
  (∀ (s : State) (k : FaultKey), s.isActive k = true → s.flt.ringBuilt = true →
    LeavesKey k s (s.leaveKey k)
      ∧ (∀ i r, newestSlot (fun r => r.raises k && r.clearedStamp.isNone) s.flt.ring = some (i, r) →
          (s.leaveKey k).flt.ring = s.flt.ring.set i ⟨some { r with clearedStamp := some s.minute }, some s.seconds⟩
            ∧ StoreItem.slot i ∈ (s.leaveKey k).sto.dirty)
      ∧ (newestSlot (fun r => r.raises k && r.clearedStamp.isNone) s.flt.ring = none →
          (s.leaveKey k).flt.ring = s.flt.ring ∧ (s.leaveKey k).sto = s.sto)) ∧
  (∀ (s : State) (l : Lockout) (i : Nat) (r : HistoryRecord), s.flt.lockout = some l → l.cause ≠ .f09 →
    s.isActive l.cause = true → s.isActive .f09 = false → s.flt.ringBuilt = true →
    newestSlot (fun r => r.raises l.cause && r.clearedStamp.isNone) s.flt.ring = some (i, r) →
    newestSlot (fun r => r.raises .f09) s.flt.ring = none → (∃ x ∈ s.flt.ring, x.record = none) →
    (s.raiseF09).flt.lockout = some ⟨.f09, .startCheck, 0, s.minute⟩ ∧ (s.raiseF09).isActive .f09 = true
      ∧ (s.raiseF09).isActive l.cause = false ∧ StoreItem.lockout ∈ (s.raiseF09).sto.dirty
      ∧ (s.raiseF09).flt.ring[i]? = some ⟨some { r with clearedStamp := some s.minute }, some s.seconds⟩)

end

section
open Sys2Proof Sys2Proof.Machine

/-! ### The measurement front end -/

/-- R1, R2, R3: a good reading of a channel that is converted enters the window of eight, and with the window full the value is
the mean of the eight with the trim offset, clamped; the status is then OK. R1, R3: a bad reading stays out of the window and
leaves the age; at the third of one kind in a row the channel is OPEN or SHORT with an empty window and no value, and before
that the status and the value stand. -/
def Obligations.ReadingsFillOrFailTheChannel : Prop :=
  (∀ (s : State) (readings : NtcSet Int) (polOut : Nat) (ch : NtcChannel), s.powered = true →
    (ch = .outdoor → s.sto.settings.outdoorFitted = true) →
    -350 ≤ ntcGet readings ch → ntcGet readings ch ≤ 1400 →
    let r := ntcGet s.mfe.ntc ch
    let w := (r.window ++ [ntcGet readings ch]).drop (r.window.length - 7)
    ∃ t, exec (.ntcConversionCycle readings polOut) s = .next t
      ∧ (ntcGet t.mfe.ntc ch).window = w ∧ (ntcGet t.mfe.ntc ch).age = 0 ∧ (ntcGet t.mfe.ntc ch).badRun = 0
      ∧ (w.length = 8 → (ntcGet t.mfe.ntc ch).status = .ok ∧
          (ntcGet t.mfe.ntc ch).value = some (clampInt (-300) 1300 (divz w.sum 8 + ntcGet s.sto.trim.offsets ch)))
      ∧ (w.length ≠ 8 → (ntcGet t.mfe.ntc ch).status = r.status ∧ (ntcGet t.mfe.ntc ch).value = r.value)) ∧
  (∀ (s : State) (readings : NtcSet Int) (polOut : Nat) (ch : NtcChannel) (kind : BadKind), s.powered = true →
    (ch = .outdoor → s.sto.settings.outdoorFitted = true) →
    (kind = .low ∧ ntcGet readings ch < -350 ∨ kind = .high ∧ 1400 < ntcGet readings ch) →
    let r := ntcGet s.mfe.ntc ch
    let run := if r.badKind = kind ∧ 0 < r.badRun then min 3 (r.badRun + 1) else 1
    ∃ t, exec (.ntcConversionCycle readings polOut) s = .next t
      ∧ (ntcGet t.mfe.ntc ch).badKind = kind ∧ (ntcGet t.mfe.ntc ch).badRun = run ∧ (ntcGet t.mfe.ntc ch).age = r.age
      ∧ (run = 3 → (ntcGet t.mfe.ntc ch).window = [] ∧ (ntcGet t.mfe.ntc ch).value = none
          ∧ (ntcGet t.mfe.ntc ch).status = (if kind = .low then NtcStatus.openCircuit else NtcStatus.shortCircuit))
      ∧ (run ≠ 3 → (ntcGet t.mfe.ntc ch).value = r.value ∧ (ntcGet t.mfe.ntc ch).status = r.status
          ∧ (ntcGet t.mfe.ntc ch).window = if r.status = .ok then r.window else []))

/-- R4, R7: after a conversion cycle, and after a channel has gone OPEN or SHORT, each sensor fault is active exactly while
its channel is faulty, b03 while either flow element is. R9, R12, R126: after both, the flow pair is a locking condition
exactly while both values are present and more than 6.0 K apart, and the flue exactly while its value is present and at 110.0
°C or above. CHANNEL_OPEN_OR_SHORT changes one channel's record and no other key; R121: the changes it makes are handed on in
turn, so beside the fault unit's own record only what the end of an event writes may differ. -/
def Obligations.SensorFaultsFollowTheChannels : Prop :=
  (∀ (s : State) (c : Instr), s.powered = true →
    ((∃ readings polOut, c = .ntcConversionCycle readings polOut)
      ∨ ∃ ch kind, c = .channelOpenOrShort ch kind ∧ (ntcGet s.mfe.ntc ch).status ≠ .notFitted) →
    ∃ t, exec c s = .next t
      ∧ t.isActive .b03 = ((ntcGet t.mfe.ntc .flowA).faulty || (ntcGet t.mfe.ntc .flowB).faulty)
      ∧ t.isActive .b04 = (ntcGet t.mfe.ntc .ret).faulty ∧ t.isActive .b11 = (ntcGet t.mfe.ntc .dhwOut).faulty
      ∧ t.isActive .a06 = (ntcGet t.mfe.ntc .dhwIn).faulty ∧ t.isActive .b10 = (ntcGet t.mfe.ntc .flue).faulty
      ∧ t.isActive .a01 = (ntcGet t.mfe.ntc .outdoor).faulty
      ∧ (t.flt.conditions.flowPair = true ↔ ∃ a b, (ntcGet t.mfe.ntc .flowA).value = some a
          ∧ (ntcGet t.mfe.ntc .flowB).value = some b ∧ 60 < (a - b).natAbs)
      ∧ (t.flt.conditions.flue = true ↔ ∃ f, (ntcGet t.mfe.ntc .flue).value = some f ∧ 1100 ≤ f)) ∧
  (∀ (s : State) (ch : NtcChannel) (kind : BadKind), s.powered = true → (ntcGet s.mfe.ntc ch).status ≠ .notFitted →
    let r := ntcGet s.mfe.ntc ch
    let status := if kind = .low then NtcStatus.openCircuit else NtcStatus.shortCircuit
    ∃ t, exec (.channelOpenOrShort ch kind) s = .next t
      ∧ EndsFrom { s with
          mfe := { s.mfe with ntc := ntcPut s.mfe.ntc ch ⟨[], none, status, r.age, kind, 3⟩ }
          flt := t.flt
          prt := { s.prt with notices := t.prt.notices, overflow := t.prt.overflow } } t
      ∧ t.flt = { s.flt with
          active := t.flt.active, ring := t.flt.ring, early := t.flt.early, lastCreation := t.flt.lastCreation
          alarmActive := t.flt.alarmActive, alarmHigh := t.flt.alarmHigh
          conditions := { s.flt.conditions with
            flowPair := t.flt.conditions.flowPair, flue := t.flt.conditions.flue } }
      ∧ ∀ k, k ∉ [.b03, .b04, .b11, .a06, .b10, FaultKey.a01] → t.isActive k = s.isActive k)

/-- R10: flow over-temperature at each conversion cycle: b05 from 95.0 °C, no b05 from 85.0 °C down, and its old state between
the two and without a flow value; not raised after any reset. -/
def Obligations.FlowOverTemperatureHasHysteresis : Prop :=
  (∀ (s : State) (readings : NtcSet Int) (polOut : Nat), s.powered = true →
    ∃ t, exec (.ntcConversionCycle readings polOut) s = .next t
      ∧ (∀ f, t.flow = some f → 950 ≤ f → t.isActive .b05 = true)
      ∧ (∀ f, t.flow = some f → f ≤ 850 → t.isActive .b05 = false)
      ∧ (∀ f, t.flow = some f → 850 < f → f < 950 → t.isActive .b05 = s.isActive .b05)
      ∧ (t.flow = none → t.isActive .b05 = s.isActive .b05)) ∧
  (∀ s : State, ∃ t, exec .powerOnReset s = .next t ∧ t.isActive .b05 = false) ∧
  (∀ s : State, s.powered = true → ∃ t, exec .pinReset s = .next t ∧ t.isActive .b05 = false) ∧
  (∀ s : State, s.powered = true → s.softResetReady = true →
    ∃ t, exec .softResetEffect s = .next t ∧ t.isActive .b05 = false)

/-- R29, R43: the frost detector and the frost pump stage at each conversion cycle: FROST is created at 5.0 °C or below,
requesting and with no other field, and removed at 15.0 °C or above; the stage is set below 8.0 °C and cleared at 10.0 °C or
above; between the limits, and without a flow value, both stand. -/
def Obligations.FrostFollowsTheFlow : Prop :=
  ∀ (s : State) (readings : NtcSet Int) (polOut : Nat), s.powered = true →
    ∃ t, exec (.ntcConversionCycle readings polOut) s = .next t
      ∧ (t.flow = none → t.dta.table.frost = s.dta.table.frost ∧ t.dta.frostStage = s.dta.frostStage)
      ∧ (∀ f, t.flow = some f →
          t.dta.table.frost = (match s.dta.table.frost with
            | none => if f ≤ 50 then some ⟨true, none, none, none, none, none, none, false⟩ else none
            | some e => if 150 ≤ f then none else some e)
          ∧ t.dta.frostStage = if f < 80 then true else if 100 ≤ f then false else s.dta.frostStage)
      ∧ t.dta.table.board = s.dta.table.board ∧ t.dta.table.room = s.dta.table.room

/-- R11, R21, R81, R146, R155: the counts and timers behind b09, A08, b06, A10 and A11: b09 is raised as the no-circulation
count is reached, with its 120 s timer, and each of the five is cleared at its own expiry. Nothing else changes. R9: the
disagreement count of an armed check reaches 100: the count is 0, the check is disarmed, and F05 locks the burner out. -/
def Obligations.CountsAndTimersRaiseAndClear : Prop :=
  (∀ s : State, s.powered = true → s.mfe.circTimer = none →
    ∃ u t, exec .noCirculationCountExpiry s = .next t ∧ Follows u t
      ∧ EntersKey .b09 { s with mfe := { s.mfe with circCount := 0, circTimer := some 120000 } } u) ∧
  (∀ s : State, s.powered = true → s.mfe.circTimer.isSome = true →
    ∃ u t, exec .b09TimerExpiry s = .next t ∧ Follows u t
      ∧ LeavesKey .b09 { s with mfe := { s.mfe with circTimer := none, circCount := 0 } } u) ∧
  (∀ s : State, s.powered = true → s.isActive .a08 = true →
    ∃ u t, exec .a08GoodGateCount s = .next t ∧ Follows u t
      ∧ LeavesKey .a08 { s with mfe := { s.mfe with goodGates := 40 } } u) ∧
  (∀ s : State, s.powered = true → s.bsq.b06Timer.isSome = true →
    ∃ u t, exec .b06TimerExpiry s = .next t ∧ Follows u t
      ∧ LeavesKey .b06 { s with bsq := { s.bsq with b06Timer := none } } u) ∧
  (∀ s : State, s.powered = true → s.isActive .a10 = true →
    ∃ u t, exec .onTimeRunComplete s = .next t ∧ Follows u t
      ∧ LeavesKey .a10 { s with rlc := { s.rlc with onTimeRun := 10 } } u) ∧
  (∀ s : State, s.powered = true → s.rlc.cleanTimer.isSome = true →
    ∃ u t, exec .cleanTimerExpiry s = .next t ∧ Follows u t
      ∧ LeavesKey .a11 { s with rlc := { s.rlc with cleanTimer := none } } u) ∧
  (∀ s : State, s.powered = true → s.mfe.pairArmed = true → s.locked = false → s.bsq.state ≠ .startCheck →
    s.bsq.state ≠ .lockout →
    ∃ u t, exec .flowPairCountExpiry s = .next t ∧ Follows u t
      ∧ LocksOut .f05 { s with mfe := { s.mfe with pairCount := 0, pairArmed := false } } u)

/-- R13, R14: an in-band reading that fills the window of four gives the pressure, clears b02 and judges b01, A04 and A05
between their limits; one that does not fill it joins it and leaves the value and every key. After an age of more than 1,000
ms the window is empty and the value absent before an in-band reading enters it, and b02 is raised. The third out-of-band
reading in a row raises b02, empties the window and takes the value away. -/
def Obligations.PressureIsJudgedOnAFullWindow : Prop :=
  (∀ (s : State) (mv : Nat), s.powered = true → 300 ≤ mv → mv ≤ 4700 → s.mfe.pressAge ≤ 1000 →
    let x := clampInt 0 400 (divz ((mv : Int) - 500) 10 + s.sto.trim.pressOffset)
    let w := (s.mfe.pressWindow ++ [x]).drop (s.mfe.pressWindow.length - 3)
    let p := divz w.sum 4
    ∃ t, exec (.pressureReading mv) s = .next t
      ∧ t.mfe = { s.mfe with
          pressWindow := w, pressValue := if 3 ≤ s.mfe.pressWindow.length then some p else s.mfe.pressValue
          pressAge := 0, pressBadRun := 0
          blockSum := t.mfe.blockSum, blockCount := t.mfe.blockCount }
      ∧ (3 ≤ s.mfe.pressWindow.length → t.isActive .b02 = false
          ∧ t.isActive .b01 = (if p < 60 then true else if 80 ≤ p then false else s.isActive .b01)
          ∧ t.isActive .a04 = (if p < 90 then true else if 100 ≤ p then false else s.isActive .a04)
          ∧ t.isActive .a05 = (if 280 < p then true else if p ≤ 260 then false else s.isActive .a05))
      ∧ (s.mfe.pressWindow.length < 3 → t.flt.active = s.flt.active)
      ∧ ∀ k, k ∉ [.b01, .b02, .a04, FaultKey.a05] → t.isActive k = s.isActive k) ∧
  (∀ (s : State) (mv : Nat), s.powered = true → 300 ≤ mv → mv ≤ 4700 → 1000 < s.mfe.pressAge →
    ∃ t, exec (.pressureReading mv) s = .next t
      ∧ t.mfe = { s.mfe with
          pressWindow := [clampInt 0 400 (divz ((mv : Int) - 500) 10 + s.sto.trim.pressOffset)], pressValue := none
          pressAge := 0, pressBadRun := 0, blockSum := t.mfe.blockSum, blockCount := t.mfe.blockCount }
      ∧ t.isActive .b02 = true ∧ ∀ k, k ≠ .b02 → t.isActive k = s.isActive k) ∧
  (∀ (s : State) (mv : Nat), s.powered = true → (mv < 300 ∨ 4700 < mv) → 2 ≤ s.mfe.pressBadRun →
    ∃ t, exec (.pressureReading mv) s = .next t
      ∧ t.mfe = { s.mfe with
          pressWindow := [], pressValue := none, pressBadRun := 3
          blockSum := t.mfe.blockSum, blockCount := t.mfe.blockCount }
      ∧ t.isActive .b02 = true ∧ ∀ k, k ≠ .b02 → t.isActive k = s.isActive k)

/-- R15, R16, R126: one ionisation sample: its value, and the runs by which the flame state goes ON at the third sample of 1.0
µA or more and OFF at the second below 0.6 µA, with the flame locking condition. R17: the end of a weak-flame block in
RUNNING: the sum and the count are 0, and A03 is raised below 2.0 µA, cleared from 2.5 µA, and kept between the two; that a
block cut short is judged as one of 1,200 samples is the model's choice (log entry 7). -/
def Obligations.FlameIsJudgedBySamplesAndBlocks : Prop :=
  (∀ (s : State) (current : Nat), s.powered = true →
    let x := clampNat 0 500 (divz ((current : Int) * s.sto.trim.gain) 1000).toNat
    let goesOn := s.mfe.flameOn = false ∧ 10 ≤ x ∧ 2 ≤ s.mfe.provingRun
    let goesOff := s.mfe.flameOn = true ∧ x < 6 ∧ 1 ≤ s.mfe.lossRun
    ∃ t, exec (.ionisationSample current) s = .next t ∧ t.mfe.ionSample = x
      ∧ (goesOn → t.mfe.flameOn = true ∧ t.mfe.provingRun = 0 ∧ t.flt.conditions.flame = true)
      ∧ (goesOff → t.mfe.flameOn = false ∧ t.mfe.lossRun = 0 ∧ t.flt.conditions.flame = false)
      ∧ (¬ goesOn → ¬ goesOff → t.mfe.flameOn = s.mfe.flameOn ∧ t.flt.conditions = s.flt.conditions
          ∧ (s.mfe.flameOn = false → t.mfe.provingRun = if 10 ≤ x then s.mfe.provingRun + 1 else 0)
          ∧ (s.mfe.flameOn = true → t.mfe.lossRun = if x < 6 then s.mfe.lossRun + 1 else 0))
      ∧ t.mfe.ntc = s.mfe.ntc ∧ t.mfe.pressValue = s.mfe.pressValue ∧ t.mfe.tapFlow = s.mfe.tapFlow
      ∧ t.mfe.fanSpeed = s.mfe.fanSpeed ∧ t.sto.nv = s.sto.nv ∧ t.clock = s.clock) ∧
  (∀ s : State, s.powered = true → s.bsq.state = .running → 0 < s.mfe.blockCount →
    let mean := s.mfe.blockSum / 1200
    ∃ t, exec .weakFlameBlockEnd s = .next t ∧ t.mfe = { s.mfe with blockSum := 0, blockCount := 0 }
      ∧ t.isActive .a03 = (if mean < 20 then true else if 25 ≤ mean then false else s.isActive .a03)
      ∧ (∀ k, k ≠ .a03 → t.isActive k = s.isActive k)
      ∧ t.dta.table.board = s.dta.table.board ∧ t.dta.table.room = s.dta.table.room ∧ t.sto.nv = s.sto.nv)

/-- R18 to R21: the end of a gate: the pulses of each input are its rising edges, a gate of 275 pulses or more is over range and
holds that input's value, tap flow and fan speed follow the good gates, and A08 is raised by an over-range gate and cleared at
the fortieth good one. That the count of good gates stops at 40 is the model's choice (log entry 49). R28: the tap detector at
that gate: two gates in a row of 2.00 L/min or more make TAP request, four in a row below 1.50 L/min end it, and one on the
other side sets the run to 0; disabled it holds no request and no run. R77: the gate's fan speed is judged against the band,
IN or OUT, in the six states that keep the record, and the other run is set to 0; that this follows the detector and its
re-evaluation is the model's order (log entry 14). -/
def Obligations.GateEndTakesThePulses : Prop :=
  (∀ (s : State) (turbine tacho : List Bool), s.powered = true →
    let edges := fun (last : Bool) (l : List Bool) => ((last :: l).zip l).countP fun x => !x.1 && x.2
    let nt := s.mfe.turbineCounter + edges s.mfe.turbineLast turbine
    let nf := s.mfe.tachoCounter + edges s.mfe.tachoLast tacho
    let gates := (s.mfe.turbineGates ++ [nt]).drop (s.mfe.turbineGates.length - 3)
    ∃ t, exec (.pulseGateEnd turbine tacho) s = .next t
      ∧ t.mfe.turbineCounter = 0 ∧ t.mfe.tachoCounter = 0
      ∧ (nt < 275 → t.mfe.turbineGates = gates ∧
          t.mfe.tapFlow = clampNat 0 2500 (divz ((gates.sum : Int) * 6000) s.sto.trim.turbineK).toNat)
      ∧ (275 ≤ nt → t.mfe.turbineGates = s.mfe.turbineGates ∧ t.mfe.tapFlow = s.mfe.tapFlow)
      ∧ (nf < 275 → t.mfe.fanSpeed = nf * 120) ∧ (275 ≤ nf → t.mfe.fanSpeed = s.mfe.fanSpeed)
      ∧ (275 ≤ nt ∨ 275 ≤ nf → t.isActive .a08 = true ∧ t.mfe.goodGates = 0)
      ∧ (nt < 275 → nf < 275 → t.mfe.goodGates = min 40 (s.mfe.goodGates + 1)
          ∧ t.isActive .a08 = (s.isActive .a08 && decide (s.mfe.goodGates + 1 < 40)))
      ∧ (∀ k, k ≠ .a08 → t.isActive k = s.isActive k)
      ∧ t.mfe.ntc = s.mfe.ntc ∧ t.mfe.flameOn = s.mfe.flameOn ∧ t.mfe.pressValue = s.mfe.pressValue) ∧
  (∀ (s : State) (turbine tacho : List Bool), s.powered = true →
    let enabled := s.sto.settings.dhwEnable = true ∧ s.isActive .b11 = false
    ∃ t, exec (.pulseGateEnd turbine tacho) s = .next t
      ∧ (enabled → s.dta.asks .tap = false → 200 ≤ t.mfe.tapFlow → 1 ≤ s.dta.startRun →
          t.dta.asks .tap = true ∧ t.dta.startRun = 0 ∧ t.dta.stopRun = 0)
      ∧ (enabled → s.dta.asks .tap = false → 200 ≤ t.mfe.tapFlow → s.dta.startRun = 0 →
          t.dta.asks .tap = false ∧ t.dta.startRun = 1 ∧ t.dta.stopRun = s.dta.stopRun)
      ∧ (enabled → s.dta.asks .tap = false → t.mfe.tapFlow < 200 →
          t.dta.asks .tap = false ∧ t.dta.startRun = 0 ∧ t.dta.stopRun = s.dta.stopRun)
      ∧ (enabled → s.dta.asks .tap = true → t.mfe.tapFlow < 150 → 3 ≤ s.dta.stopRun →
          t.dta.asks .tap = false ∧ t.dta.startRun = 0 ∧ t.dta.stopRun = 0)
      ∧ (enabled → s.dta.asks .tap = true → t.mfe.tapFlow < 150 → s.dta.stopRun < 3 →
          t.dta.asks .tap = true ∧ t.dta.startRun = s.dta.startRun ∧ t.dta.stopRun = s.dta.stopRun + 1)
      ∧ (enabled → s.dta.asks .tap = true → 150 ≤ t.mfe.tapFlow →
          t.dta.asks .tap = true ∧ t.dta.startRun = s.dta.startRun ∧ t.dta.stopRun = 0)
      ∧ (¬ enabled → t.dta.asks .tap = false ∧ t.dta.startRun = 0 ∧ t.dta.stopRun = 0)) ∧
  (∀ (s : State) (turbine tacho : List Bool), s.powered = true → s.bsq.state ≠ .running ∨ s.fre.served ≠ .dhw →
    let wild := overRange (s.mfe.turbineCount turbine) || overRange (s.mfe.tachoCount tacho)
    let v := ((({ s with mfe := s.mfe.endGate turbine tacho s.sto.trim.turbineK } : State).judgeA08 wild).judgeTap).settle
    ∃ t, exec (.pulseGateEnd turbine tacho) s = .next t ∧ Follows v.judgeFan t) ∧
  (∀ v : State,
    let isIn := decide (((v.mfe.fanSpeed : Int) - v.bsq.fanTarget).natAbs ≤ v.sto.table.fanBand)
    (v.bsq.state ∈ [.prePurge, .ignitionSpeed, .interPurge, .safetyTime, .stabilise, SeqState.running] →
      v.judgeFan = { v with bsq := { v.bsq with band := { v.bsq.band with
        inBand := isIn
        inRun := if isIn then v.bsq.band.inRun else 0
        outRun := if isIn then 0 else v.bsq.band.outRun } } })
    ∧ (v.bsq.state ∉ [.prePurge, .ignitionSpeed, .interPurge, .safetyTime, .stabilise, SeqState.running] → v.judgeFan = v))

/-! ### Demands and the arbiter -/

/-- R28, R31, R32, R44, R189: a draw that starts makes TAP request; it ends keep-warm and any output test, and unless SERVICE
asks, the plan is DHW for TAP with the diverter on the DHW side. A draw that stops clears the request and the DHW pause. -/
def Obligations.TapDrawTakesTheBurner : Prop :=
  (∀ s : State, s.powered = true → s.sto.settings.dhwEnable = true → s.isActive .b11 = false → s.dta.asks .tap = false →
    ∃ t, exec .tapStart s = .next t ∧ EndsFrom s t
      ∧ t.dta.asks .tap = true ∧ t.dta.table.keepwarm = none ∧ t.ocu.test.timer = none
      ∧ t.dta.startRun = 0 ∧ t.dta.stopRun = 0
      ∧ (s.dta.asks .service = false → t.dta.plan.mode = .dhw ∧ t.dta.plan.sources = [.tap] ∧ t.dta.plan.diverter = .dhw
          ∧ t.dta.plan.dhwSetpoint = s.sto.settings.dhwSetpoint)) ∧
  (∀ s : State, s.powered = true → s.dta.asks .tap = true →
    ∃ t, exec .tapStop s = .next t ∧ EndsFrom s t ∧ t.dta.asks .tap = false ∧ t.dta.dhwPause = false
      ∧ t.dta.startRun = 0 ∧ t.dta.stopRun = 0 ∧ Source.tap ∉ t.dta.plan.sources)

/-- R26, R30, R31, R36, R38, R41, R42, R44, R46: what the expiries of the arbiter's timers do before the plan is formed again.
R36 to R38, R40: one re-evaluation in mode CH (`State.evaluate`): a request that is yes, from whichever mode it is carried
over, ends at the off point, which starts the anti-cycle timer where the mode was CH before, and stands below it; one that is
no begins at the on point, unless the timer runs without FROST asking; 15.0 K below the target the timer is stopped. R39, R40:
the DHW pause is set in RUNNING 5.0 K above the DHW setpoint and cleared at it, while TAP is the source, and the request of
mode DHW is its opposite. That SERVICE_ENTRY_EXPIRY removes an entry whose expiry still lies ahead of the clock is the model's
choice (log entry 52). -/
def Obligations.ArbiterTimersExpire : Prop :=
  (∀ s : State, s.powered = true → ∃ t, exec .antiCycleTimerExpiry s = .next t
    ∧ Follows { s with dta := { s.dta with antiCycle := none } } t) ∧
  (∀ s : State, s.powered = true → ∃ t, exec .keepwarmSpacingTimerExpiry s = .next t
    ∧ Follows { s with dta := { s.dta with spacing := none } } t) ∧
  (∀ s : State, s.powered = true → ∃ t, exec .pumpOverrunTimerExpiry s = .next t
    ∧ Follows { s with dta := { s.dta with overrun := none } } t) ∧
  (∀ s : State, s.powered = true → s.dta.divState = .movingToDhw → ∃ t, exec .diverterMoveEnd s = .next t
    ∧ Follows { s with dta := { s.dta with divState := .atDhw, divLeft := 0, homing := false } } t) ∧
  (∀ s : State, s.powered = true → s.dta.divState = .movingToCh → ∃ t, exec .diverterMoveEnd s = .next t
    ∧ Follows { s with dta := { s.dta with divState := .atCh, divLeft := 0, homing := false } } t) ∧
  (∀ (s : State) (e : Entry), s.powered = true → s.dta.table.service = some e → e.expiry.isSome = true →
    ∃ t, exec .serviceEntryExpiry s = .next t ∧ t.dta.table.service = none ∧ Source.service ∉ t.dta.plan.sources
      ∧ EndsFrom { s with dta := { s.dta with table := { s.dta.table with service := none } } } t) ∧
  (∀ s : State, s.powered = true → s.dta.table.keepwarm.isSome = true →
    ∃ t, exec .keepwarmBurnTimeLimit s = .next t ∧ t.dta.table.keepwarm = none ∧ t.dta.spacing = some 1200000
      ∧ EndsFrom s t) ∧
  (∀ (s : State) (flow target : Int), s.chooseMode = .ch → s.scopeInForce.allows = true → s.flow = some flow →
    s.targetFor .ch = some target →
    let onPoint := target - s.sto.settings.onDifferential
    let offPoint := target + s.sto.settings.offDifferential
    let timer := if flow ≤ target - 150 then none else s.dta.antiCycle
    let started := some (s.sto.settings.antiCycleMin.toNat * 60000)
    let d := s.evaluate.dta
    d.plan.mode = .ch ∧ d.plan.target = some target
      ∧ (s.dta.plan.request = true → offPoint ≤ flow → d.plan.request = false
          ∧ d.antiCycle = if s.dta.plan.mode = .ch ∧ 0 < s.sto.settings.antiCycleMin then started else timer)
      ∧ (s.dta.plan.request = true → flow < offPoint → d.plan.request = true ∧ d.antiCycle = timer)
      ∧ (s.dta.plan.request = false → flow ≤ onPoint → timer = none ∨ s.dta.asks .frost = true →
          d.plan.request = true ∧ d.antiCycle = timer)
      ∧ (s.dta.plan.request = false → onPoint < flow ∨ timer.isSome = true ∧ s.dta.asks .frost = false →
          d.plan.request = false ∧ d.antiCycle = timer)) ∧
  (∀ (s : State) (outlet : Int), s.dta.plan.mode = .dhw → s.dta.plan.sources = [.tap] → s.outlet = some outlet →
    let t := s.judgePause
    t = { s with dta := { s.dta with dhwPause := t.dta.dhwPause } }
      ∧ (s.dta.dhwPause = true → t.dta.dhwPause = decide (s.dta.plan.dhwSetpoint < outlet))
      ∧ (s.dta.dhwPause = false →
          t.dta.dhwPause = decide (s.bsq.state = .running ∧ s.dta.plan.dhwSetpoint + 50 ≤ outlet))) ∧
  (∀ s : State, s.chooseMode = .dhw →
    s.evaluate.dta.plan.request = (!s.dta.dhwPause && s.scopeInForce.allows) ∧ s.evaluate.dta.antiCycle = s.dta.antiCycle)

/-! ### The firing-rate engine -/

/-- R55, R56, R63, R65, R72: one CH computation, from the terms of the controller to the handed-over rate: proportional part,
candidate integral, ramp, caps and floor, the integral held against wind-up, and in RUNNING the fan target that follows a
changed rate. With SERVICE served, the selection's rate under the same caps and floor. The interval timer starts again. R57,
R58: the DHW computation at a gate end that finds DHW served and leaves it so: the feed-forward rate of the tap flow, the
proportional part, the candidate integral within 200 either way, a ramp of 200, and the same caps, floor and wind-up rule;
without an outlet value none. The order within a gate end (A08, the tap detector, the re-evaluation, the computation, the band
judgement), and that a gate end at which DHW begins or stops being served makes no computation, are the model's choice (log
entry 14). -/
def Obligations.ChComputationFormsTheRate : Prop :=
  (∀ (s : State) (target flow : Int), s.powered = true → s.fre.chTimer.isSome = true → s.fre.served = .ch →
    s.dta.plan.target = some target → s.flow = some flow →
    let e := clampInt (-300) 300 (target - flow)
    let cand := s.fre.chI + divz (5 * e) 100
    let raw := divz (30 * e) 10 + cand
    let r := max s.sto.table.rmin (min (min raw s.formedCaps.least) (s.fre.lastRate + 50))
    ∃ u t, exec .chComputation s = .next t ∧ Follows u t ∧ Touches [.fre, .bsq, .ocu] s u
      ∧ u.fre = { s.fre with
          chTimer := some 1000, lastRate := r, reason := u.fre.reason
          chI := if (r < raw ∧ 0 < e) ∨ (raw < r ∧ e < 0) then s.fre.chI else clampInt 0 1000 cand }
      ∧ (s.bsq.state = .running → r ≠ s.fre.lastRate → u.bsq.fanTarget = s.sto.table.speedFor r)
      ∧ (s.bsq.state ≠ .running ∨ r = s.fre.lastRate → u.bsq = s.bsq ∧ u.ocu = s.ocu)
      ∧ (r = s.sto.table.rmin → min (min raw s.formedCaps.least) (s.fre.lastRate + 50) < s.sto.table.rmin →
          u.fre.reason = .floor)) ∧
  (∀ s : State, s.powered = true → s.fre.chTimer.isSome = true → s.fre.served = .service →
    ∃ u t, exec .chComputation s = .next t ∧ Follows u t ∧ Touches [.fre, .bsq, .ocu] s u
      ∧ u.fre.lastRate = max s.sto.table.rmin (min s.requestedRate s.formedCaps.least) ∧ u.fre.chTimer = some 1000
      ∧ u.fre.chI = s.fre.chI ∧ u.fre.dhwI = s.fre.dhwI ∧ u.fre.served = .service) ∧
  (∀ (s : State) (turbine tacho : List Bool), s.powered = true → s.bsq.state = .running → s.fre.served = .dhw →
    let wild := overRange (s.mfe.turbineCount turbine) || overRange (s.mfe.tachoCount tacho)
    let v := ((({ s with mfe := s.mfe.endGate turbine tacho s.sto.trim.turbineK } : State).judgeA08 wild).judgeTap).settle
    ∃ t, exec (.pulseGateEnd turbine tacho) s = .next t
      ∧ (v.bsq.state = .running → v.fre.served = .dhw → Follows v.dhwCompute.judgeFan t)
      ∧ (v.bsq.state ≠ .running ∨ v.fre.served ≠ .dhw → Follows v.judgeFan t)) ∧
  (∀ s : State, s.outlet = none → s.dhwCompute = s) ∧
  (∀ (s : State) (outlet : Int), s.outlet = some outlet →
    let setpoint := s.dta.plan.dhwSetpoint
    let inlet := if s.isActive .a06 then 100 else s.inlet.getD 100
    let power := divz ((s.mfe.tapFlow : Int) * max 0 (setpoint - inlet) * 6977) 100000
    let e := clampInt (-300) 300 (setpoint - outlet)
    let cand := clampInt (-200) 200 (s.fre.dhwI + divz (10 * e) 100)
    let raw := divz (power * 1000) (s.sto.table.pnom * 100) + divz (20 * e) 10 + cand
    let r := max s.sto.table.rmin (min (min raw s.formedCaps.least) (s.fre.lastRate + 200))
    let t := s.dhwCompute
    Touches [.fre, .bsq, .ocu] s t
      ∧ t.fre = { s.fre with
          lastRate := r, reason := t.fre.reason
          dhwI := if (r < raw ∧ 0 < e) ∨ (raw < r ∧ e < 0) then s.fre.dhwI else cand }
      ∧ (s.bsq.state = .running → r ≠ s.fre.lastRate → t.bsq.fanTarget = s.sto.table.speedFor r)
      ∧ (s.bsq.state ≠ .running ∨ r = s.fre.lastRate → t.bsq = s.bsq ∧ t.ocu = s.ocu))

end

section
open Sys2Proof Sys2Proof.Machine

/-! ### The burner sequencer -/

/-- R76: the expiry of the PRE-CHECK timer, by the first case that applies: a flame locks out with F03, a coil current that is
not zero with F07, and a fan at 300 rpm or more is a fan-proving failure, which leads to IDLE or, as the third, locks out with
F10. -/
def Obligations.PreCheckExpiryTakesTheFirstCase : Prop :=
  ∀ s : State, s.powered = true → s.bsq.state = .preCheck → s.locked = false →
    let v := { s with bsq := { s.bsq with timer := none } }
    ∃ u t, exec .preCheckTimerExpiry s = .next t ∧ Follows u t
      ∧ (s.mfe.flameOn = true → LocksOut .f03 v u)
      ∧ (s.mfe.flameOn = false → (s.bsq.coilZero.gv1 = false ∨ s.bsq.coilZero.gv2 = false) → LocksOut .f07 v u)
      ∧ (s.mfe.flameOn = false → s.bsq.coilZero = ⟨true, true⟩ → 300 ≤ s.mfe.fanSpeed → s.bsq.provingFailures < 2 →
          u.bsq.state = .idle ∧ u.bsq.provingFailures = s.bsq.provingFailures + 1 ∧ u.isActive .b06 = true
            ∧ u.bsq.b06Timer = some 60000 ∧ u.locked = false)
      ∧ (s.mfe.flameOn = false → s.bsq.coilZero = ⟨true, true⟩ → 300 ≤ s.mfe.fanSpeed → 2 ≤ s.bsq.provingFailures →
          LocksOut .f10 { v with bsq := { v.bsq with provingFailures := s.bsq.provingFailures + 1 } } u)
      ∧ (s.mfe.flameOn = false → s.bsq.coilZero = ⟨true, true⟩ → s.mfe.fanSpeed < 300 → u = v)

/-- R78, R85, R79, R72: as the in-band time of PRE-PURGE or INTER-PURGE is reached, the sequencer enters IGNITION-SPEED with
the gas closed, the spark stopped and the fan at curve(ignition rate); what a burn keeps, it keeps. R84, R48, R87, R74: the
stabilisation time ends in RUNNING, with the caps formed for the mode, the last rate at the ignition rate lowered to the caps
but not below rmin, or in mode SERVICE (R63) the selection's rate under the same bounds, and the fan at its speed; post-purge
ends in IDLE with gas, spark and fan off. R67, R74, R75, R108: a request met in IDLE (`State.judgeRequest`) begins a burn:
with no trip line active PRE-CHECK, its 10 s timer and the three re-arms pending; with one, IDLE again and a report of each
refused re-arm with its channel's causes and the lines. That IDLE is reached in the same event, and that the sequencer's
record holds the reports, are the model's choices (log entries 10 and 66). PRE-CHECK is left for PRE-PURGE
(`State.judgePreCheck`) exactly where its conditions are all met. -/
def Obligations.TimedStatesLeadOn : Prop :=
  (∀ (s : State) (c : Instr), s.powered = true →
    (c = .prePurgeTimeReached ∧ s.bsq.state = .prePurge ∨ c = .interPurgeTimeReached ∧ s.bsq.state = .interPurge) →
    ∃ u t, exec c s = .next t ∧ Follows u t ∧ EntersState .ignitionSpeed s u
      ∧ u.bsq.fanTarget = s.sto.table.speedFor s.sto.table.ignitionRate ∧ u.bsq.timer = none
      ∧ u.bsq.attempts = s.bsq.attempts ∧ u.bsq.recycleUsed = s.bsq.recycleUsed ∧ u.bsq.gasOpened = s.bsq.gasOpened
      ∧ u.dta = s.dta ∧ u.fre = s.fre ∧ u.mfe = s.mfe) ∧
  (∀ s : State, s.powered = true → s.bsq.state = .stabilise →
    ∃ u t, exec .stabilisationTimeExpiry s = .next t ∧ Follows u t ∧ Touches [.mfe, .dta, .fre, .bsq, .ocu] s u
      ∧ u.bsq.state = .running ∧ u.bsq.timer = none ∧ u.bsq.spark = false ∧ u.bsq.gasOpen = s.bsq.gasOpen
      ∧ u.ocu.gv1 = s.ocu.gv1 ∧ u.ocu.gv2 = s.ocu.gv2
      ∧ u.fre.served = s.dta.plan.mode ∧ u.fre.caps = u.formedCaps
      ∧ (s.dta.plan.mode ≠ .service →
          u.fre.lastRate = if u.formedCaps.least < s.sto.table.ignitionRate then max s.sto.table.rmin u.formedCaps.least
            else s.sto.table.ignitionRate)
      ∧ (s.dta.plan.mode = .service →
          u.fre.lastRate = max s.sto.table.rmin (min s.requestedRate u.formedCaps.least))
      ∧ u.bsq.fanTarget = s.sto.table.speedFor u.fre.lastRate
      ∧ (s.dta.plan.mode = .ch ∨ s.dta.plan.mode = .service → u.fre.chTimer = some 1000)
      ∧ (s.dta.plan.mode = .dhw → u.fre.dhwI = 0)
      ∧ u.dta = s.dta ∧ u.mfe = s.mfe) ∧
  (∀ s : State, s.powered = true → s.bsq.state = .postPurge →
    ∃ u t, exec .postPurgeTimeExpiry s = .next t ∧ Follows u t ∧ EntersState .idle s u
      ∧ (s.bsq.purgeLeft = 0 → u.bsq.fanTarget = 0) ∧ u.dta = s.dta ∧ u.fre = s.fre ∧ u.mfe = s.mfe) ∧
  (∀ s : State, s.bsq.state = .idle → s.dta.plan.request = true →
    let u := s.judgeRequest
    Touches [.bsq, .ocu] s u ∧ u.bsq.attempts = 0 ∧ u.bsq.recycleUsed = false ∧ u.bsq.gasOpened = false
      ∧ u.bsq.gasOpen = false ∧ u.bsq.spark = false
      ∧ (s.ocu.lines = ⟨false, false, false⟩ → u.bsq.state = .preCheck ∧ u.bsq.timer = some 10000 ∧ u.bsq.timeIn = 0
          ∧ u.bsq.fanTarget = 0 ∧ u.bsq.sparkRearmed = false ∧ u.bsq.valveRearmed = ⟨false, false⟩ ∧ u.bsq.rearmRefusals = []
          ∧ ∀ ch ∈ [.spark, .gv1, Channel.gv2], (u.ocu.get ch).rearmPending = true ∧ (u.ocu.get ch).state ≠ .active)
      ∧ (s.ocu.lines ≠ ⟨false, false, false⟩ → u.bsq.state = .idle ∧ u.bsq.timer = none
          ∧ u.bsq.rearmRefusals
            = [.spark, .gv1, Channel.gv2].map fun ch => ⟨ch, (s.ocu.get ch).tripCauses, s.ocu.lines⟩)) ∧
  (∀ s : State, s.bsq.state = .preCheck →
    let met := s.bsq.sparkRearmed = true ∧ s.bsq.valveRearmed = ⟨true, true⟩ ∧ s.mfe.flameOn = false ∧ s.mfe.fanSpeed < 300
      ∧ s.bsq.coilZero = ⟨true, true⟩
    (met → EntersState .prePurge s s.judgePreCheck ∧ s.judgePreCheck.bsq.fanTarget = s.sto.table.purgeSpeed.toNat
        ∧ s.judgePreCheck.bsq.attempts = s.bsq.attempts ∧ s.judgePreCheck.bsq.gasOpened = s.bsq.gasOpened)
      ∧ (¬ met → s.judgePreCheck = s))

/-- R78 to R81, R85: a fan-proving failure. The first two raise b06 with its 60 s timer and lead to IDLE before the gas has
been open in the burn and to POST-PURGE after that; the third locks out with F10. -/
def Obligations.FanProvingFailureCountsToThree : Prop :=
  ∀ (s : State) (c : Instr) (dest : SeqState), s.powered = true → s.locked = false →
    (c = .fanProvingTimeout ∧ s.bsq.state = .prePurge ∧ dest = .idle
      ∨ c = .fanProvingTimeout ∧ s.bsq.state = .ignitionSpeed ∧ dest = (if s.bsq.gasOpened then .postPurge else .idle)
      ∨ c = .fanProvingTimeout ∧ s.bsq.state = .interPurge ∧ dest = .postPurge
      ∨ c = .outOfBandRunTimeout ∧ s.bsq.state.gasOpen = true ∧ dest = .postPurge) →
    ∃ u t, exec c s = .next t ∧ Follows u t
      ∧ (s.bsq.provingFailures < 2 →
          u.bsq.state = dest ∧ u.bsq.provingFailures = s.bsq.provingFailures + 1 ∧ u.bsq.b06Timer = some 60000
          ∧ u.isActive .b06 = true ∧ (∀ k, k ≠ .b06 → u.isActive k = s.isActive k)
          ∧ u.bsq.gasOpen = false ∧ u.ocu.gv1.state ≠ .active ∧ u.ocu.gv2.state ≠ .active ∧ u.locked = false
          ∧ u.bsq.attempts = s.bsq.attempts ∧ u.bsq.gasOpened = s.bsq.gasOpened)
      ∧ (2 ≤ s.bsq.provingFailures →
          LocksOut .f10 { s with bsq := { s.bsq with provingFailures := s.bsq.provingFailures + 1 } } u)

/-- R82, R70, R71, R101, R102, R109: with the flame OFF, the end of the ignition-speed run takes the sequencer into
SAFETY-TIME: a gas channel that is not TRIPPED opens in PULL-IN, the spark is triggered, gas opened is yes, and a command that
a TRIPPED channel ignores is reported: one refused open names the TRIPPED gas channels with the union of their cause sets, and
one names a TRIPPED SPARK with its own. That the duty of PULL-IN is 1000 (log entry 57), and that refused opens wait in a list,
oldest first (log entry 11), is the model's reading. -/
def Obligations.SafetyTimeOpensTheGas : Prop :=
  ∀ s : State, s.powered = true → s.bsq.state = .ignitionSpeed → s.mfe.flameOn = false →
    ∃ u t, exec .ignitionSpeedRunReached s = .next t ∧ Follows u t ∧ Touches [.mfe, .dta, .fre, .bsq, .ocu] s u
      ∧ u.bsq.state = .safetyTime ∧ u.bsq.gasOpen = true ∧ u.bsq.spark = true ∧ u.bsq.gasOpened = true
      ∧ u.bsq.timer = some (s.sto.table.safetyTime.toNat * 1000)
      ∧ u.bsq.fanTarget = s.sto.table.speedFor s.sto.table.ignitionRate
      ∧ (∀ v, (s.ocu.get (valveChannel v)).state = .idle →
          (u.ocu.get (valveChannel v)).state = .active ∧ (u.ocu.get (valveChannel v)).phase = some .pullIn
            ∧ (u.ocu.get (valveChannel v)).duty = 1000 ∧ (u.ocu.coils.get v).pullIn = some s.sto.table.pullIn.toNat)
      ∧ (∀ v, (s.ocu.get (valveChannel v)).state = .tripped → (u.ocu.get (valveChannel v)).state = .tripped)
      ∧ (s.ocu.spark.state = .idle ∨ s.ocu.spark.state = .held →
          u.ocu.spark.state = .active ∧ u.ocu.spark.pulseCount = 0)
      ∧ (s.ocu.spark.state = .tripped → u.ocu.spark.state = .tripped)
      ∧ u.bsq.refusedOpens = s.bsq.refusedOpens
        ++ (match s.ocu.gv1.state == .tripped, s.ocu.gv2.state == .tripped with
          | true, true => [⟨[.gv1, .gv2], s.ocu.gv1.tripCauses.union s.ocu.gv2.tripCauses⟩]
          | true, false => [⟨[.gv1], s.ocu.gv1.tripCauses⟩]
          | false, true => [⟨[.gv2], s.ocu.gv2.tripCauses⟩]
          | false, false => [])
        ++ (if s.ocu.spark.state = .tripped then [⟨[.spark], s.ocu.spark.tripCauses⟩] else [])
      ∧ u.dta = s.dta ∧ u.fre = s.fre ∧ u.mfe = s.mfe ∧ u.bsq.attempts = s.bsq.attempts

/-- R82, R97, R126: flame proved in SAFETY-TIME stops the spark, clears the fan-proving failure count, counts a burner start and
enters STABILISE with the gas as it is; in any other state the flame state alone changes. -/
def Obligations.FlameProvedLeadsToStabilise : Prop :=
  ∀ s : State, s.powered = true → s.mfe.flameOn = false →
    ∃ u t, exec .flameProved s = .next t ∧ Follows u t
      ∧ u.mfe = { s.mfe with flameOn := true, provingRun := 0, lossRun := 0 }
      ∧ u.flt = { s.flt with conditions := { s.flt.conditions with flame := true } }
      ∧ (s.bsq.state = .safetyTime →
          u.bsq.state = .stabilise ∧ u.bsq.timer = some (s.sto.table.stabilise.toNat * 1000) ∧ u.bsq.provingFailures = 0
          ∧ u.bsq.spark = false ∧ u.ocu.spark.state ≠ .active ∧ u.bsq.gasOpen = s.bsq.gasOpen
          ∧ u.ocu.gv1 = s.ocu.gv1 ∧ u.ocu.gv2 = s.ocu.gv2 ∧ u.ocu.coils = s.ocu.coils
          ∧ u.bsq.fanTarget = s.sto.table.speedFor s.sto.table.ignitionRate
          ∧ u.sto = { s.sto with counters := { s.sto.counters with
              burnerStarts := min 4294967295 (s.sto.counters.burnerStarts + 1) } }
          ∧ u.bsq.attempts = s.bsq.attempts ∧ u.bsq.recycleUsed = s.bsq.recycleUsed ∧ u.dta = s.dta ∧ u.fre = s.fre)
      ∧ (s.bsq.state ≠ .safetyTime → u = { s with mfe := u.mfe, flt := u.flt })

/-- R83, R93: a failed attempt, at the expiry of the safety time and at a flame lost in STABILISE, with no gas channel TRIPPED:
one more attempt, then INTER-PURGE below the attempts of the table and F01 with LOCKOUT otherwise. R90, R91: with GV1 or GV2
TRIPPED either event is taken as that trip: F04 with LIMIT among its causes, POST-PURGE without, and no attempt counts. -/
def Obligations.FailedAttemptPurgesOrLocksOut : Prop :=
  (∀ (s v : State) (c : Instr), s.powered = true → s.locked = false → s.ocu.gv1.state ≠ .tripped →
    s.ocu.gv2.state ≠ .tripped →
    (c = .safetyTimeExpiry ∧ s.bsq.state = .safetyTime ∧ v = s
      ∨ c = .flameLost ∧ s.bsq.state = .stabilise ∧ s.mfe.flameOn = true ∧ v = { s with
          mfe := { s.mfe with flameOn := false, provingRun := 0, lossRun := 0 }
          flt := { s.flt with conditions := { s.flt.conditions with flame := false } }
          bsq := { s.bsq with strayTime := 0 } }) →
    let w := { v with bsq := { v.bsq with attempts := s.bsq.attempts + 1 } }
    ∃ u t, exec c s = .next t ∧ Follows u t
      ∧ ((s.bsq.attempts : Int) + 1 < s.sto.table.attempts → EntersState .interPurge w u
          ∧ u.bsq.attempts = s.bsq.attempts + 1 ∧ u.bsq.fanTarget = s.sto.table.purgeSpeed.toNat
          ∧ u.bsq.recycleUsed = s.bsq.recycleUsed)
      ∧ (s.sto.table.attempts ≤ (s.bsq.attempts : Int) + 1 → LocksOut .f01 w u)) ∧
  (∀ (s v : State) (c : Instr) (causes : TripSet), s.powered = true → s.locked = false →
    (s.ocu.gv1.state = .tripped ∧ s.ocu.gv2.state ≠ .tripped ∧ causes = s.ocu.gv1.tripCauses
      ∨ s.ocu.gv1.state ≠ .tripped ∧ s.ocu.gv2.state = .tripped ∧ causes = s.ocu.gv2.tripCauses
      ∨ s.ocu.gv1.state = .tripped ∧ s.ocu.gv2.state = .tripped
        ∧ causes = s.ocu.gv1.tripCauses.union s.ocu.gv2.tripCauses) →
    (c = .safetyTimeExpiry ∧ s.bsq.state = .safetyTime ∧ v = s
      ∨ c = .flameLost ∧ s.bsq.state = .stabilise ∧ s.mfe.flameOn = true ∧ v = { s with
          mfe := { s.mfe with flameOn := false, provingRun := 0, lossRun := 0 }
          flt := { s.flt with conditions := { s.flt.conditions with flame := false } }
          bsq := { s.bsq with strayTime := 0 } }) →
    ∃ u t, exec c s = .next t ∧ Follows u t ∧ u.bsq.attempts = s.bsq.attempts ∧ u.bsq.recycleUsed = s.bsq.recycleUsed
      ∧ (causes.limit = true → LocksOut .f04 v u)
      ∧ (causes.limit = false → EntersState .postPurge v u))

/-- R86, R51, R42: a flame lost in RUNNING with no gas channel TRIPPED: the first in a burn is recycled through INTER-PURGE with
the attempt count kept, the firing-rate record stopped and the pump overrun started; the second locks out with F02. R90, R91:
with GV1 or GV2 TRIPPED the loss is taken as that trip: F04 with LIMIT among its causes, POST-PURGE without, and the recycle
is not used. -/
def Obligations.FlameLossInRunningIsRecycledOnce : Prop :=
  (∀ s : State, s.powered = true → s.locked = false → s.bsq.state = .running → s.mfe.flameOn = true →
    s.ocu.gv1.state ≠ .tripped → s.ocu.gv2.state ≠ .tripped →
    let v := { s with
      mfe := { s.mfe with flameOn := false, provingRun := 0, lossRun := 0 }
      flt := { s.flt with conditions := { s.flt.conditions with flame := false } }
      bsq := { s.bsq with strayTime := 0 } }
    ∃ u t, exec .flameLost s = .next t ∧ Follows u t ∧ u.bsq.gasOpen = false ∧ u.mfe.flameOn = false
      ∧ u.fre = { s.fre with lastRate := 0, served := .none, chTimer := none, reason := .none }
      ∧ (s.bsq.recycleUsed = false → EntersState .interPurge v u
          ∧ u.bsq.recycleUsed = true ∧ u.bsq.attempts = s.bsq.attempts ∧ u.bsq.gasOpened = s.bsq.gasOpened
          ∧ (s.dta.divState = .atDhw ∨ s.dta.divState = .movingToDhw → u.dta.overrun = some (.dhw, 30000))
          ∧ (s.dta.divState = .atCh ∨ s.dta.divState = .movingToCh → 0 < s.sto.settings.chOverrunMin →
              u.dta.overrun = some (.ch, s.sto.settings.chOverrunMin.toNat * 60000)))
      ∧ (s.bsq.recycleUsed = true → LocksOut .f02 v u)) ∧
  (∀ (s : State) (causes : TripSet), s.powered = true → s.locked = false → s.bsq.state = .running → s.mfe.flameOn = true →
    (s.ocu.gv1.state = .tripped ∧ s.ocu.gv2.state ≠ .tripped ∧ causes = s.ocu.gv1.tripCauses
      ∨ s.ocu.gv1.state ≠ .tripped ∧ s.ocu.gv2.state = .tripped ∧ causes = s.ocu.gv2.tripCauses
      ∨ s.ocu.gv1.state = .tripped ∧ s.ocu.gv2.state = .tripped
        ∧ causes = s.ocu.gv1.tripCauses.union s.ocu.gv2.tripCauses) →
    let v := { s with
      mfe := { s.mfe with flameOn := false, provingRun := 0, lossRun := 0 }
      flt := { s.flt with conditions := { s.flt.conditions with flame := false } }
      bsq := { s.bsq with strayTime := 0 } }
    ∃ u t, exec .flameLost s = .next t ∧ Follows u t ∧ u.bsq.attempts = s.bsq.attempts
      ∧ u.bsq.recycleUsed = s.bsq.recycleUsed ∧ u.mfe.flameOn = false
      ∧ u.fre = { s.fre with lastRate := 0, served := .none, chTimer := none, reason := .none }
      ∧ (causes.limit = true → LocksOut .f04 v u)
      ∧ (causes.limit = false → EntersState .postPurge v u))

/-- R89: a flame that has stood for the stray-flame limit in a state that supervises it locks out with F03. R95, R74: at the
end of the lockout purge, and of what IDLE carries on of it, the fan target is 0. R97: a burner minute is counted in STABILISE
and in RUNNING. -/
def Obligations.SequencerTimersAct : Prop :=
  (∀ s : State, s.powered = true → s.locked = false → s.mfe.flameOn = true →
    s.bsq.state ∈ [.idle, .preCheck, .prePurge, .ignitionSpeed, .interPurge, SeqState.postPurge] →
    ∃ u t, exec .strayFlameTimeLimit s = .next t ∧ Follows u t ∧ LocksOut .f03 s u) ∧
  (∀ (s : State) (c : Instr), s.powered = true →
    (c = .lockoutPurgeEnd ∧ s.bsq.state = .lockout ∨ c = .lockoutPurgeRemainderEnd ∧ s.bsq.state = .idle) →
    ∃ t, exec c s = .next t ∧ Follows { s with
      bsq := { s.bsq with purgeLeft := 0, fanTarget := 0 }
      ocu := s.ocu.commandFan 0 } t) ∧
  (∀ s : State, s.powered = true → s.bsq.state = .stabilise ∨ s.bsq.state = .running →
    ∃ t, exec .burnerMinute s = .next t
      ∧ t.sto.counters = { s.sto.counters with burnerMinutes := min 4294967295 (s.sto.counters.burnerMinutes + 1) }
      ∧ EndsFrom { s with
          bsq := { s.bsq with burnerPart := 0 }
          sto := { s.sto with counters := t.sto.counters } } t)

/-- R90, R109: the sequencer takes the oldest trip report or refused open, by the state it stands in. With LIMIT in its cause
set it locks out with F04; in START-CHECK F04 joins the pending causes once, and in LOCKOUT F04 is recorded during lockout, or
ignored where it is the cause. With COND or EXT alone it withdraws the gas into POST-PURGE from SAFETY-TIME, STABILISE,
RUNNING, INTER-PURGE and a later IGNITION-SPEED, goes to IDLE from PRE-CHECK, PRE-PURGE and a first IGNITION-SPEED, and does
nothing in START-CHECK, IDLE, POST-PURGE and LOCKOUT. That reports wait in lists and are taken oldest first (log entry 11),
that the record made in LOCKOUT takes the first empty slot (log entry 56), and that its number stops at 4,294,967,295 (log
entry 19), are the model's choices. -/
def Obligations.TripReportsAreTaken : Prop :=
  ∀ (s v : State) (c : Instr) (causes : TripSet), s.powered = true →
    ((∃ rest, c = .tripReport ∧ s.bsq.tripReports = causes :: rest ∧ v = { s with bsq := { s.bsq with tripReports := rest } })
      ∨ ∃ r rest, c = .refusedOpen ∧ s.bsq.refusedOpens = r :: rest ∧ r.causes = causes
          ∧ v = { s with bsq := { s.bsq with refusedOpens := rest } }) →
    ∃ u t, exec c s = .next t ∧ Follows u t
      ∧ (causes.limit = true →
          (s.locked = false → s.bsq.state ≠ .startCheck → s.bsq.state ≠ .lockout → LocksOut .f04 v u)
          ∧ (s.bsq.state = .startCheck → u = { v with bsq := { v.bsq with
              pendingCauses := if .f04 ∈ s.bsq.pendingCauses then s.bsq.pendingCauses else s.bsq.pendingCauses ++ [.f04] } })
          ∧ (s.bsq.state = .lockout → s.locked = true → s.isActive .f04 = true → u = v)
          ∧ (s.bsq.state = .lockout → s.locked = true → s.isActive .f04 = false →
              Touches [.flt, .sto] v u ∧ u.flt.active = s.flt.active ∧ u.flt.lockout = s.flt.lockout
              ∧ (s.flt.ringBuilt = true → newestSlot (fun r => r.raises .f04) s.flt.ring = none →
                  u.flt.ring = s.flt.ring.set (slotForNew s.flt.ring) ⟨some
                    { kind := .raised, key := .f04, source := none, seqState := .lockout, flow := s.flow, rate := 0
                      raiseStamp := s.minute, clearedStamp := none, count := 1, duringLockout := true
                      number := min 4294967295 (s.flt.lastCreation + 1) }, none⟩)))
      ∧ (causes.limit = false →
          (s.bsq.state ∈ [.safetyTime, .stabilise, .running, SeqState.interPurge] → EntersState .postPurge v u)
          ∧ (s.bsq.state ∈ [.preCheck, SeqState.prePurge] → EntersState .idle v u)
          ∧ (s.bsq.state = .ignitionSpeed → EntersState (if s.bsq.gasOpened then .postPurge else .idle) v u)
          ∧ (s.bsq.state ∈ [.startCheck, .idle, .postPurge, SeqState.lockout] → u = v))

/-! ### The output channel unit -/

/-- R75, R105, R106, R108, R110: a trip line that has been low for 20 µs and was inactive: SPARK, GV1 and GV2 are TRIPPED with
the line among their causes and no re-arm waits, the line is recorded, one trip report with the union of the three cause sets
joins the sequencer's, and COND and EXT raise b07 and b08 where LIMIT is reported as a locking condition. Re-arms that waited
are reported refused, each with its channel's causes and the lines, which in PRE-CHECK leads to IDLE. Nothing else changes.
R105, R107, R110: a trip line that has been high for 20 µs and was active is recorded inactive, its fault or condition goes,
and every channel stays as it is: a LATCHED channel leaves TRIPPED only by a re-arm. A shorter pulse on either edge does
nothing but let the event end. R118: the coil supervision of a gas channel that was ACTIVE starts again at rest, and any other
goes on. That IDLE is reached from PRE-CHECK in the line's own event (log entry 10), that reports wait in a list (log entry
11) and that the sequencer's record holds the refusals (log entry 66) is the model's reading. -/
def Obligations.TripLinesActOnTheThreeChannels : Prop :=
  (∀ (s : State) (line : TripLine) (lowFor : Nat), s.powered = true → 20 ≤ lowFor → s.ocu.lines.get line = false →
    let causesOf := fun ch => (s.ocu.get ch).tripCauses.set line true
    let causes := ((causesOf .spark).union (causesOf .gv1)).union (causesOf .gv2)
    let waiting := [.spark, .gv1, Channel.gv2].filter fun ch => (s.ocu.get ch).rearmPending
    ∃ v w u t, exec (.tripLineActive line lowFor) s = .next t ∧ Follows u t
      ∧ v = { s with
          ocu := v.ocu
          bsq := { s.bsq with
            tripReports := s.bsq.tripReports ++ [causes]
            rearmRefusals := if waiting = [] then s.bsq.rearmRefusals else
              waiting.map fun ch => ⟨ch, causesOf ch, s.ocu.lines.set line true⟩ } }
      ∧ v.ocu.lines = s.ocu.lines.set line true ∧ v.ocu.dtTimer = s.ocu.dtTimer ∧ v.ocu.test = s.ocu.test
      ∧ (∀ ch ∈ [.spark, .gv1, Channel.gv2], v.ocu.get ch = { s.ocu.get ch with
          state := .tripped, phase := none, duty := 0, compareA := 0, tripCauses := causesOf ch, rearmPending := false })
      ∧ (∀ g, v.ocu.coils.get g = if (s.ocu.get (valveChannel g)).state = .active then
          { s.ocu.coils.get g with pullIn := none, checks := 0, nextCheck := some 100 } else s.ocu.coils.get g)
      ∧ (∀ ch ∉ [.spark, .gv1, Channel.gv2], v.ocu.get ch = s.ocu.get ch)
      ∧ (s.bsq.state = .preCheck → waiting ≠ [] → EntersState .idle v w)
      ∧ (s.bsq.state ≠ .preCheck ∨ waiting = [] → w = v)
      ∧ (line = .limit → u = { w with flt := { w.flt with conditions := { w.flt.conditions with limit := true } } })
      ∧ (line = .cond → EntersKey .b07 w u)
      ∧ (line = .ext → EntersKey .b08 w u)) ∧
  (∀ (s : State) (line : TripLine) (highFor : Nat), s.powered = true → 20 ≤ highFor → s.ocu.lines.get line = true →
    ∃ u t, exec (.tripLineInactive line highFor) s = .next t ∧ Follows u t ∧ Touches [.ocu, .flt, .prt, .sto] s u
      ∧ u.ocu = { s.ocu with lines := s.ocu.lines.set line false }
      ∧ (line = .limit → u.flt = { s.flt with conditions := { s.flt.conditions with limit := false } } ∧ u.prt = s.prt)
      ∧ (line = .cond → LeavesKey .b07 { s with ocu := u.ocu } u)
      ∧ (line = .ext → LeavesKey .b08 { s with ocu := u.ocu } u)) ∧
  (∀ (s : State) (line : TripLine) (n : Nat), s.powered = true → n < 20 →
    (∃ t, exec (.tripLineInactive line n) s = .next t ∧ Follows s t)
      ∧ ∃ t, exec (.tripLineActive line n) s = .next t ∧ Follows s t)

/-- R99, R101, R102, R108: a period start: a re-arm that waits completes, leaving the channel IDLE without trip causes and
reported done; a train that is ACTIVE gives one more pulse; FAN, PUMP and a valve in HOLD take their duty into the waveform.
R102: the pull-in of an open valve ends in HOLD at the hold duty taken at the open command, with a coil check 10 ms later. -/
def Obligations.PeriodStartsAndPullInEnds : Prop :=
  (∀ (s : State) (ch : Channel), s.powered = true → ch ∈ [.fan, .pump, .spark, .gv1, Channel.gv2] →
    let r := s.ocu.get ch
    ∃ u t, exec (.channelPeriodStart ch) s = .next t ∧ Follows u t ∧ Touches [.bsq, .ocu, .clock] s u
      ∧ (∀ d, d ≠ ch → u.ocu.get d = s.ocu.get d) ∧ u.ocu.lines = s.ocu.lines ∧ u.ocu.coils = s.ocu.coils
      ∧ (r.rearmPending = true → (u.ocu.get ch).state = .idle ∧ (u.ocu.get ch).tripCauses = ⟨false, false, false⟩
          ∧ (u.ocu.get ch).rearmPending = false)
      ∧ (r.rearmPending = false → (u.ocu.get ch).state = r.state ∧ (u.ocu.get ch).tripCauses = r.tripCauses ∧ u.bsq = s.bsq)
      ∧ (ch = .spark → r.rearmPending = true → u.bsq.sparkRearmed = true)
      ∧ (ch = .gv1 → r.rearmPending = true → u.bsq.valveRearmed.gv1 = true)
      ∧ (ch = .gv2 → r.rearmPending = true → u.bsq.valveRearmed.gv2 = true)
      ∧ (ch = .spark → r.rearmPending = false → r.state = .active → (u.ocu.get ch).pulseCount = min 255 (r.pulseCount + 1))
      ∧ (ch = .fan ∨ ch = .pump → r.rearmPending = false → r.state = .active → (u.ocu.get ch).compareA = r.duty)
      ∧ (ch = .gv1 ∨ ch = .gv2 → r.rearmPending = false → r.phase = some .hold → (u.ocu.get ch).compareA = r.duty)
      ∧ (u.ocu.get ch).duty = r.duty ∧ (u.ocu.get ch).owner = r.owner ∧ (u.ocu.get ch).testLevel = r.testLevel) ∧
  (∀ (s : State) (v : GasValve), s.powered = true → (s.ocu.get (valveChannel v)).state = .active →
    (s.ocu.get (valveChannel v)).phase = some .pullIn →
    ∃ u t, exec (.pullInEnd v) s = .next t ∧ Follows u t ∧ Touches [.ocu] s u
      ∧ u.ocu.get (valveChannel v)
        = { s.ocu.get (valveChannel v) with phase := some .hold, duty := (s.ocu.coils.get v).holdDuty }
      ∧ u.ocu.coils.get v = { s.ocu.coils.get v with pullIn := none, nextCheck := some 10 }
      ∧ ∀ d, d ≠ valveChannel v → u.ocu.get d = s.ocu.get d)

/-- R116 to R118, R92: a coil check, in HOLD against the hold band of 60 mA to 400 mA, and IDLE or TRIPPED against zero, below
10 mA: a right current sets the count to 0 and clears the flag, a wrong one counts, and the third in a run, unless the flag
stands, is a coil fault: its report names the channel and the kind, OPEN or SHORT by that third reading in HOLD and LIVE at
rest. It locks out with F07; in START-CHECK F07 joins the pending causes once, and in LOCKOUT it is recorded during lockout,
or ignored where it is the cause. An idle check hands over whether the coil is at zero. That the last report is held (log entry
66), that a reading above 1,000 mA counts as 1,000 mA (log entry 32), that the record takes the first empty slot (log entry
56) and that its number stops at 4,294,967,295 (log entry 19) are the model's choices. -/
def Obligations.CoilChecksCountToThree : Prop :=
  ∀ (s v : State) (valve : GasValve) (current : Nat) (right : Bool) (kind : CoilFaultKind) (c : Instr), s.powered = true →
    (c = .coilCheckHold valve current ∧ (s.ocu.get (valveChannel valve)).state = .active
        ∧ (s.ocu.get (valveChannel valve)).phase = some .hold ∧ right = decide (60 ≤ current ∧ current ≤ 400)
        ∧ kind = (if 400 < current then .shortCircuit else .openCircuit) ∧ v.bsq = s.bsq
      ∨ c = .coilCheckIdle valve current ∧ (s.ocu.get (valveChannel valve)).state ∈ [.idle, ChannelState.tripped]
        ∧ right = decide (current < 10) ∧ kind = .live
        ∧ v.bsq = { s.bsq with coilZero := s.bsq.coilZero.set valve right }) →
    (let k := s.ocu.coils.get valve
      let checks := if right ∨ 2 ≤ k.checks then 0 else k.checks + 1
      let flag := if right then false else k.faultFlag || decide (2 ≤ k.checks)
      let k' := { k with reading := min 1000 current, nextCheck := some 100, checks := checks, faultFlag := flag }
      v = { s with bsq := v.bsq, ocu := { s.ocu with coils := s.ocu.coils.set valve k' } }) →
    ∃ u t, exec c s = .next t ∧ Follows u t
      ∧ (right = false → 2 ≤ (s.ocu.coils.get valve).checks → (s.ocu.coils.get valve).faultFlag = false →
          let w := { v with bsq := { v.bsq with coilReport := some ⟨valve, kind⟩ } }
          u.bsq.coilReport = some ⟨valve, kind⟩
          ∧ (s.locked = false → s.bsq.state ≠ .startCheck → s.bsq.state ≠ .lockout → LocksOut .f07 w u)
          ∧ (s.bsq.state = .startCheck → u = { w with bsq := { w.bsq with
              pendingCauses := if .f07 ∈ s.bsq.pendingCauses then s.bsq.pendingCauses else s.bsq.pendingCauses ++ [.f07] } })
          ∧ (s.bsq.state = .lockout → s.locked = true → s.isActive .f07 = true → u = w)
          ∧ (s.bsq.state = .lockout → s.locked = true → s.isActive .f07 = false →
              Touches [.flt, .sto] w u ∧ u.flt.active = s.flt.active ∧ u.flt.lockout = s.flt.lockout
              ∧ (s.flt.ringBuilt = true → newestSlot (fun r => r.raises .f07) s.flt.ring = none →
                  u.flt.ring = s.flt.ring.set (slotForNew s.flt.ring) ⟨some
                    { kind := .raised, key := .f07, source := none, seqState := .lockout, flow := s.flow, rate := 0
                      raiseStamp := s.minute, clearedStamp := none, count := 1, duringLockout := true
                      number := min 4294967295 (s.flt.lastCreation + 1) }, none⟩)))
      ∧ (right = true ∨ (s.ocu.coils.get valve).checks < 2 ∨ (s.ocu.coils.get valve).faultFlag = true → u = v)

/-- R111, R114: a step of the fan loop moves the duty by a sixteenth of the speed error, by 40 ‰ at most, within 0 to 1000, and
holds it at 0 with target 0; a step of the pump loop moves its duty by 50 ‰ outside the band of 2.0 K about the target, within
300 to 1000, and starts the 5 s timer again. R189: the test timer's expiry empties the list and hands the channels back. -/
def Obligations.OutputLoopsStep : Prop :=
  (∀ s : State, s.powered = true →
    let target := s.ocu.fan.testLevel.getD s.ocu.fan.owner.fanRpm
    ∃ u t, exec .fanLoopStep s = .next t ∧ Follows u t ∧ Touches [.ocu, .clock] s u
      ∧ u.ocu = { s.ocu with fan := { s.ocu.fan with duty := if target = 0 then 0 else
          (clampInt 0 1000 ((s.ocu.fan.duty : Int)
            + clampInt (-40) 40 (divz ((target : Int) - s.mfe.fanSpeed) 16))).toNat } }
      ∧ u.clock = { s.clock with fanStepDue := false }) ∧
  (∀ s : State, s.powered = true → s.ocu.dtTimer.isSome = true →
    let target := s.sto.settings.pumpDtTarget
    let step : Int := match s.deltaT with
      | none => 0
      | some x => if target + 20 < x then 50 else if x < target - 20 then -50 else 0
    ∃ t, exec .pumpDtStepTimerExpiry s = .next t ∧ Follows { s with
      ocu := { s.ocu with
        pump := { s.ocu.pump with duty := (clampInt 300 1000 ((s.ocu.pump.duty : Int) + step)).toNat }
        dtTimer := some 5000 } } t) ∧
  (∀ s : State, s.powered = true → s.ocu.test.timer.isSome = true →
    ∃ u t, exec .outputTestTimerExpiry s = .next t ∧ Follows u t ∧ Touches [.dta, .ocu] s u
      ∧ u.ocu.test = ⟨[], none, .expired⟩ ∧ u.ocu.lines = s.ocu.lines ∧ u.ocu.gv1 = s.ocu.gv1 ∧ u.ocu.gv2 = s.ocu.gv2
      ∧ (∀ c ∈ s.ocu.test.listed.map Prod.fst, (u.ocu.get (testTarget c)).testLevel = none)
      ∧ (.diverter ∈ s.ocu.test.listed.map Prod.fst →
          u.dta = { s.dta with divState := .movingToCh, divLeft := 8000, homing := true })
      ∧ (.diverter ∉ s.ocu.test.listed.map Prod.fst → u.dta = s.dta))

end

section
open Sys2Proof Sys2Proof.Machine

/-! ### The reset counter, operating time and the store writer -/

/-- R125, R176, R177: a decay takes one from the reset counter and starts its timer again above 0, and clears A12 at four; an
operating minute counts up and marks the counters block at each multiple of 60; a write that reads back leaves its block good
with what the write carried, and any other is marked dirty again. After every step the write in flight carries its item's
contents as they stand, or the item is marked dirty again. R184: so a burner start, a burner minute or an operating minute
counted while the counters block is being written marks it. -/
def Obligations.CountersDecayAndAreWritten : Prop :=
  (∀ s : State, s.powered = true → s.flt.decay.isSome = true → 0 < s.flt.resetCounter →
    ∃ t, exec .decayTimerExpiry s = .next t ∧ t.flt.resetCounter = s.flt.resetCounter - 1
      ∧ t.flt.decay = (if s.flt.resetCounter = 1 then none else some 180000) ∧ t.flt.lockout = s.flt.lockout
      ∧ t.isActive .a12 = (s.isActive .a12 && decide (s.flt.resetCounter ≠ 5))
      ∧ (∀ k, k ≠ .a12 → t.isActive k = s.isActive k) ∧ Marked .lockout t) ∧
  (∀ s : State, s.powered = true →
    ∃ t, exec .operatingMinute s = .next t
      ∧ t.sto.counters = { s.sto.counters with minutes := min 4294967294 (s.sto.counters.minutes + 1) }
      ∧ t.clock = { s.clock with minuteStart := s.clock.now } ∧ t.flt.active = s.flt.active
      ∧ (min 4294967294 (s.sto.counters.minutes + 1) % 60 = 0 → Marked .counters t)) ∧
  (∀ (s : State) (w : Write), s.powered = true → s.sto.inFlight = some w → s.sto.startup = none →
    ∃ u t, exec (.storeWriteEnd true) s = .next t ∧ Follows u t
      ∧ u.sto = { s.sto with inFlight := none, nv := u.sto.nv } ∧ u = { s with sto := u.sto }
      ∧ (match w.image with
        | .lockout c => u.sto.nv = { s.sto.nv with lockout := ⟨c, crc16 (lockoutBlockWords c)⟩ }
        | .combustion c => u.sto.nv = { s.sto.nv with combustion := ⟨c, crc16 (tableWords c)⟩ }
        | .settings c => u.sto.nv = { s.sto.nv with settings := ⟨c, crc16 (settingsWords c)⟩ }
        | .counters c => u.sto.nv = { s.sto.nv with counters := ⟨c, crc16 (counterWords c)⟩ }
        | .slot n c => u.sto.nv = { s.sto.nv with history := s.sto.nv.history.set n ⟨c, crc16 (historySlotWords c)⟩ })) ∧
  (∀ (s : State) (w : Write), s.powered = true → s.sto.inFlight = some w →
    ∃ t, exec (.storeWriteEnd false) s = .next t ∧ Marked w.image.item t) ∧
  (KeptByStep WriterLaw) ∧
  (∀ (s : State) (w : Write) (c : Instr), s.powered = true → s.sto.inFlight = some w → w.image = .counters s.sto.counters →
    (c = .burnerMinute ∧ (s.bsq.state = .stabilise ∨ s.bsq.state = .running) ∧ s.sto.counters.burnerMinutes < 4294967295
      ∨ c = .flameProved ∧ s.bsq.state = .safetyTime ∧ s.mfe.flameOn = false ∧ s.sto.counters.burnerStarts < 4294967295
      ∨ c = .operatingMinute ∧ s.sto.counters.minutes < 4294967294) →
    ∃ t, exec c s = .next t ∧ StoreItem.counters ∈ t.sto.dirty ∧ t.sto.inFlight = some w)

/-! ### The room loop -/

/-- R143, R145, R146, R147, R154: a poll tick names the next enabled slot and its poll falls due, and does nothing without
one; with the loop off it is a miss of that slot and the on-time run stands. An idle line starts the POLL, eleven bytes from
the slot's number to a check byte that makes the sum 0xFF: flow, outlet, mode, burner request, lockout present and displayed
key, and counts it; its 86.7 ms on the line are 87 ms of the model's clock (log entry 5). The window of 150 ms opens as it has
been sent. A poll that finds no idle line is skipped, which is a miss, sets the on-time run to 0 and raises A10. An inbound
current step breaks the idle stretch. -/
def Obligations.PollsAreSentOrSkipped : Prop :=
  (∀ (s : State) (n : RoomSlot), s.powered = true → s.rlc.exchange = .none → s.rlc.offTimer = none →
    (slotsAfter s.rlc.pointer).find? (fun n => (s.rlc.slots.get n).enable) = some n →
    ∃ t, exec .pollTick s = .next t ∧ Follows { s with
      rlc := { s.rlc with pointer := some n, exchange := .waiting n 0, dropped := false }
      clock := { s.clock with pollTickDue := false } } t) ∧
  (∀ s : State, s.powered = true → s.rlc.exchange = .none → (∀ n, (s.rlc.slots.get n).enable = false) →
    ∃ t, exec .pollTick s = .next t ∧ Follows { s with clock := { s.clock with pollTickDue := false } } t) ∧
  (∀ (s : State) (n : RoomSlot), s.powered = true → s.rlc.exchange = .none → s.rlc.offTimer.isSome = true →
    (slotsAfter s.rlc.pointer).find? (fun n => (s.rlc.slots.get n).enable) = some n →
    ∃ t, exec .pollTick s = .next t ∧ t.rlc.pointer = some n ∧ t.rlc.exchange = .none
      ∧ (t.rlc.slots.get n).misses = min 255 ((s.rlc.slots.get n).misses + 1)
      ∧ (∀ m, m ≠ n → t.rlc.slots.get m = s.rlc.slots.get m)
      ∧ t.rlc.onTimeRun = s.rlc.onTimeRun ∧ t.rlc.pollsSent = s.rlc.pollsSent
      ∧ t.rlc.skippedPolls = s.rlc.skippedPolls ∧ t.rlc.offTimer = s.rlc.offTimer) ∧
  (∀ (s : State) (n : RoomSlot) (since : Nat), s.powered = true → s.rlc.exchange = .waiting n since → s.isActive .a10 = false →
    ∃ t, exec .pollStart s = .next t
      ∧ EndsFrom { s with rlc := { s.rlc with
          poll := t.rlc.poll, exchange := .sending n 87, pollsSent := min 65535 (s.rlc.pollsSent + 1)
          onTimeRun := min 10 (s.rlc.onTimeRun + 1) } } t
      ∧ t.rlc.poll.length = 11 ∧ t.rlc.poll.foldl (· + ·) 0 = 0xFF
      ∧ t.rlc.poll.take 6 = [BitVec.ofNat 8 (slotNumber n), 1] ++ wordBytes (tempWord s.flow) ++ wordBytes (tempWord s.outlet)
      ∧ t.rlc.poll[6]? = some (match s.rlc.planMode with | .none => (0 : Byte) | .ch => 1 | .dhw => 2 | .service => 3)
      ∧ t.rlc.poll[7]? = some (if s.rlc.planRequest then 1 else 0)
      ∧ t.rlc.poll[8]? = some (if s.rlc.lockoutPresent then 1 else 0)
      ∧ t.rlc.poll[9]? = some (BitVec.ofNat 8 (displayedCode s.rlc.displayed))) ∧
  (∀ (s : State) (n : RoomSlot) (since : Nat), s.powered = true → s.rlc.exchange = .waiting n since → s.rlc.dropped = false →
    ∃ t, exec .pollSkip s = .next t ∧ t.rlc.exchange = .none ∧ t.rlc.onTimeRun = 0
      ∧ t.rlc.skippedPolls = min 65535 (s.rlc.skippedPolls + 1) ∧ t.rlc.pollsSent = s.rlc.pollsSent
      ∧ t.isActive .a10 = true ∧ (t.rlc.slots.get n).misses = min 255 ((s.rlc.slots.get n).misses + 1)
      ∧ ∀ m, m ≠ n → t.rlc.slots.get m = s.rlc.slots.get m) ∧
  (∀ (s : State) (n : RoomSlot) (left : Nat), s.powered = true → s.rlc.exchange = .sending n left →
    ∃ t, exec .pollSendEnd s = .next t ∧ Follows { s with rlc := { s.rlc with exchange := .window n 150 } } t) ∧
  (∀ s : State, s.powered = true →
    ∃ t, exec .inboundCurrentStep s = .next t ∧ Follows { s with rlc := { s.rlc with idle := 0 } } t)

/-- R141, R147, R148: a preamble in an open window starts a reception into an empty FIFO and outside one starts none; a byte
is appended, with the level flag above 24 bytes; a byte past 32 and a code violation flush the FIFO, end the reception and
count a bad frame, and after them no preamble starts a reception until the line has been idle for four bit times; a window
that closes with no reception in progress ends the exchange as missed, and with one leaves it to the end of the reception. -/
def Obligations.ReceptionFillsTheFifo : Prop :=
  (∀ (s : State) (n : RoomSlot) (left : Nat), s.powered = true → s.rlc.exchange = .window n left → s.rlc.receiving = none →
    s.rlc.offTimer = none →
    (s.rlc.broken = false → ∃ t, exec .preambleRecognised s = .next t ∧ Follows { s with rlc := { s.rlc with
      receiving := some n, foreign := false, fifo := [], level := false, idle := 0 } } t)
    ∧ (s.rlc.broken = true → ∃ t, exec .preambleRecognised s = .next t ∧ Follows { s with rlc := { s.rlc with idle := 0 } } t)
    ∧ (s.rlc.dropped = false → ∃ t, exec .answerWindowClose s = .next t ∧ t.rlc.exchange = .none
      ∧ (t.rlc.slots.get n).misses = min 255 ((s.rlc.slots.get n).misses + 1)
      ∧ ∀ m, m ≠ n → t.rlc.slots.get m = s.rlc.slots.get m)) ∧
  (∀ (s : State) (n m : RoomSlot) (left : Nat), s.powered = true → s.rlc.exchange = .window n left →
    s.rlc.receiving = some m →
    ∃ t, exec .answerWindowClose s = .next t ∧ Follows { s with rlc := { s.rlc with exchange := .closing n } } t) ∧
  (∀ s : State, s.powered = true → s.rlc.exchange = .none → s.rlc.offTimer = none → s.rlc.receiving = none →
    ∃ t, exec .preambleRecognised s = .next t ∧ Follows { s with rlc := { s.rlc with foreign := true, idle := 0 } } t) ∧
  (∀ (s : State) (n : RoomSlot) (b : Byte), s.powered = true → s.rlc.receiving = some n → s.rlc.fifo.length < 24 →
    ∃ t, exec (.receiveByte b) s = .next t
      ∧ Follows { s with rlc := { s.rlc with fifo := s.rlc.fifo ++ [b], level := false } } t) ∧
  (∀ (s : State) (n : RoomSlot) (b : Byte), s.powered = true → s.rlc.receiving = some n → s.rlc.fifo.length = 24 →
    s.rlc.dropped = false → s.rlc.level = false → s.rlc.exchange.answerable n = true →
    ∃ t, exec (.receiveByte b) s = .next t ∧ t.rlc.fifo = s.rlc.fifo ++ [b] ∧ t.rlc.level = true ∧ t.rlc.exchange = .none
      ∧ (t.rlc.slots.get n).misses = min 255 ((s.rlc.slots.get n).misses + 1)) ∧
  (∀ (s : State) (n : RoomSlot) (c : Instr), s.powered = true → s.rlc.receiving = some n →
    (c = .codeViolation ∨ ∃ b, c = .receiveByte b ∧ 32 ≤ s.rlc.fifo.length) →
    ∃ t, exec c s = .next t ∧ t.rlc.fifo = [] ∧ t.rlc.level = false ∧ t.rlc.receiving = none ∧ t.rlc.broken = true
      ∧ (t.rlc.slots.get n).bad = min 65535 ((s.rlc.slots.get n).bad + 1)
      ∧ (t.rlc.slots.get n).good = (s.rlc.slots.get n).good)

/-- R27, R121, R152: the third miss makes a BOUND slot SILENT, with its entry held; the tenth makes a SILENT slot LOST, with
its entry removed and A02 for the slot raised. Each posts its SLOT notice, after the RAISED of an A02 that was not active. No
other slot changes. -/
def Obligations.MissesSilenceAndLoseASlot : Prop :=
  (∀ (s : State) (n : RoomSlot), s.powered = true → (s.rlc.slots.get n).state = .bound →
    ∃ u t, exec (.slotSilent n) s = .next t ∧ Follows u t ∧ Touches [.rlc, .dta, .prt] s u
      ∧ u.rlc.slots.get n = { s.rlc.slots.get n with misses := 3, state := .silent }
      ∧ (∀ m, m ≠ n → u.rlc.slots.get m = s.rlc.slots.get m)
      ∧ u.dta.table.get (.room n) = (s.dta.table.get (.room n)).map (fun e => { e with held := true })
      ∧ (∀ src, src ≠ .room n → u.dta.table.get src = s.dta.table.get src)
      ∧ u.prt = s.prt.post (.slot n .silent)) ∧
  (∀ (s : State) (n : RoomSlot), s.powered = true → (s.rlc.slots.get n).state = .silent →
    ∃ u t, exec (.slotLost n) s = .next t ∧ Follows u t ∧ Touches [.rlc, .dta, .flt, .prt, .sto] s u
      ∧ u.rlc.slots.get n = { s.rlc.slots.get n with misses := 10, state := .lost }
      ∧ (∀ m, m ≠ n → u.rlc.slots.get m = s.rlc.slots.get m)
      ∧ u.dta.table.get (.room n) = none
      ∧ (∀ src, src ≠ .room n → u.dta.table.get src = s.dta.table.get src)
      ∧ u.isActive (.a02 n) = true ∧ (∀ k, k ≠ .a02 n → u.isActive k = s.isActive k)
      ∧ u.prt = (if s.isActive (.a02 n) then s.prt else s.prt.post (.raised (.a02 n))).post (.slot n .lost))

/-- R142, R144, R147, R151, R27: a valid REPORT in the exchange of its slot: the FIFO is emptied, the exchange is over, the
slot is BOUND with no misses and one more good frame, its REPORT is kept, and the ROOM entry is the one that the REPORT gives.
A frame that is not a valid REPORT counts as bad and leaves the slot's state and the entry. An answer that was being received
as the window closed counts like one within it, and a frame that is none ends the exchange as a miss. R153: a reset request
field that rises asks for a lockout reset where remote reset is allowed, and is counted as ignored where it is not; one that
stays up asks for nothing. That the exchange is over with its answer (log entry 40), and that a flow request, setpoint or
actual of −32,768 is clamped as a number (log entry 59), are the model's choices. -/
def Obligations.ValidReportBindsTheSlot : Prop :=
  (∀ (s : State) (n : RoomSlot) (rep : Report), s.powered = true →
    ((∃ left, s.rlc.exchange = .window n left) ∨ s.rlc.exchange = .closing n) → s.rlc.receiving = some n → s.rlc.dropped = false →
    readReport n s.rlc.fifo = some rep → (rep.reset = true → (s.rlc.slots.get n).lastReset = true) →
    ∃ t, exec .inboundFrameEnd s = .next t ∧ t.rlc.fifo = [] ∧ t.rlc.level = false ∧ t.rlc.exchange = .none
      ∧ t.rlc.receiving = none
      ∧ t.rlc.slots.get n = { s.rlc.slots.get n with
          good := min 65535 ((s.rlc.slots.get n).good + 1), misses := 0, lastReport := some rep, state := .bound
          lastReset := rep.reset }
      ∧ (∀ m, m ≠ n → t.rlc.slots.get m = s.rlc.slots.get m)
      ∧ t.dta.table.get (.room n) = some ⟨rep.heat, if rep.flowRequest = 0 then none else some (clampInt 200 900 rep.flowRequest),
          if rep.setpoint = 0 then none else some ⟨clampInt 50 300 rep.setpoint, clampInt 0 400 rep.actual⟩, none, none,
          (s.rlc.slots.get n).zone, none, false⟩
      ∧ (∀ m, m ≠ n → t.dta.table.get (.room m) = s.dta.table.get (.room m)) ∧ t.dta.table.board = s.dta.table.board
      ∧ ((s.rlc.slots.get n).state = .lost → t.isActive (.a02 n) = false)
      ∧ ((s.rlc.slots.get n).state = .bound → t.prt.notices = s.prt.notices)) ∧
  (∀ (s : State) (n : RoomSlot) (left : Nat), s.powered = true → s.rlc.exchange = .window n left →
    s.rlc.receiving = some n → readReport n s.rlc.fifo = none →
    ∃ t, exec .inboundFrameEnd s = .next t ∧ t.rlc.fifo = [] ∧ t.rlc.receiving = none ∧ t.rlc.exchange = .window n left
      ∧ t.rlc.slots.get n = { s.rlc.slots.get n with bad := min 65535 ((s.rlc.slots.get n).bad + 1) }
      ∧ t.dta.table.room = s.dta.table.room ∧ t.prt.notices = s.prt.notices) ∧
  (∀ (s : State) (n : RoomSlot), s.powered = true → s.rlc.exchange = .closing n → s.rlc.receiving = some n →
    s.rlc.dropped = false → readReport n s.rlc.fifo = none →
    ∃ t, exec .inboundFrameEnd s = .next t ∧ t.rlc.fifo = [] ∧ t.rlc.receiving = none ∧ t.rlc.exchange = .none
      ∧ (t.rlc.slots.get n).bad = min 65535 ((s.rlc.slots.get n).bad + 1)
      ∧ (t.rlc.slots.get n).misses = min 255 ((s.rlc.slots.get n).misses + 1)
      ∧ (t.rlc.slots.get n).good = (s.rlc.slots.get n).good ∧ ∀ m, m ≠ n → t.rlc.slots.get m = s.rlc.slots.get m) ∧
  (∀ (s : State) (n : RoomSlot) (rep : Report), s.powered = true →
    ((∃ left, s.rlc.exchange = .window n left) ∨ s.rlc.exchange = .closing n) → s.rlc.receiving = some n → s.rlc.dropped = false →
    readReport n s.rlc.fifo = some rep → rep.reset = true → (s.rlc.slots.get n).lastReset = false →
    ∃ t, exec .inboundFrameEnd s = .next t ∧ (t.rlc.slots.get n).state = .bound ∧ (t.rlc.slots.get n).lastReset = true
      ∧ (s.sto.settings.remoteReset = false →
          (t.rlc.slots.get n).ignoredResets = min 65535 ((s.rlc.slots.get n).ignoredResets + 1)
          ∧ t.flt.lockout = s.flt.lockout ∧ t.flt.resetCounter = s.flt.resetCounter)
      ∧ (s.sto.settings.remoteReset = true → (t.rlc.slots.get n).ignoredResets = (s.rlc.slots.get n).ignoredResets)
      ∧ (s.sto.settings.remoteReset = true → s.locked = true → s.bsq.state ≠ .startCheck → s.flt.resetCounter < 5 →
          s.flt.conditions = ⟨false, false, false, false, false⟩ →
          t.flt.lockout = none ∧ t.flt.resetCounter = s.flt.resetCounter + 1 ∧ t.bsq.state ≠ .lockout
          ∧ (s.prt.notices.length < 10 → Notice.reset .accepted (.room n) ∈ t.prt.notices)))

/-- R154, R155: a short cuts the loop power for 10 s, counts, stops the clean timer, raises A11 and ends the exchange and the
reception; at the end of the off time power returns, the clean timer of 60 s starts, and the line is not idle for 20 ms. -/
def Obligations.LoopShortCutsThePower : Prop :=
  (∀ (s : State) (current lasted : Nat), s.powered = true → 60 < current → 5 ≤ lasted → s.rlc.offTimer = none →
    ∃ t, exec (.loopShort current lasted) s = .next t ∧ t.rlc.offTimer = some 10000 ∧ t.rlc.cleanTimer = none
      ∧ t.rlc.shorts = min 65535 (s.rlc.shorts + 1) ∧ t.rlc.exchange = .none ∧ t.rlc.receiving = none ∧ t.rlc.fifo = []
      ∧ t.rlc.level = false ∧ t.isActive .a11 = true ∧ t.rlc.onTimeRun = s.rlc.onTimeRun ∧ t.rlc.pollsSent = s.rlc.pollsSent
      ∧ (s.rlc.dropped = false → ∀ n, s.rlc.exchange.slot = some n →
          (t.rlc.slots.get n).misses = min 255 ((s.rlc.slots.get n).misses + 1)
          ∧ (t.rlc.slots.get n).bad = (s.rlc.slots.get n).bad)) ∧
  (∀ s : State, s.powered = true → s.rlc.offTimer.isSome = true →
    ∃ t, exec .loopOffTimerExpiry s = .next t
      ∧ Follows { s with rlc :=
          { s.rlc with offTimer := none, cleanTimer := some 60000, idle := 0, broken := false, restoring := 20 } } t)

/-! ### Port frames -/

/-- R158: a COLLECT frame is answered by the first case that applies: BUSY with the overrun flag set, which is cleared;
NOT-READY; NONE; READY with the reply, COLLECTED once its last byte has been clocked out; AGAIN with the same reply. The bytes
on SDO are those of the frame table of 08 §8.1, cut or filled with 0 to the length clocked; that, and that BUSY clears the flag
however few bytes are clocked, is the model's reading (log entry 38). -/
def Obligations.CollectIsAnsweredByTheFirstCase : Prop :=
  ∀ (s : State) (clocked : Nat), s.powered = true → 1 ≤ clocked →
    let sdo := fun (status : Byte) (body : List Byte) =>
      ([0, status] ++ wordBytes (natWord body.length) ++ body ++ List.replicate clocked 0).take clocked
    ∃ t, exec (.collectFrame clocked) s = .next t ∧ t.prt.overrunFlag = false ∧ t.prt.reply = s.prt.reply
      ∧ (s.prt.overrunFlag = true → t.prt.sdo = sdo 3 [] ∧ t.prt.replyState = s.prt.replyState)
      ∧ (s.prt.overrunFlag = false → s.prt.replyState = .processing → t.prt.sdo = sdo 2 [] ∧ t.prt.replyState = .processing)
      ∧ (s.prt.overrunFlag = false → s.prt.replyState = .empty → t.prt.sdo = sdo 4 [] ∧ t.prt.replyState = .empty)
      ∧ (s.prt.overrunFlag = false → s.prt.replyState = .ready → t.prt.sdo = sdo 0 s.prt.reply
          ∧ t.prt.replyState = if 4 + s.prt.reply.length ≤ clocked then .collected else .ready)
      ∧ (s.prt.overrunFlag = false → s.prt.replyState = .collected → t.prt.sdo = sdo 1 s.prt.reply
          ∧ t.prt.replyState = .collected)
      ∧ t.prt.service = s.prt.service ∧ t.prt.notices = s.prt.notices

/-- R156, R157, R159, R160, R173: a REQUEST is taken into PROCESSING with its commands, or is an overrun; a frame of the
service port with a right check, begun outside another, is taken while the port is free, and is an overrun otherwise; a wrong
check, a length of 0 and a stop-bit error each make a bad frame; an incomplete frame counts nothing until a gap ends it, or
ends a run of discarded bytes, as one bad frame; bad frames do nothing else. A reply that has been sent frees the service
port, and it, the full collection or the hold of 100 ms delivers the reply of the frame that asked for a soft reset; a REQUEST
that replaces that reply leaves the hold alone to deliver it (log entry 41), and the collection of another reply does not. -/
def Obligations.FramesAreTakenOrCounted : Prop :=
  (∀ (s : State) (bytes : List Byte), s.powered = true → bytes.length ≤ 2080 → s.prt.replyState ≠ .processing →
    ∃ t, exec (.controlRequestFrame bytes) s = .next t ∧ t.prt.replyState = .processing ∧ t.prt.overrunFlag = false
      ∧ t.prt.reply = [] ∧ t.prt.control.counters.frames = min 65535 (s.prt.control.counters.frames + 1)
      ∧ t.prt.control.frame.todo = (takeCommands 16 bytes).1 ∧ t.prt.control.frame.badTail = (takeCommands 16 bytes).2
      ∧ t.prt.control.frame.unlock = false ∧ t.prt.control.frame.body = [] ∧ t.prt.service = s.prt.service
      ∧ (∀ r hold, s.prt.softReset = some r → r.port = .control → r.reply = .ready hold →
          t.prt.softReset = some { r with reply := .replaced hold })) ∧
  (∀ (s : State) (bytes : List Byte), s.powered = true → bytes.length ≤ 2080 → s.prt.replyState = .processing →
    ∃ t, exec (.controlRequestFrame bytes) s = .next t ∧ t.prt.replyState = .processing ∧ t.prt.overrunFlag = true
      ∧ t.prt.control.frame = s.prt.control.frame ∧ t.prt.reply = s.prt.reply
      ∧ t.prt.control.counters = { s.prt.control.counters with
          frames := min 65535 (s.prt.control.counters.frames + 1)
          overruns := min 65535 (s.prt.control.counters.overruns + 1) }) ∧
  (∀ (s : State) (bytes rest : List Byte) (b : Byte) (c : Instr), s.powered = true →
    (c = .controlBadFrame bytes ∧ bytes = b :: rest ∧ b ≠ 1 ∧ b ≠ 2 ∨ c = .controlRequestFrame bytes ∧ 2080 < bytes.length) →
    ∃ t, exec c s = .next t ∧ EndsFrom { s with prt := { s.prt with control := { s.prt.control with
      counters := { s.prt.control.counters with
        badFrames := min 65535 (s.prt.control.counters.badFrames + 1) } } } } t) ∧
  (∀ (s : State) (commands : List Byte) (check : Byte) (stopBitError : Bool), s.powered = true → 1 ≤ commands.length →
    commands.length ≤ 255 → (∀ bytes e, s.prt.receiver ≠ .inFrame bytes e) →
    let bytes := [0xC3, BitVec.ofNat 8 commands.length] ++ commands ++ [check]
    let good := stopBitError = false ∧ bytes.foldl (· + ·) 0 = 0
    ∃ t, exec (.serviceRequestFrame bytes stopBitError) s = .next t ∧ t.prt.control = s.prt.control ∧ t.prt.receiver = .idle
      ∧ (good → s.prt.serviceState = .free → t.prt.serviceState = .processing ∧ t.prt.staged = none
          ∧ t.prt.service.counters = { s.prt.service.counters with
              frames := min 65535 (s.prt.service.counters.frames + 1) }
          ∧ t.prt.service.frame.todo = (takeCommands 16 commands).1 ∧ t.prt.service.frame.unlock = false)
      ∧ (good → s.prt.serviceState ≠ .free → t.prt.serviceState = s.prt.serviceState
          ∧ t.prt.service = { s.prt.service with counters := { s.prt.service.counters with
              overruns := min 65535 (s.prt.service.counters.overruns + 1) } })
      ∧ (¬ good → t.prt.serviceState = s.prt.serviceState
          ∧ t.prt.service = { s.prt.service with counters := { s.prt.service.counters with
              badFrames := min 65535 (s.prt.service.counters.badFrames + 1) } })) ∧
  (∀ (s : State) (rest : List Byte) (stopBitError : Bool), s.powered = true →
    (∀ bytes e, s.prt.receiver ≠ .inFrame bytes e) → 0xC3 ∉ rest →
    ∃ t, exec (.serviceRequestFrame (0xC3 :: 0 :: rest) stopBitError) s = .next t
      ∧ EndsFrom { s with prt := { s.prt with
          receiver := if rest = [] then .idle else .discarding
          service := { s.prt.service with counters := { s.prt.service.counters with
            badFrames := min 65535 (s.prt.service.counters.badFrames + 1) } } } } t) ∧
  (∀ (s : State) (len : Byte) (rest : List Byte) (stopBitError : Bool), s.powered = true →
    (∀ bytes e, s.prt.receiver ≠ .inFrame bytes e) → len ≠ 0 → rest.length ≤ len.toNat →
    ∃ t, exec (.serviceRequestFrame (0xC3 :: len :: rest) stopBitError) s = .next t
      ∧ EndsFrom { s with prt := { s.prt with receiver := .inFrame (0xC3 :: len :: rest) stopBitError } } t) ∧
  (∀ s : State, s.powered = true → s.prt.receiver ≠ .idle →
    ∃ t, exec .serviceFrameGap s = .next t ∧ EndsFrom { s with prt := { s.prt with
      receiver := .idle
      service := { s.prt.service with counters := { s.prt.service.counters with
        badFrames := min 65535 (s.prt.service.counters.badFrames + 1) } } } } t) ∧
  (∀ (s : State) (left : Nat), s.powered = true → s.prt.serviceState = .sending left →
    ∃ t, exec .serviceReplySent s = .next t ∧ t.prt.serviceState = .free ∧ t.prt.service = s.prt.service
      ∧ (∀ r hold, s.prt.softReset = some r → r.port = .service → r.reply = .ready hold →
          t.prt.softReset = some { r with reply := .delivered })) ∧
  (∀ (s : State) (r : SoftReset) (clocked : Nat), s.powered = true → s.prt.softReset = some r → r.port = .control →
    s.prt.overrunFlag = false → s.prt.replyState = .ready → 4 + s.prt.reply.length ≤ clocked →
    ∃ t, exec (.collectFrame clocked) s = .next t ∧ t.prt.replyState = .collected
      ∧ (∀ hold, r.reply = .ready hold → t.prt.softReset = some { r with reply := .delivered })
      ∧ (∀ hold, r.reply = .replaced hold → t.prt.softReset = some r)) ∧
  (∀ (s : State) (r : SoftReset) (hold : Nat), s.powered = true → s.prt.softReset = some r → r.port = .control →
    r.reply = .ready hold ∨ r.reply = .replaced hold →
    ∃ t, exec .controlReplyHoldExpiry s = .next t
      ∧ Follows { s with prt := { s.prt with softReset := some { r with reply := .delivered } } } t)

/-- R167, R157, R159, R166, R180: the end of a frame whose commands have all been executed: the commit byte ends the reply. A
valid staged table is adopted in IDLE and in LOCKOUT, with the table's locking condition cleared, and is discarded with
DISCARDED-BUSY in any other state; before that a command that returned NO-UNLOCK gives DISCARDED-UNLOCK, a word refused with
VALUE DISCARDED-VALUE, and a staged copy that is not a valid table DISCARDED-INVALID, each with the table in use unchanged; a
frame of either port without a combustion write commits nothing. That DISCARDED-INVALID also stands for a combustion write
that staged nothing (log entry 68), and that the reply takes its line time rounded up to whole milliseconds (log entry 5), are
the model's choices. -/
def Obligations.FrameEndCommitsTheTable : Prop :=
  (∀ (s : State) (table : CombustionTable), s.powered = true → s.prt.serviceState = .processing →
    s.prt.service.frame.todo = [] → s.prt.service.frame.badTail = false → s.prt.service.frame.combustionWrite = true →
    s.prt.service.frame.noUnlock = false → s.prt.service.frame.valueRefused = false → s.prt.staged = some table →
    table.valid = true →
    ∃ t, exec (.frameProcessingEnd .service) s = .next t ∧ t.prt.staged = none ∧ t.prt.service.frame.unlock = false
      ∧ t.prt.service.frame.body = [] ∧ t.prt.control = s.prt.control
      ∧ (s.bsq.state = .idle ∨ s.bsq.state = .lockout →
          t.sto.table = table ∧ t.sto.tableValid = true ∧ Marked .combustion t
          ∧ t.flt.conditions = { s.flt.conditions with table := false } ∧ t.flt.lockout = s.flt.lockout
          ∧ t.prt.txd = serviceReply (s.prt.service.frame.body ++ [1]))
      ∧ (s.bsq.state ≠ .idle → s.bsq.state ≠ .lockout →
          t.sto.table = s.sto.table ∧ t.flt.conditions = s.flt.conditions
          ∧ t.prt.txd = serviceReply (s.prt.service.frame.body ++ [5]))) ∧
  (∀ s : State, s.powered = true → s.prt.serviceState = .processing → s.prt.service.frame.todo = [] →
    s.prt.service.frame.badTail = false → s.prt.service.frame.combustionWrite = true →
    s.prt.service.frame.noUnlock = true ∨ s.prt.service.frame.valueRefused = true
      ∨ (∀ table, s.prt.staged = some table → table.valid = false) →
    ∃ t, exec (.frameProcessingEnd .service) s = .next t ∧ t.prt.staged = none ∧ t.prt.control = s.prt.control
      ∧ t.sto.table = s.sto.table ∧ t.sto.tableValid = s.sto.tableValid ∧ t.flt.conditions = s.flt.conditions
      ∧ t.prt.txd = serviceReply (s.prt.service.frame.body ++
          [if s.prt.service.frame.noUnlock then 2 else if s.prt.service.frame.valueRefused then 3 else 4])) ∧
  (∀ s : State, s.powered = true → s.prt.replyState = .processing → s.prt.control.frame.todo = [] →
    s.prt.control.frame.badTail = false → s.prt.control.frame.combustionWrite = false →
    ∃ t, exec (.frameProcessingEnd .control) s = .next t ∧ t.prt.replyState = .ready
      ∧ t.prt.reply = s.prt.control.frame.body ++ [0] ∧ t.prt.control.frame.todo = [] ∧ t.prt.control.frame.taken = 0
      ∧ t.prt.control.counters = s.prt.control.counters ∧ t.prt.service = s.prt.service ∧ t.sto.table = s.sto.table) ∧
  (∀ s : State, s.powered = true → s.prt.serviceState = .processing → s.prt.service.frame.todo = [] →
    s.prt.service.frame.badTail = false → s.prt.service.frame.combustionWrite = false →
    ∃ t, exec (.frameProcessingEnd .service) s = .next t ∧ t.prt.staged = none ∧ t.prt.service.frame.unlock = false
      ∧ t.prt.service.frame.body = [] ∧ t.prt.service.counters = s.prt.service.counters ∧ t.prt.control = s.prt.control
      ∧ t.sto.table = s.sto.table ∧ t.sto.tableValid = s.sto.tableValid ∧ t.flt.conditions = s.flt.conditions
      ∧ t.prt.txd = serviceReply (s.prt.service.frame.body ++ [0])
      ∧ t.prt.serviceState = .sending (lineMs (s.prt.service.frame.body.length + 5)))

/-! ### Port commands -/

/-- R160 to R163, R170, R172: a read within one of spaces 0 to 4 returns its words from the address on and leaves the pointer
after them; one that starts past the end is RANGE with no word, one without the right is DENIED, and space 7 is NO-SPACE; a
pop takes the oldest notice, or reads 0xFFFF and clears the overflow flag; a write of six zeros clears a port's counters. That
a command refused as a whole is answered with its status alone, and a count of 0 after a DENIED read, and leaves the pointer
is the model's choice (log entry 30). -/
def Obligations.ReadsAndWritesAreAnswered : Prop :=
  (∀ (s : State) (p : Port) (space : BitVec 3) (a : Word) (n : Nat), s.powered = true → (s.prt.portRecord p).frame.Takes →
    space.toNat ≤ 4 → mayRead p space = true → 1 ≤ n → n ≤ 63 → a.toNat + n ≤ spaceSize space →
    ∃ u t, exec (.readCommand p space (.address a) true n) s = .next t ∧ Follows u t ∧ Touches [.prt] s u
      ∧ Answers p space (a.toNat + n) .ok (BitVec.ofNat 8 n :: (List.range n).flatMap fun i =>
          wordBytes (s.readValue p space (a.toNat + i))) s u
      ∧ (u.prt.portRecord p).counters = (s.prt.portRecord p).counters ∧ u.prt.notices = s.prt.notices) ∧
  (∀ (s : State) (p : Port) (space : BitVec 3) (a : Word) (n : Nat), s.powered = true → (s.prt.portRecord p).frame.Takes →
    space ≠ 7 → mayRead p space = true → 1 ≤ n → n ≤ 63 → spaceSize space ≤ a.toNat → a.toNat < 0xFFF0 →
    ∃ u t, exec (.readCommand p space (.address a) true n) s = .next t ∧ Follows u t ∧ Touches [.prt] s u
      ∧ Answers p space a.toNat .range [0] s u) ∧
  (∀ (s : State) (p : Port) (space : BitVec 3) (a : Word) (step : Bool) (n : Nat), s.powered = true →
    (s.prt.portRecord p).frame.Takes → 1 ≤ n → n ≤ 63 → a.toNat < 0xFFF0 → (space = 7 ∨ mayRead p space = false) →
    ∃ u t, exec (.readCommand p space (.address a) step n) s = .next t ∧ Follows u t ∧ Touches [.prt] s u
      ∧ (u.prt.portRecord p).frame.body
        = (s.prt.portRecord p).frame.body ++ (if space = 7 then [3] else [5, 0])
      ∧ (u.prt.portRecord p).counters.denied = min 65535 ((s.prt.portRecord p).counters.denied + 1)
      ∧ (u.prt.portRecord p).pointers = (s.prt.portRecord p).pointers) ∧
  (∀ s : State, s.powered = true → s.prt.control.frame.Takes →
    ∃ t, exec .noticePop s = .next t
      ∧ (∀ n rest, s.prt.notices = n :: rest → t.prt.notices = rest ∧ t.prt.overflow = s.prt.overflow
          ∧ Answers .control 5 1 .ok (1 :: wordBytes (noticeWord n)) s t)
      ∧ (s.prt.notices = [] → t.prt.notices = [] ∧ t.prt.overflow = false
          ∧ Answers .control 5 1 .ok [1, 0xFF, 0xFF] s t)) ∧
  (∀ (s : State) (p : Port), s.powered = true → (s.prt.portRecord p).frame.Takes →
    ∃ u t, exec (.genericWrite p 6 (.address 0) true [0, 0, 0, 0, 0, 0]) s = .next t ∧ Follows u t ∧ Touches [.prt] s u
      ∧ (u.prt.portRecord p).counters = ⟨0, 0, 0, 0, 0, 0⟩ ∧ Answers p 6 6 .ok [] s u)

/-- R169: the board-expired flag is set, with its note cleared, by every expiry; a read of it while it is set notes the read; a
write of 0 clears the flag and the note where the note stands and is DENIED where it does not, and any other value is VALUE; a
soft reset keeps both, and a power-on or pin reset clears both. -/
def Obligations.BoardExpiredFlagClearsInTwoSteps : Prop :=
  (∀ s : State, s.powered = true → s.prt.heartbeat.isSome = true →
    ∃ t, exec .heartbeatTimerExpiry s = .next t ∧ t.prt.expiredFlag = true ∧ t.prt.expiredNote = false) ∧
  (∀ s : State, s.powered = true → s.prt.control.frame.Takes →
    ∃ t, exec .boardExpiredFlagRead s = .next t ∧ t.prt.expiredFlag = s.prt.expiredFlag
      ∧ t.prt.expiredNote = (s.prt.expiredNote || s.prt.expiredFlag)
      ∧ Answers .control 6 0x23 .ok [1, 0, if s.prt.expiredFlag then 1 else 0] s t) ∧
  (∀ (s : State) (value : Word), s.powered = true → s.prt.control.frame.Takes →
    ∃ t, exec (.boardExpiredFlagWrite value) s = .next t
      ∧ (value = 0 → s.prt.expiredNote = true → t.prt.expiredFlag = false ∧ t.prt.expiredNote = false
          ∧ Answers .control 6 0x23 .ok [] s t ∧ Counts .control .ok s t)
      ∧ (value = 0 → s.prt.expiredNote = false → t.prt.expiredFlag = s.prt.expiredFlag ∧ t.prt.expiredNote = false
          ∧ Answers .control 6 0x23 .denied [] s t ∧ Counts .control .denied s t)
      ∧ (value ≠ 0 → t.prt.expiredFlag = s.prt.expiredFlag ∧ t.prt.expiredNote = s.prt.expiredNote
          ∧ Answers .control 6 0x23 .value [] s t ∧ Counts .control .value s t)) ∧
  (∀ s : State, s.powered = true → s.softResetReady = true →
    ∃ t, exec .softResetEffect s = .next t ∧ t.prt.expiredFlag = s.prt.expiredFlag
      ∧ t.prt.expiredNote = s.prt.expiredNote) ∧
  (∀ (s : State) (c : Instr), c = .powerOnReset ∨ c = .pinReset ∧ s.powered = true →
    ∃ t, exec c s = .next t ∧ t.prt.expiredFlag = false ∧ t.prt.expiredNote = false)

/-- R168: a heartbeat starts supervision and clears A07, or restarts the timer, with a timeout of 2 to 60 s; any other high
byte is VALUE. At the expiry supervision stops, the BOARD entry is removed, A07 is raised, and BRST is low for 10 ms where the
setting says so. -/
def Obligations.HeartbeatSupervisesTheBoard : Prop :=
  (∀ (s : State) (value : Word), s.powered = true → s.prt.control.frame.Takes → (value.extractLsb' 8 8).toNat = 0x5A →
    let low := (value.extractLsb' 0 8).toNat
    let timeout := clampNat 2 60 low
    ∃ t, exec (.heartbeatWord value) s = .next t ∧ t.prt.heartbeat = some (timeout * 1000) ∧ t.prt.timeout = timeout
      ∧ (s.prt.heartbeat = none → t.isActive .a07 = false)
      ∧ (s.prt.heartbeat.isSome = true → t.isActive .a07 = s.isActive .a07)
      ∧ (∀ k, k ≠ .a07 → t.isActive k = s.isActive k) ∧ t.dta.table.board = s.dta.table.board
      ∧ Answers .control 6 0x20 (if timeout = low then .ok else .clamped) [] s t) ∧
  (∀ (s : State) (value : Word), s.powered = true → s.prt.control.frame.Takes → (value.extractLsb' 8 8).toNat ≠ 0x5A →
    ∃ t, exec (.heartbeatWord value) s = .next t ∧ t.prt.heartbeat = s.prt.heartbeat
      ∧ Answers .control 6 0x20 .value [] s t ∧ Counts .control .value s t) ∧
  (∀ s : State, s.powered = true → s.prt.heartbeat.isSome = true →
    ∃ t, exec .heartbeatTimerExpiry s = .next t ∧ t.prt.heartbeat = none ∧ t.dta.table.board = none
      ∧ t.isActive .a07 = true ∧ (∀ k, k ≠ .a07 → t.isActive k = s.isActive k)
      ∧ (s.sto.settings.boardResetPulse = true → t.prt.brst = some 10)
      ∧ (s.sto.settings.boardResetPulse = false → t.prt.brst = s.prt.brst)
      ∧ t.dta.table.room = s.dta.table.room ∧ t.dta.table.service = s.dta.table.service) ∧
  (∀ s : State, s.powered = true →
    ∃ t, exec .brstPulseEnd s = .next t ∧ Follows { s with prt := { s.prt with brst := none } } t)

/-- R166, R172, R173, R182, R183: words of the PORT and COMBUSTION spaces: a counter takes 0 alone; a working trim offset is
clamped to 2.0 K either way; the unlock word takes 1 alone; under unlock a parameter in range enters the staged copy, made
from the table in use, and a restore replaces it with the factory table, while without unlock both are NO-UNLOCK; a soft reset
is accepted in IDLE and LOCKOUT and BUSY elsewhere. That words outside a frame in process stage nothing, and that a soft reset
so accepted awaits no reply, are the model's choice (log entry 8). -/
def Obligations.PortWordsActByTheirValues : Prop :=
  (∀ (s : State) (p : Port) (k : PortCounter) (value : Word), s.powered = true → (s.prt.portRecord p).frame.Takes →
    ∃ u t, exec (.counterClear p k value) s = .next t ∧ Follows u t ∧ Touches [.prt] s u
      ∧ (value = 0 → Answers p 6 (counterAddress k).toNat .ok [] s u
          ∧ (u.prt.portRecord p).counters = (s.prt.portRecord p).counters.clear k)
      ∧ (value ≠ 0 → Answers p 6 (counterAddress k).toNat .value [] s u ∧ Counts p .value s u)) ∧
  (∀ (s : State) (ch : NtcChannel) (value : Word), s.powered = true → s.prt.service.frame.Takes →
    let x := clampInt (-20) 20 value.toInt
    ∃ u t, exec (.trimOffsetWrite ch value) s = .next t ∧ Follows u t ∧ Touches [.prt, .sto] s u
      ∧ u.sto = { s.sto with trim := { s.sto.trim with offsets := ntcPut s.sto.trim.offsets ch x } }
      ∧ Answers .service 6 (offsetAddress ch).toNat (if x = value.toInt then .ok else .clamped) [] s u) ∧
  (∀ (s : State) (value : Word), s.powered = true → s.prt.service.frame.Takes →
    ∃ u t, exec (.unlockWord value) s = .next t ∧ Follows u t ∧ Touches [.prt] s u
      ∧ u.prt.service.frame.unlock = (s.prt.service.frame.unlock || value == 1)
      ∧ Answers .service 6 0x30 (if value = 1 then .ok else .value) [] s u) ∧
  (∀ (s : State) (a value : Word), s.powered = true → s.prt.service.frame.Takes → a.toNat < 0x13 →
    s.prt.service.frame.unlock = true →
    let stagedAs := fun table => if s.prt.serviceState = .processing then some table else none
    ∃ u t, exec (.combustionWrite .service (.address a) false [value]) s = .next t ∧ Follows u t ∧ Touches [.prt] s u
      ∧ (∀ lo hi, tableRanges[a.toNat]? = some (lo, hi) →
          (lo ≤ (value.toNat : Int) → (value.toNat : Int) ≤ hi →
            u.prt.staged = stagedAs ((s.prt.staged.getD s.sto.table).put a.toNat value.toNat)
              ∧ Answers .service 3 a.toNat .ok [] s u)
          ∧ ((value.toNat : Int) < lo ∨ hi < (value.toNat : Int) →
            u.prt.staged = stagedAs (s.prt.staged.getD s.sto.table) ∧ u.prt.service.frame.valueRefused = true
              ∧ Answers .service 3 a.toNat .value [] s u))) ∧
  (∀ (s : State) (value : Word), s.powered = true → s.prt.service.frame.Takes → s.prt.service.frame.unlock = true →
    ∃ u t, exec (.restoreFactoryTable value) s = .next t ∧ Follows u t ∧ Touches [.prt] s u
      ∧ (value = 1 → u.prt.staged = (if s.prt.serviceState = .processing then some s.sto.trim.factory else none)
          ∧ Answers .service 3 0x30 .ok [] s u)
      ∧ (value ≠ 1 → Answers .service 3 0x30 .value [] s u)) ∧
  (∀ (s : State) (a value : Word) (c : Instr), s.powered = true → s.prt.service.frame.Takes →
    s.prt.service.frame.unlock = false → a.toNat < 0x13 →
    (c = .combustionWrite .service (.address a) false [value] ∨ c = .restoreFactoryTable value) →
    ∃ u t, exec c s = .next t ∧ Follows u t ∧ Touches [.prt] s u ∧ u.prt.staged = s.prt.staged
      ∧ u.prt.service.frame.body = s.prt.service.frame.body ++ [6] ∧ u.prt.service.frame.noUnlock = true
      ∧ Counts .service .noUnlock s u) ∧
  (∀ (s : State) (p : Port) (value : Word), s.powered = true → (s.prt.portRecord p).frame.Takes →
    ∃ u t, exec (.softResetWord p value) s = .next t ∧ Follows u t ∧ Touches [.prt] s u
      ∧ (value = 1 → s.bsq.state = .idle ∨ s.bsq.state = .lockout →
          Answers p 6 0x31 .ok [] s u ∧ (s.prt.softReset.isSome = true → u.prt.softReset = s.prt.softReset)
          ∧ (s.prt.softReset = none → ∃ r, u.prt.softReset = some r ∧ r.port = p ∧ r.flush = s.sto.flushSet
              ∧ r.reply = if s.prt.processing p then .executing else .delivered))
      ∧ (value = 1 → s.bsq.state ≠ .idle → s.bsq.state ≠ .lockout →
          Answers p 6 0x31 .busy [] s u ∧ u.prt.softReset = s.prt.softReset)
      ∧ (value ≠ 1 → Answers p 6 0x31 .value [] s u ∧ u.prt.softReset = s.prt.softReset))

/-- R127, R129, R130, R131, R134, R135, R165: a reset request is judged by the first row that applies and its outcome is the
byte of the reply. Accepted, it ends the lockout: one more on the reset counter, the decay timer, the record, the cause, the
fan-proving count and the sequencer; a RESET record is created, in the first empty slot of a ring that has one (log entry 56),
the newest open RAISED record of the cause and every open record made during lockout are given their cleared stamps, and the
RESET and CLEARED notices are posted. Refused, it leaves the lockout as it is, and the limit raises A12. The history clear
word empties the ring for the service port and is DENIED to the control port. -/
def Obligations.ResetRequestsAreJudged : Prop :=
  (∀ (s : State) (p : Port) (value : Word) (l : Lockout), s.powered = true → (s.prt.portRecord p).frame.Takes →
    s.flt.lockout = some l → s.bsq.state ≠ .startCheck → s.flt.resetCounter < 5 →
    s.flt.conditions = ⟨false, false, false, false, false⟩ →
    ∃ t, exec (.resetRequestWord p value) s = .next t ∧ t.flt.lockout = none ∧ t.flt.resetCounter = s.flt.resetCounter + 1
      ∧ t.flt.decay = (if s.flt.resetCounter = 0 then some 180000 else s.flt.decay) ∧ t.bsq.provingFailures = 0
      ∧ t.bsq.state ≠ .lockout ∧ t.flt.alarmActive = false
      ∧ t.flt.active = dropKey s.flt.active l.cause ∧ Marked .lockout t
      ∧ (t.prt.portRecord p).frame.body = (s.prt.portRecord p).frame.body ++ [0, 0]
      ∧ (s.prt.notices.length ≤ 14 → t.prt.notices
          = s.prt.notices ++ [.reset .accepted (match p with | .control => .control | .service => .service), .cleared l.cause])
      ∧ (s.flt.ringBuilt = true → s.flt.lastCreation < 4294967295 →
          let ring := s.flt.ring.set (slotForNew s.flt.ring) ⟨some
            { kind := .reset, key := l.cause, source := some (match p with | .control => .control | .service => .service)
              seqState := .lockout, flow := s.flow, rate := 0, raiseStamp := s.minute, clearedStamp := none, count := 1
              duringLockout := false, number := s.flt.lastCreation + 1 }, none⟩
          t.flt.lastCreation = s.flt.lastCreation + 1 ∧ Marked (.slot (slotForNew s.flt.ring)) t
            ∧ ∀ i x r, ring[i]? = some x → x.record = some r →
                let stamped := r.clearedStamp = none ∧ (r.duringLockout = true
                  ∨ newestSlot (fun q => q.raises l.cause && q.clearedStamp.isNone) ring = some (i, r))
                (stamped → t.flt.ring[i]? = some ⟨some { r with clearedStamp := some s.minute }, some s.seconds⟩
                    ∧ Marked (.slot i) t)
                ∧ (¬ stamped → t.flt.ring[i]? = some x))) ∧
  (∀ (s : State) (p : Port) (value : Word), s.powered = true → (s.prt.portRecord p).frame.Takes →
    ∃ t, exec (.resetRequestWord p value) s = .next t
      ∧ (s.bsq.state ≠ .startCheck → s.locked = false → t.flt.lockout = none
          ∧ t.flt.resetCounter = s.flt.resetCounter ∧ t.flt.active = s.flt.active
          ∧ (t.prt.portRecord p).frame.body = (s.prt.portRecord p).frame.body ++ [0, 1])
      ∧ (s.bsq.state ≠ .startCheck → s.locked = true → 5 ≤ s.flt.resetCounter → t.flt.lockout = s.flt.lockout
          ∧ t.flt.resetCounter = s.flt.resetCounter ∧ t.isActive .a12 = true
          ∧ (t.prt.portRecord p).frame.body = (s.prt.portRecord p).frame.body ++ [0, 2])
      ∧ (s.bsq.state = .startCheck ∨ s.locked = true ∧ s.flt.resetCounter < 5 ∧ s.flt.conditions.any = true →
          t.flt.lockout = s.flt.lockout ∧ t.flt.resetCounter = s.flt.resetCounter ∧ t.flt.active = s.flt.active
          ∧ (t.prt.portRecord p).frame.body = (s.prt.portRecord p).frame.body ++ [0, 3])) ∧
  (∀ (s : State) (value : Word), s.powered = true → s.prt.service.frame.Takes →
    ∃ t, exec (.historyClearWord .service value) s = .next t ∧ t.flt.ring = List.replicate 32 ⟨none, none⟩
      ∧ t.flt.lastCreation = s.flt.lastCreation ∧ t.flt.active = s.flt.active ∧ t.flt.lockout = s.flt.lockout
      ∧ t.flt.resetCounter = s.flt.resetCounter ∧ Answers .service 4 0x31 .ok [] s t
      ∧ (∀ i < 32, Marked (.slot i) t) ∧ Marked .lockout t) ∧
  (∀ (s : State) (value : Word), s.powered = true → s.prt.control.frame.Takes →
    ∃ u t, exec (.historyClearWord .control value) s = .next t ∧ Follows u t ∧ Touches [.prt] s u
      ∧ Answers .control 4 0x31 .denied [] s u ∧ Counts .control .denied s u)

/-- R24 to R26, R53, R150, R163, R164, R179, R186, R187: the BOARD entry takes its five words in one write under supervision and
is DENIED without it; a SERVICE write makes the entry with its selection, an explicit rate clamped to rmin and the DHW max rate,
and its expiry; the DHW setpoint word is clamped, taken
and marked; an enabled slot starts searching; an output test lists its channel in IDLE without a demand, is BUSY outside IDLE,
with a demand and in a lockout, and VALUE for a channel that it cannot force; with duration 0 it ends a running test with ENDED
and leaves an IDLE one. That an energised level is held as 1 (log entry 72), that the explicit rate and the duration are read
as unsigned (log entry 17), and that settings and slot enables written in START-CHECK before the hand-over are taken at once,
where R149 has no slot enabled until then (log entry 71), are the model's reading. -/
def Obligations.DemandsSettingsAndTestsAreTaken : Prop :=
  (∀ (s : State) (asks flow setpoint actual zone : Word), s.powered = true → s.prt.control.frame.Takes →
    s.prt.heartbeat.isSome = true →
    let old := s.dta.table.board.getD ⟨false, none, none, none, none, none, none, false⟩
    ∃ t status, exec (.demandWrite .control (.address 2) true [asks, flow, setpoint, actual, zone]) s = .next t
      ∧ Answers .control 1 7 status [] s t ∧ (status = .ok ∨ status = .clamped)
      ∧ t.dta.table.board = some { old with
          requesting := asks != 0
          flowRequest := if flow = 0 then none else some (clampInt 200 900 flow.toInt)
          roomPair := if setpoint = 0 then none else some ⟨clampInt 50 300 setpoint.toInt, clampInt 0 400 actual.toInt⟩
          zone := if zone = 1 then some .zone1 else if zone = 2 then some .zone2 else none }
      ∧ t.dta.table.room = s.dta.table.room ∧ t.dta.table.service = s.dta.table.service) ∧
  (∀ (s : State) (asks : Word), s.powered = true → s.prt.control.frame.Takes → s.prt.heartbeat = none →
    ∃ u t, exec (.demandWrite .control (.address 2) true [asks]) s = .next t ∧ Follows u t ∧ Touches [.prt] s u
      ∧ Answers .control 1 3 .denied [] s u ∧ Counts .control .denied s u) ∧
  (∀ (s : State) (p : Port) (selection : Word), s.powered = true → (s.prt.portRecord p).frame.Takes → s.locked = false →
    s.dta.table.service = none → 1 ≤ selection.toNat → selection.toNat ≤ 3 →
    ∃ t, exec (.demandWrite p (.address 0x57) true [selection]) s = .next t ∧ Answers p 1 0x58 .ok [] s t
      ∧ t.dta.table.service = some ⟨true, none, none, selectionOf selection, none, none,
          some (s.clock.now + s.sto.settings.serviceMin.toNat * 60000), false⟩ ∧ t.dta.plan.mode = .service) ∧
  (∀ (s : State) (p : Port) (rate : Word), s.powered = true → (s.prt.portRecord p).frame.Takes → s.locked = false →
    s.dta.table.service = none →
    let r := clampInt s.sto.table.rmin s.sto.table.dhwMax rate.toNat
    ∃ t, exec (.demandWrite p (.address 0x57) true [4, rate]) s = .next t
      ∧ Answers p 1 0x59 (if r = rate.toNat then .ok else .clamped) [] s t
      ∧ t.dta.table.service = some ⟨true, none, none, some .explicit, some r, none,
          some (s.clock.now + s.sto.settings.serviceMin.toNat * 60000), false⟩
      ∧ t.dta.plan.mode = .service ∧ t.dta.plan.sources = [.service]) ∧
  (∀ (s : State) (p : Port) (value : Word), s.powered = true → (s.prt.portRecord p).frame.Takes →
    let x := clampInt 350 600 value.toInt
    ∃ t, exec (.settingsWrite p (.address 0) false [value]) s = .next t
      ∧ t.sto.settings = { s.sto.settings with dhwSetpoint := x } ∧ Marked .settings t ∧ t.isActive .a09 = false
      ∧ Answers p 2 0 (if x = value.toInt then .ok else .clamped) [] s t) ∧
  (∀ (s : State) (p : Port), s.powered = true → (s.prt.portRecord p).frame.Takes → s.rlc.slots.slot1.state = .disabled →
    ∃ t, exec (.settingsWrite p (.address 0x17) false [0x101]) s = .next t
      ∧ t.sto.settings.slots = { s.sto.settings.slots with slot1 := ⟨true, some .zone1⟩ } ∧ Marked .settings t
      ∧ t.rlc.slots.slot1 = { s.rlc.slots.slot1 with
          enable := true, zone := some .zone1, state := .searching, misses := 0, lastReset := false }
      ∧ t.rlc.slots.slot2 = s.rlc.slots.slot2 ∧ Answers p 2 0x17 .ok [] s t) ∧
  (∀ (s : State) (channel level duration : Word) (c : TestChannel), s.powered = true → s.prt.service.frame.Takes →
    testChannelOf channel = some c → 1 ≤ duration.toNat → s.bsq.state = .idle → s.bsq.purgeLeft = 0 → s.locked = false →
    s.dta.anyAsking = false → s.dta.table.keepwarm = none → s.keepwarmBegins = false →
    ∃ t, exec (.outputTestRequest channel level duration) s = .next t
      ∧ t.ocu.test.timer = some (min 60 duration.toNat * 1000) ∧ (c, (testLevelOf c level).1) ∈ t.ocu.test.listed
      ∧ (t.ocu.get (testTarget c)).testLevel = some (testLevelOf c level).1
      ∧ Answers .service 6 0x63 (if (testLevelOf c level).2 ∨ 60 < duration.toNat then .clamped else .ok) [] s t) ∧
  (∀ (s : State) (channel level duration : Word), s.powered = true → s.prt.service.frame.Takes → duration ≠ 0 →
    ∃ u t, exec (.outputTestRequest channel level duration) s = .next t ∧ Follows u t
      ∧ (testChannelOf channel = none → Touches [.prt] s u ∧ Answers .service 6 0x63 .value [] s u)
      ∧ (testChannelOf channel ≠ none → s.bsq.state ≠ .idle ∨ s.dta.anyAsking = true ∨ s.locked = true →
          Touches [.prt] s u ∧ Answers .service 6 0x63 .busy [] s u)) ∧
  (∀ (s : State) (channel level : Word), s.powered = true → s.prt.service.frame.Takes →
    ∃ t, exec (.outputTestRequest channel level 0) s = .next t ∧ Answers .service 6 0x63 .ok [] s t
      ∧ (s.ocu.test.timer.isSome = true → t.ocu.test = ⟨[], none, .ended⟩
          ∧ ∀ c ∈ s.ocu.test.listed.map Prod.fst, (t.ocu.get (testTarget c)).testLevel = none)
      ∧ (s.ocu.test.timer = none → t.ocu.test = s.ocu.test)
      ∧ (s.ocu.test.timer.isSome = true → .diverter ∈ s.ocu.test.listed.map Prod.fst → t.dta.homing = true))

end
end

