-- ==== Sys2Proof/Laws/State.lean ====
section
/-! SUPPORT. One lemma per field of State for each plain update of it: a record that the update does not write stays as it was,
so that no later proof unfolds a record update. -/

namespace Sys2Proof.Machine

/-! #### `State.markDirty` -/

@[simp] theorem State.markDirty_powered (s : State) (i : StoreItem) : (s.markDirty i).powered = s.powered := rfl
@[simp] theorem State.markDirty_mfe (s : State) (i : StoreItem) : (s.markDirty i).mfe = s.mfe := rfl
@[simp] theorem State.markDirty_dta (s : State) (i : StoreItem) : (s.markDirty i).dta = s.dta := rfl
@[simp] theorem State.markDirty_fre (s : State) (i : StoreItem) : (s.markDirty i).fre = s.fre := rfl
@[simp] theorem State.markDirty_bsq (s : State) (i : StoreItem) : (s.markDirty i).bsq = s.bsq := rfl
@[simp] theorem State.markDirty_ocu (s : State) (i : StoreItem) : (s.markDirty i).ocu = s.ocu := rfl
@[simp] theorem State.markDirty_flt (s : State) (i : StoreItem) : (s.markDirty i).flt = s.flt := rfl
@[simp] theorem State.markDirty_rlc (s : State) (i : StoreItem) : (s.markDirty i).rlc = s.rlc := rfl
@[simp] theorem State.markDirty_prt (s : State) (i : StoreItem) : (s.markDirty i).prt = s.prt := rfl
@[simp] theorem State.markDirty_clock (s : State) (i : StoreItem) : (s.markDirty i).clock = s.clock := rfl
@[simp] theorem State.markDirty_pending (s : State) (i : StoreItem) : (s.markDirty i).pending = s.pending := rfl

/-! #### `State.post` -/

@[simp] theorem State.post_powered (s : State) (n : Notice) : (s.post n).powered = s.powered := rfl
@[simp] theorem State.post_mfe (s : State) (n : Notice) : (s.post n).mfe = s.mfe := rfl
@[simp] theorem State.post_dta (s : State) (n : Notice) : (s.post n).dta = s.dta := rfl
@[simp] theorem State.post_fre (s : State) (n : Notice) : (s.post n).fre = s.fre := rfl
@[simp] theorem State.post_bsq (s : State) (n : Notice) : (s.post n).bsq = s.bsq := rfl
@[simp] theorem State.post_ocu (s : State) (n : Notice) : (s.post n).ocu = s.ocu := rfl
@[simp] theorem State.post_flt (s : State) (n : Notice) : (s.post n).flt = s.flt := rfl
@[simp] theorem State.post_rlc (s : State) (n : Notice) : (s.post n).rlc = s.rlc := rfl
@[simp] theorem State.post_sto (s : State) (n : Notice) : (s.post n).sto = s.sto := rfl
@[simp] theorem State.post_clock (s : State) (n : Notice) : (s.post n).clock = s.clock := rfl
@[simp] theorem State.post_pending (s : State) (n : Notice) : (s.post n).pending = s.pending := rfl

/-! #### `State.setFanTarget` -/

@[simp] theorem State.setFanTarget_powered (s : State) (r : Nat) : (s.setFanTarget r).powered = s.powered := rfl
@[simp] theorem State.setFanTarget_mfe (s : State) (r : Nat) : (s.setFanTarget r).mfe = s.mfe := rfl
@[simp] theorem State.setFanTarget_dta (s : State) (r : Nat) : (s.setFanTarget r).dta = s.dta := rfl
@[simp] theorem State.setFanTarget_fre (s : State) (r : Nat) : (s.setFanTarget r).fre = s.fre := rfl
@[simp] theorem State.setFanTarget_flt (s : State) (r : Nat) : (s.setFanTarget r).flt = s.flt := rfl
@[simp] theorem State.setFanTarget_rlc (s : State) (r : Nat) : (s.setFanTarget r).rlc = s.rlc := rfl
@[simp] theorem State.setFanTarget_prt (s : State) (r : Nat) : (s.setFanTarget r).prt = s.prt := rfl
@[simp] theorem State.setFanTarget_sto (s : State) (r : Nat) : (s.setFanTarget r).sto = s.sto := rfl
@[simp] theorem State.setFanTarget_clock (s : State) (r : Nat) : (s.setFanTarget r).clock = s.clock := rfl
@[simp] theorem State.setFanTarget_pending (s : State) (r : Nat) : (s.setFanTarget r).pending = s.pending := rfl

/-! #### `State.formTargets` -/

@[simp] theorem State.formTargets_powered (s : State) : (s.formTargets).powered = s.powered := rfl
@[simp] theorem State.formTargets_mfe (s : State) : (s.formTargets).mfe = s.mfe := rfl
@[simp] theorem State.formTargets_dta (s : State) : (s.formTargets).dta = s.dta := rfl
@[simp] theorem State.formTargets_bsq (s : State) : (s.formTargets).bsq = s.bsq := rfl
@[simp] theorem State.formTargets_ocu (s : State) : (s.formTargets).ocu = s.ocu := rfl
@[simp] theorem State.formTargets_flt (s : State) : (s.formTargets).flt = s.flt := rfl
@[simp] theorem State.formTargets_rlc (s : State) : (s.formTargets).rlc = s.rlc := rfl
@[simp] theorem State.formTargets_prt (s : State) : (s.formTargets).prt = s.prt := rfl
@[simp] theorem State.formTargets_sto (s : State) : (s.formTargets).sto = s.sto := rfl
@[simp] theorem State.formTargets_clock (s : State) : (s.formTargets).clock = s.clock := rfl
@[simp] theorem State.formTargets_pending (s : State) : (s.formTargets).pending = s.pending := rfl

/-! #### `State.leaveFor` -/

@[simp] theorem State.leaveFor_powered (s : State) (q : SeqState) : (s.leaveFor q).powered = s.powered := rfl
@[simp] theorem State.leaveFor_bsq (s : State) (q : SeqState) : (s.leaveFor q).bsq = s.bsq := rfl
@[simp] theorem State.leaveFor_ocu (s : State) (q : SeqState) : (s.leaveFor q).ocu = s.ocu := rfl
@[simp] theorem State.leaveFor_flt (s : State) (q : SeqState) : (s.leaveFor q).flt = s.flt := rfl
@[simp] theorem State.leaveFor_rlc (s : State) (q : SeqState) : (s.leaveFor q).rlc = s.rlc := rfl
@[simp] theorem State.leaveFor_prt (s : State) (q : SeqState) : (s.leaveFor q).prt = s.prt := rfl
@[simp] theorem State.leaveFor_sto (s : State) (q : SeqState) : (s.leaveFor q).sto = s.sto := rfl
@[simp] theorem State.leaveFor_clock (s : State) (q : SeqState) : (s.leaveFor q).clock = s.clock := rfl
@[simp] theorem State.leaveFor_pending (s : State) (q : SeqState) : (s.leaveFor q).pending = s.pending := rfl

/-! #### `State.commandSpark` -/

@[simp] theorem State.commandSpark_powered (s : State) (b : Bool) : (s.commandSpark b).powered = s.powered := rfl
@[simp] theorem State.commandSpark_mfe (s : State) (b : Bool) : (s.commandSpark b).mfe = s.mfe := rfl
@[simp] theorem State.commandSpark_dta (s : State) (b : Bool) : (s.commandSpark b).dta = s.dta := rfl
@[simp] theorem State.commandSpark_fre (s : State) (b : Bool) : (s.commandSpark b).fre = s.fre := rfl
@[simp] theorem State.commandSpark_flt (s : State) (b : Bool) : (s.commandSpark b).flt = s.flt := rfl
@[simp] theorem State.commandSpark_rlc (s : State) (b : Bool) : (s.commandSpark b).rlc = s.rlc := rfl
@[simp] theorem State.commandSpark_prt (s : State) (b : Bool) : (s.commandSpark b).prt = s.prt := rfl
@[simp] theorem State.commandSpark_sto (s : State) (b : Bool) : (s.commandSpark b).sto = s.sto := rfl
@[simp] theorem State.commandSpark_clock (s : State) (b : Bool) : (s.commandSpark b).clock = s.clock := rfl
@[simp] theorem State.commandSpark_pending (s : State) (b : Bool) : (s.commandSpark b).pending = s.pending := rfl

/-! #### `State.askRearm` -/

@[simp] theorem State.askRearm_powered (s : State) : (s.askRearm).powered = s.powered := rfl
@[simp] theorem State.askRearm_mfe (s : State) : (s.askRearm).mfe = s.mfe := rfl
@[simp] theorem State.askRearm_dta (s : State) : (s.askRearm).dta = s.dta := rfl
@[simp] theorem State.askRearm_fre (s : State) : (s.askRearm).fre = s.fre := rfl
@[simp] theorem State.askRearm_flt (s : State) : (s.askRearm).flt = s.flt := rfl
@[simp] theorem State.askRearm_rlc (s : State) : (s.askRearm).rlc = s.rlc := rfl
@[simp] theorem State.askRearm_prt (s : State) : (s.askRearm).prt = s.prt := rfl
@[simp] theorem State.askRearm_sto (s : State) : (s.askRearm).sto = s.sto := rfl
@[simp] theorem State.askRearm_clock (s : State) : (s.askRearm).clock = s.clock := rfl
@[simp] theorem State.askRearm_pending (s : State) : (s.askRearm).pending = s.pending := rfl

/-! #### `State.guardTap` -/

@[simp] theorem State.guardTap_powered (s : State) : (s.guardTap).powered = s.powered := rfl
@[simp] theorem State.guardTap_mfe (s : State) : (s.guardTap).mfe = s.mfe := rfl
@[simp] theorem State.guardTap_fre (s : State) : (s.guardTap).fre = s.fre := rfl
@[simp] theorem State.guardTap_bsq (s : State) : (s.guardTap).bsq = s.bsq := rfl
@[simp] theorem State.guardTap_ocu (s : State) : (s.guardTap).ocu = s.ocu := rfl
@[simp] theorem State.guardTap_flt (s : State) : (s.guardTap).flt = s.flt := rfl
@[simp] theorem State.guardTap_rlc (s : State) : (s.guardTap).rlc = s.rlc := rfl
@[simp] theorem State.guardTap_prt (s : State) : (s.guardTap).prt = s.prt := rfl
@[simp] theorem State.guardTap_sto (s : State) : (s.guardTap).sto = s.sto := rfl
@[simp] theorem State.guardTap_clock (s : State) : (s.guardTap).clock = s.clock := rfl
@[simp] theorem State.guardTap_pending (s : State) : (s.guardTap).pending = s.pending := rfl

/-! #### `State.judgeKeepwarm` -/

@[simp] theorem State.judgeKeepwarm_powered (s : State) : (s.judgeKeepwarm).powered = s.powered := rfl
@[simp] theorem State.judgeKeepwarm_mfe (s : State) : (s.judgeKeepwarm).mfe = s.mfe := rfl
@[simp] theorem State.judgeKeepwarm_fre (s : State) : (s.judgeKeepwarm).fre = s.fre := rfl
@[simp] theorem State.judgeKeepwarm_bsq (s : State) : (s.judgeKeepwarm).bsq = s.bsq := rfl
@[simp] theorem State.judgeKeepwarm_ocu (s : State) : (s.judgeKeepwarm).ocu = s.ocu := rfl
@[simp] theorem State.judgeKeepwarm_flt (s : State) : (s.judgeKeepwarm).flt = s.flt := rfl
@[simp] theorem State.judgeKeepwarm_rlc (s : State) : (s.judgeKeepwarm).rlc = s.rlc := rfl
@[simp] theorem State.judgeKeepwarm_prt (s : State) : (s.judgeKeepwarm).prt = s.prt := rfl
@[simp] theorem State.judgeKeepwarm_sto (s : State) : (s.judgeKeepwarm).sto = s.sto := rfl
@[simp] theorem State.judgeKeepwarm_clock (s : State) : (s.judgeKeepwarm).clock = s.clock := rfl
@[simp] theorem State.judgeKeepwarm_pending (s : State) : (s.judgeKeepwarm).pending = s.pending := rfl

/-! #### `State.judgePause` -/

@[simp] theorem State.judgePause_powered (s : State) : (s.judgePause).powered = s.powered := rfl
@[simp] theorem State.judgePause_mfe (s : State) : (s.judgePause).mfe = s.mfe := rfl
@[simp] theorem State.judgePause_fre (s : State) : (s.judgePause).fre = s.fre := rfl
@[simp] theorem State.judgePause_bsq (s : State) : (s.judgePause).bsq = s.bsq := rfl
@[simp] theorem State.judgePause_ocu (s : State) : (s.judgePause).ocu = s.ocu := rfl
@[simp] theorem State.judgePause_flt (s : State) : (s.judgePause).flt = s.flt := rfl
@[simp] theorem State.judgePause_rlc (s : State) : (s.judgePause).rlc = s.rlc := rfl
@[simp] theorem State.judgePause_prt (s : State) : (s.judgePause).prt = s.prt := rfl
@[simp] theorem State.judgePause_sto (s : State) : (s.judgePause).sto = s.sto := rfl
@[simp] theorem State.judgePause_clock (s : State) : (s.judgePause).clock = s.clock := rfl
@[simp] theorem State.judgePause_pending (s : State) : (s.judgePause).pending = s.pending := rfl

/-! #### `State.evaluate` -/

@[simp] theorem State.evaluate_powered (s : State) : (s.evaluate).powered = s.powered := rfl
@[simp] theorem State.evaluate_mfe (s : State) : (s.evaluate).mfe = s.mfe := rfl
@[simp] theorem State.evaluate_fre (s : State) : (s.evaluate).fre = s.fre := rfl
@[simp] theorem State.evaluate_bsq (s : State) : (s.evaluate).bsq = s.bsq := rfl
@[simp] theorem State.evaluate_ocu (s : State) : (s.evaluate).ocu = s.ocu := rfl
@[simp] theorem State.evaluate_flt (s : State) : (s.evaluate).flt = s.flt := rfl
@[simp] theorem State.evaluate_prt (s : State) : (s.evaluate).prt = s.prt := rfl
@[simp] theorem State.evaluate_sto (s : State) : (s.evaluate).sto = s.sto := rfl
@[simp] theorem State.evaluate_clock (s : State) : (s.evaluate).clock = s.clock := rfl
@[simp] theorem State.evaluate_pending (s : State) : (s.evaluate).pending = s.pending := rfl

/-! #### `State.driveOutputs` -/

@[simp] theorem State.driveOutputs_powered (s : State) : (s.driveOutputs).powered = s.powered := rfl
@[simp] theorem State.driveOutputs_mfe (s : State) : (s.driveOutputs).mfe = s.mfe := rfl
@[simp] theorem State.driveOutputs_dta (s : State) : (s.driveOutputs).dta = s.dta := rfl
@[simp] theorem State.driveOutputs_fre (s : State) : (s.driveOutputs).fre = s.fre := rfl
@[simp] theorem State.driveOutputs_bsq (s : State) : (s.driveOutputs).bsq = s.bsq := rfl
@[simp] theorem State.driveOutputs_flt (s : State) : (s.driveOutputs).flt = s.flt := rfl
@[simp] theorem State.driveOutputs_rlc (s : State) : (s.driveOutputs).rlc = s.rlc := rfl
@[simp] theorem State.driveOutputs_prt (s : State) : (s.driveOutputs).prt = s.prt := rfl
@[simp] theorem State.driveOutputs_sto (s : State) : (s.driveOutputs).sto = s.sto := rfl
@[simp] theorem State.driveOutputs_clock (s : State) : (s.driveOutputs).clock = s.clock := rfl
@[simp] theorem State.driveOutputs_pending (s : State) : (s.driveOutputs).pending = s.pending := rfl

/-! #### `State.drivePins` -/

@[simp] theorem State.drivePins_powered (s : State) : (s.drivePins).powered = s.powered := rfl
@[simp] theorem State.drivePins_mfe (s : State) : (s.drivePins).mfe = s.mfe := rfl
@[simp] theorem State.drivePins_dta (s : State) : (s.drivePins).dta = s.dta := rfl
@[simp] theorem State.drivePins_fre (s : State) : (s.drivePins).fre = s.fre := rfl
@[simp] theorem State.drivePins_bsq (s : State) : (s.drivePins).bsq = s.bsq := rfl
@[simp] theorem State.drivePins_ocu (s : State) : (s.drivePins).ocu = s.ocu := rfl
@[simp] theorem State.drivePins_sto (s : State) : (s.drivePins).sto = s.sto := rfl
@[simp] theorem State.drivePins_clock (s : State) : (s.drivePins).clock = s.clock := rfl
@[simp] theorem State.drivePins_pending (s : State) : (s.drivePins).pending = s.pending := rfl

/-! #### `State.putSlot` -/

@[simp] theorem State.putSlot_powered (s : State) (i : Nat) (x : HistorySlot) : (s.putSlot i x).powered = s.powered := rfl
@[simp] theorem State.putSlot_mfe (s : State) (i : Nat) (x : HistorySlot) : (s.putSlot i x).mfe = s.mfe := rfl
@[simp] theorem State.putSlot_dta (s : State) (i : Nat) (x : HistorySlot) : (s.putSlot i x).dta = s.dta := rfl
@[simp] theorem State.putSlot_fre (s : State) (i : Nat) (x : HistorySlot) : (s.putSlot i x).fre = s.fre := rfl
@[simp] theorem State.putSlot_bsq (s : State) (i : Nat) (x : HistorySlot) : (s.putSlot i x).bsq = s.bsq := rfl
@[simp] theorem State.putSlot_ocu (s : State) (i : Nat) (x : HistorySlot) : (s.putSlot i x).ocu = s.ocu := rfl
@[simp] theorem State.putSlot_rlc (s : State) (i : Nat) (x : HistorySlot) : (s.putSlot i x).rlc = s.rlc := rfl
@[simp] theorem State.putSlot_prt (s : State) (i : Nat) (x : HistorySlot) : (s.putSlot i x).prt = s.prt := rfl
@[simp] theorem State.putSlot_clock (s : State) (i : Nat) (x : HistorySlot) : (s.putSlot i x).clock = s.clock := rfl
@[simp] theorem State.putSlot_pending (s : State) (i : Nat) (x : HistorySlot) : (s.putSlot i x).pending = s.pending := rfl

/-! #### `State.createRecord` -/

@[simp] theorem State.createRecord_powered (s : State) (r : HistoryRecord) : (s.createRecord r).powered = s.powered := rfl
@[simp] theorem State.createRecord_mfe (s : State) (r : HistoryRecord) : (s.createRecord r).mfe = s.mfe := rfl
@[simp] theorem State.createRecord_dta (s : State) (r : HistoryRecord) : (s.createRecord r).dta = s.dta := rfl
@[simp] theorem State.createRecord_fre (s : State) (r : HistoryRecord) : (s.createRecord r).fre = s.fre := rfl
@[simp] theorem State.createRecord_bsq (s : State) (r : HistoryRecord) : (s.createRecord r).bsq = s.bsq := rfl
@[simp] theorem State.createRecord_ocu (s : State) (r : HistoryRecord) : (s.createRecord r).ocu = s.ocu := rfl
@[simp] theorem State.createRecord_rlc (s : State) (r : HistoryRecord) : (s.createRecord r).rlc = s.rlc := rfl
@[simp] theorem State.createRecord_prt (s : State) (r : HistoryRecord) : (s.createRecord r).prt = s.prt := rfl
@[simp] theorem State.createRecord_clock (s : State) (r : HistoryRecord) : (s.createRecord r).clock = s.clock := rfl
@[simp] theorem State.createRecord_pending (s : State) (r : HistoryRecord) : (s.createRecord r).pending = s.pending := rfl

/-! #### `State.stampSlot` -/

@[simp] theorem State.stampSlot_powered (s : State) (x : Nat × HistoryRecord) : (s.stampSlot x).powered = s.powered := rfl
@[simp] theorem State.stampSlot_mfe (s : State) (x : Nat × HistoryRecord) : (s.stampSlot x).mfe = s.mfe := rfl
@[simp] theorem State.stampSlot_dta (s : State) (x : Nat × HistoryRecord) : (s.stampSlot x).dta = s.dta := rfl
@[simp] theorem State.stampSlot_fre (s : State) (x : Nat × HistoryRecord) : (s.stampSlot x).fre = s.fre := rfl
@[simp] theorem State.stampSlot_bsq (s : State) (x : Nat × HistoryRecord) : (s.stampSlot x).bsq = s.bsq := rfl
@[simp] theorem State.stampSlot_ocu (s : State) (x : Nat × HistoryRecord) : (s.stampSlot x).ocu = s.ocu := rfl
@[simp] theorem State.stampSlot_rlc (s : State) (x : Nat × HistoryRecord) : (s.stampSlot x).rlc = s.rlc := rfl
@[simp] theorem State.stampSlot_prt (s : State) (x : Nat × HistoryRecord) : (s.stampSlot x).prt = s.prt := rfl
@[simp] theorem State.stampSlot_clock (s : State) (x : Nat × HistoryRecord) : (s.stampSlot x).clock = s.clock := rfl
@[simp] theorem State.stampSlot_pending (s : State) (x : Nat × HistoryRecord) : (s.stampSlot x).pending = s.pending := rfl

/-! #### `State.notePending` -/

@[simp] theorem State.notePending_powered (s : State) (c : PendingCause) : (s.notePending c).powered = s.powered := rfl
@[simp] theorem State.notePending_mfe (s : State) (c : PendingCause) : (s.notePending c).mfe = s.mfe := rfl
@[simp] theorem State.notePending_dta (s : State) (c : PendingCause) : (s.notePending c).dta = s.dta := rfl
@[simp] theorem State.notePending_fre (s : State) (c : PendingCause) : (s.notePending c).fre = s.fre := rfl
@[simp] theorem State.notePending_ocu (s : State) (c : PendingCause) : (s.notePending c).ocu = s.ocu := rfl
@[simp] theorem State.notePending_flt (s : State) (c : PendingCause) : (s.notePending c).flt = s.flt := rfl
@[simp] theorem State.notePending_rlc (s : State) (c : PendingCause) : (s.notePending c).rlc = s.rlc := rfl
@[simp] theorem State.notePending_prt (s : State) (c : PendingCause) : (s.notePending c).prt = s.prt := rfl
@[simp] theorem State.notePending_sto (s : State) (c : PendingCause) : (s.notePending c).sto = s.sto := rfl
@[simp] theorem State.notePending_clock (s : State) (c : PendingCause) : (s.notePending c).clock = s.clock := rfl
@[simp] theorem State.notePending_pending (s : State) (c : PendingCause) : (s.notePending c).pending = s.pending := rfl

/-! #### `State.countStart` -/

@[simp] theorem State.countStart_powered (s : State) : (s.countStart).powered = s.powered := rfl
@[simp] theorem State.countStart_mfe (s : State) : (s.countStart).mfe = s.mfe := rfl
@[simp] theorem State.countStart_dta (s : State) : (s.countStart).dta = s.dta := rfl
@[simp] theorem State.countStart_fre (s : State) : (s.countStart).fre = s.fre := rfl
@[simp] theorem State.countStart_bsq (s : State) : (s.countStart).bsq = s.bsq := rfl
@[simp] theorem State.countStart_ocu (s : State) : (s.countStart).ocu = s.ocu := rfl
@[simp] theorem State.countStart_flt (s : State) : (s.countStart).flt = s.flt := rfl
@[simp] theorem State.countStart_rlc (s : State) : (s.countStart).rlc = s.rlc := rfl
@[simp] theorem State.countStart_prt (s : State) : (s.countStart).prt = s.prt := rfl
@[simp] theorem State.countStart_clock (s : State) : (s.countStart).clock = s.clock := rfl
@[simp] theorem State.countStart_pending (s : State) : (s.countStart).pending = s.pending := rfl

/-! #### `State.bumplessLoad` -/

@[simp] theorem State.bumplessLoad_powered (s : State) : (s.bumplessLoad).powered = s.powered := rfl
@[simp] theorem State.bumplessLoad_mfe (s : State) : (s.bumplessLoad).mfe = s.mfe := rfl
@[simp] theorem State.bumplessLoad_dta (s : State) : (s.bumplessLoad).dta = s.dta := rfl
@[simp] theorem State.bumplessLoad_bsq (s : State) : (s.bumplessLoad).bsq = s.bsq := rfl
@[simp] theorem State.bumplessLoad_ocu (s : State) : (s.bumplessLoad).ocu = s.ocu := rfl
@[simp] theorem State.bumplessLoad_flt (s : State) : (s.bumplessLoad).flt = s.flt := rfl
@[simp] theorem State.bumplessLoad_rlc (s : State) : (s.bumplessLoad).rlc = s.rlc := rfl
@[simp] theorem State.bumplessLoad_prt (s : State) : (s.bumplessLoad).prt = s.prt := rfl
@[simp] theorem State.bumplessLoad_sto (s : State) : (s.bumplessLoad).sto = s.sto := rfl
@[simp] theorem State.bumplessLoad_clock (s : State) : (s.bumplessLoad).clock = s.clock := rfl
@[simp] theorem State.bumplessLoad_pending (s : State) : (s.bumplessLoad).pending = s.pending := rfl

/-! #### `State.setFlame` -/

@[simp] theorem State.setFlame_powered (s : State) (b : Bool) : (s.setFlame b).powered = s.powered := rfl
@[simp] theorem State.setFlame_dta (s : State) (b : Bool) : (s.setFlame b).dta = s.dta := rfl
@[simp] theorem State.setFlame_fre (s : State) (b : Bool) : (s.setFlame b).fre = s.fre := rfl
@[simp] theorem State.setFlame_ocu (s : State) (b : Bool) : (s.setFlame b).ocu = s.ocu := rfl
@[simp] theorem State.setFlame_rlc (s : State) (b : Bool) : (s.setFlame b).rlc = s.rlc := rfl
@[simp] theorem State.setFlame_prt (s : State) (b : Bool) : (s.setFlame b).prt = s.prt := rfl
@[simp] theorem State.setFlame_sto (s : State) (b : Bool) : (s.setFlame b).sto = s.sto := rfl
@[simp] theorem State.setFlame_clock (s : State) (b : Bool) : (s.setFlame b).clock = s.clock := rfl
@[simp] theorem State.setFlame_pending (s : State) (b : Bool) : (s.setFlame b).pending = s.pending := rfl

/-! #### `State.reportTemperatures` -/

@[simp] theorem State.reportTemperatures_powered (s : State) : (s.reportTemperatures).powered = s.powered := rfl
@[simp] theorem State.reportTemperatures_mfe (s : State) : (s.reportTemperatures).mfe = s.mfe := rfl
@[simp] theorem State.reportTemperatures_dta (s : State) : (s.reportTemperatures).dta = s.dta := rfl
@[simp] theorem State.reportTemperatures_fre (s : State) : (s.reportTemperatures).fre = s.fre := rfl
@[simp] theorem State.reportTemperatures_bsq (s : State) : (s.reportTemperatures).bsq = s.bsq := rfl
@[simp] theorem State.reportTemperatures_ocu (s : State) : (s.reportTemperatures).ocu = s.ocu := rfl
@[simp] theorem State.reportTemperatures_rlc (s : State) : (s.reportTemperatures).rlc = s.rlc := rfl
@[simp] theorem State.reportTemperatures_prt (s : State) : (s.reportTemperatures).prt = s.prt := rfl
@[simp] theorem State.reportTemperatures_sto (s : State) : (s.reportTemperatures).sto = s.sto := rfl
@[simp] theorem State.reportTemperatures_clock (s : State) : (s.reportTemperatures).clock = s.clock := rfl
@[simp] theorem State.reportTemperatures_pending (s : State) : (s.reportTemperatures).pending = s.pending := rfl

/-! #### `State.judgeFan` -/

@[simp] theorem State.judgeFan_powered (s : State) : (s.judgeFan).powered = s.powered := rfl
@[simp] theorem State.judgeFan_mfe (s : State) : (s.judgeFan).mfe = s.mfe := rfl
@[simp] theorem State.judgeFan_dta (s : State) : (s.judgeFan).dta = s.dta := rfl
@[simp] theorem State.judgeFan_fre (s : State) : (s.judgeFan).fre = s.fre := rfl
@[simp] theorem State.judgeFan_ocu (s : State) : (s.judgeFan).ocu = s.ocu := rfl
@[simp] theorem State.judgeFan_flt (s : State) : (s.judgeFan).flt = s.flt := rfl
@[simp] theorem State.judgeFan_rlc (s : State) : (s.judgeFan).rlc = s.rlc := rfl
@[simp] theorem State.judgeFan_prt (s : State) : (s.judgeFan).prt = s.prt := rfl
@[simp] theorem State.judgeFan_sto (s : State) : (s.judgeFan).sto = s.sto := rfl
@[simp] theorem State.judgeFan_clock (s : State) : (s.judgeFan).clock = s.clock := rfl
@[simp] theorem State.judgeFan_pending (s : State) : (s.judgeFan).pending = s.pending := rfl

/-! #### `State.setSlotRecord` -/

@[simp] theorem State.setSlotRecord_powered (s : State) (n : RoomSlot) (r : SlotRecord) : (s.setSlotRecord n r).powered = s.powered := rfl
@[simp] theorem State.setSlotRecord_mfe (s : State) (n : RoomSlot) (r : SlotRecord) : (s.setSlotRecord n r).mfe = s.mfe := rfl
@[simp] theorem State.setSlotRecord_dta (s : State) (n : RoomSlot) (r : SlotRecord) : (s.setSlotRecord n r).dta = s.dta := rfl
@[simp] theorem State.setSlotRecord_fre (s : State) (n : RoomSlot) (r : SlotRecord) : (s.setSlotRecord n r).fre = s.fre := rfl
@[simp] theorem State.setSlotRecord_bsq (s : State) (n : RoomSlot) (r : SlotRecord) : (s.setSlotRecord n r).bsq = s.bsq := rfl
@[simp] theorem State.setSlotRecord_ocu (s : State) (n : RoomSlot) (r : SlotRecord) : (s.setSlotRecord n r).ocu = s.ocu := rfl
@[simp] theorem State.setSlotRecord_flt (s : State) (n : RoomSlot) (r : SlotRecord) : (s.setSlotRecord n r).flt = s.flt := rfl
@[simp] theorem State.setSlotRecord_prt (s : State) (n : RoomSlot) (r : SlotRecord) : (s.setSlotRecord n r).prt = s.prt := rfl
@[simp] theorem State.setSlotRecord_sto (s : State) (n : RoomSlot) (r : SlotRecord) : (s.setSlotRecord n r).sto = s.sto := rfl
@[simp] theorem State.setSlotRecord_clock (s : State) (n : RoomSlot) (r : SlotRecord) : (s.setSlotRecord n r).clock = s.clock := rfl
@[simp] theorem State.setSlotRecord_pending (s : State) (n : RoomSlot) (r : SlotRecord) : (s.setSlotRecord n r).pending = s.pending := rfl

/-! #### `State.countBad` -/

@[simp] theorem State.countBad_powered (s : State) (n : RoomSlot) : (s.countBad n).powered = s.powered := rfl
@[simp] theorem State.countBad_mfe (s : State) (n : RoomSlot) : (s.countBad n).mfe = s.mfe := rfl
@[simp] theorem State.countBad_dta (s : State) (n : RoomSlot) : (s.countBad n).dta = s.dta := rfl
@[simp] theorem State.countBad_fre (s : State) (n : RoomSlot) : (s.countBad n).fre = s.fre := rfl
@[simp] theorem State.countBad_bsq (s : State) (n : RoomSlot) : (s.countBad n).bsq = s.bsq := rfl
@[simp] theorem State.countBad_ocu (s : State) (n : RoomSlot) : (s.countBad n).ocu = s.ocu := rfl
@[simp] theorem State.countBad_flt (s : State) (n : RoomSlot) : (s.countBad n).flt = s.flt := rfl
@[simp] theorem State.countBad_prt (s : State) (n : RoomSlot) : (s.countBad n).prt = s.prt := rfl
@[simp] theorem State.countBad_sto (s : State) (n : RoomSlot) : (s.countBad n).sto = s.sto := rfl
@[simp] theorem State.countBad_clock (s : State) (n : RoomSlot) : (s.countBad n).clock = s.clock := rfl
@[simp] theorem State.countBad_pending (s : State) (n : RoomSlot) : (s.countBad n).pending = s.pending := rfl

/-! #### `State.closeExchange` -/

@[simp] theorem State.closeExchange_powered (s : State) : (s.closeExchange).powered = s.powered := rfl
@[simp] theorem State.closeExchange_mfe (s : State) : (s.closeExchange).mfe = s.mfe := rfl
@[simp] theorem State.closeExchange_dta (s : State) : (s.closeExchange).dta = s.dta := rfl
@[simp] theorem State.closeExchange_fre (s : State) : (s.closeExchange).fre = s.fre := rfl
@[simp] theorem State.closeExchange_bsq (s : State) : (s.closeExchange).bsq = s.bsq := rfl
@[simp] theorem State.closeExchange_ocu (s : State) : (s.closeExchange).ocu = s.ocu := rfl
@[simp] theorem State.closeExchange_flt (s : State) : (s.closeExchange).flt = s.flt := rfl
@[simp] theorem State.closeExchange_prt (s : State) : (s.closeExchange).prt = s.prt := rfl
@[simp] theorem State.closeExchange_sto (s : State) : (s.closeExchange).sto = s.sto := rfl
@[simp] theorem State.closeExchange_clock (s : State) : (s.closeExchange).clock = s.clock := rfl
@[simp] theorem State.closeExchange_pending (s : State) : (s.closeExchange).pending = s.pending := rfl

/-! #### `State.flush` -/

@[simp] theorem State.flush_powered (s : State) : (s.flush).powered = s.powered := rfl
@[simp] theorem State.flush_mfe (s : State) : (s.flush).mfe = s.mfe := rfl
@[simp] theorem State.flush_dta (s : State) : (s.flush).dta = s.dta := rfl
@[simp] theorem State.flush_fre (s : State) : (s.flush).fre = s.fre := rfl
@[simp] theorem State.flush_bsq (s : State) : (s.flush).bsq = s.bsq := rfl
@[simp] theorem State.flush_ocu (s : State) : (s.flush).ocu = s.ocu := rfl
@[simp] theorem State.flush_flt (s : State) : (s.flush).flt = s.flt := rfl
@[simp] theorem State.flush_prt (s : State) : (s.flush).prt = s.prt := rfl
@[simp] theorem State.flush_sto (s : State) : (s.flush).sto = s.sto := rfl
@[simp] theorem State.flush_clock (s : State) : (s.flush).clock = s.clock := rfl
@[simp] theorem State.flush_pending (s : State) : (s.flush).pending = s.pending := rfl

/-! #### `State.setPort` -/

@[simp] theorem State.setPort_powered (s : State) (p : Port) (r : PortRecord) : (s.setPort p r).powered = s.powered := rfl
@[simp] theorem State.setPort_mfe (s : State) (p : Port) (r : PortRecord) : (s.setPort p r).mfe = s.mfe := rfl
@[simp] theorem State.setPort_dta (s : State) (p : Port) (r : PortRecord) : (s.setPort p r).dta = s.dta := rfl
@[simp] theorem State.setPort_fre (s : State) (p : Port) (r : PortRecord) : (s.setPort p r).fre = s.fre := rfl
@[simp] theorem State.setPort_bsq (s : State) (p : Port) (r : PortRecord) : (s.setPort p r).bsq = s.bsq := rfl
@[simp] theorem State.setPort_ocu (s : State) (p : Port) (r : PortRecord) : (s.setPort p r).ocu = s.ocu := rfl
@[simp] theorem State.setPort_flt (s : State) (p : Port) (r : PortRecord) : (s.setPort p r).flt = s.flt := rfl
@[simp] theorem State.setPort_rlc (s : State) (p : Port) (r : PortRecord) : (s.setPort p r).rlc = s.rlc := rfl
@[simp] theorem State.setPort_sto (s : State) (p : Port) (r : PortRecord) : (s.setPort p r).sto = s.sto := rfl
@[simp] theorem State.setPort_clock (s : State) (p : Port) (r : PortRecord) : (s.setPort p r).clock = s.clock := rfl
@[simp] theorem State.setPort_pending (s : State) (p : Port) (r : PortRecord) : (s.setPort p r).pending = s.pending := rfl

/-! #### `State.onFrame` -/

@[simp] theorem State.onFrame_powered (s : State) (p : Port) (f : Frame → Frame) : (s.onFrame p f).powered = s.powered := rfl
@[simp] theorem State.onFrame_mfe (s : State) (p : Port) (f : Frame → Frame) : (s.onFrame p f).mfe = s.mfe := rfl
@[simp] theorem State.onFrame_dta (s : State) (p : Port) (f : Frame → Frame) : (s.onFrame p f).dta = s.dta := rfl
@[simp] theorem State.onFrame_fre (s : State) (p : Port) (f : Frame → Frame) : (s.onFrame p f).fre = s.fre := rfl
@[simp] theorem State.onFrame_bsq (s : State) (p : Port) (f : Frame → Frame) : (s.onFrame p f).bsq = s.bsq := rfl
@[simp] theorem State.onFrame_ocu (s : State) (p : Port) (f : Frame → Frame) : (s.onFrame p f).ocu = s.ocu := rfl
@[simp] theorem State.onFrame_flt (s : State) (p : Port) (f : Frame → Frame) : (s.onFrame p f).flt = s.flt := rfl
@[simp] theorem State.onFrame_rlc (s : State) (p : Port) (f : Frame → Frame) : (s.onFrame p f).rlc = s.rlc := rfl
@[simp] theorem State.onFrame_sto (s : State) (p : Port) (f : Frame → Frame) : (s.onFrame p f).sto = s.sto := rfl
@[simp] theorem State.onFrame_clock (s : State) (p : Port) (f : Frame → Frame) : (s.onFrame p f).clock = s.clock := rfl
@[simp] theorem State.onFrame_pending (s : State) (p : Port) (f : Frame → Frame) : (s.onFrame p f).pending = s.pending := rfl

/-! #### `State.onCounters` -/

@[simp] theorem State.onCounters_powered (s : State) (p : Port) (f : PortCounters → PortCounters) : (s.onCounters p f).powered = s.powered := rfl
@[simp] theorem State.onCounters_mfe (s : State) (p : Port) (f : PortCounters → PortCounters) : (s.onCounters p f).mfe = s.mfe := rfl
@[simp] theorem State.onCounters_dta (s : State) (p : Port) (f : PortCounters → PortCounters) : (s.onCounters p f).dta = s.dta := rfl
@[simp] theorem State.onCounters_fre (s : State) (p : Port) (f : PortCounters → PortCounters) : (s.onCounters p f).fre = s.fre := rfl
@[simp] theorem State.onCounters_bsq (s : State) (p : Port) (f : PortCounters → PortCounters) : (s.onCounters p f).bsq = s.bsq := rfl
@[simp] theorem State.onCounters_ocu (s : State) (p : Port) (f : PortCounters → PortCounters) : (s.onCounters p f).ocu = s.ocu := rfl
@[simp] theorem State.onCounters_flt (s : State) (p : Port) (f : PortCounters → PortCounters) : (s.onCounters p f).flt = s.flt := rfl
@[simp] theorem State.onCounters_rlc (s : State) (p : Port) (f : PortCounters → PortCounters) : (s.onCounters p f).rlc = s.rlc := rfl
@[simp] theorem State.onCounters_sto (s : State) (p : Port) (f : PortCounters → PortCounters) : (s.onCounters p f).sto = s.sto := rfl
@[simp] theorem State.onCounters_clock (s : State) (p : Port) (f : PortCounters → PortCounters) : (s.onCounters p f).clock = s.clock := rfl
@[simp] theorem State.onCounters_pending (s : State) (p : Port) (f : PortCounters → PortCounters) : (s.onCounters p f).pending = s.pending := rfl

/-! #### `State.setPointer` -/

@[simp] theorem State.setPointer_powered (s : State) (p : Port) (x : BitVec 3) (a : Nat) : (s.setPointer p x a).powered = s.powered := rfl
@[simp] theorem State.setPointer_mfe (s : State) (p : Port) (x : BitVec 3) (a : Nat) : (s.setPointer p x a).mfe = s.mfe := rfl
@[simp] theorem State.setPointer_dta (s : State) (p : Port) (x : BitVec 3) (a : Nat) : (s.setPointer p x a).dta = s.dta := rfl
@[simp] theorem State.setPointer_fre (s : State) (p : Port) (x : BitVec 3) (a : Nat) : (s.setPointer p x a).fre = s.fre := rfl
@[simp] theorem State.setPointer_bsq (s : State) (p : Port) (x : BitVec 3) (a : Nat) : (s.setPointer p x a).bsq = s.bsq := rfl
@[simp] theorem State.setPointer_ocu (s : State) (p : Port) (x : BitVec 3) (a : Nat) : (s.setPointer p x a).ocu = s.ocu := rfl
@[simp] theorem State.setPointer_flt (s : State) (p : Port) (x : BitVec 3) (a : Nat) : (s.setPointer p x a).flt = s.flt := rfl
@[simp] theorem State.setPointer_rlc (s : State) (p : Port) (x : BitVec 3) (a : Nat) : (s.setPointer p x a).rlc = s.rlc := rfl
@[simp] theorem State.setPointer_sto (s : State) (p : Port) (x : BitVec 3) (a : Nat) : (s.setPointer p x a).sto = s.sto := rfl
@[simp] theorem State.setPointer_clock (s : State) (p : Port) (x : BitVec 3) (a : Nat) : (s.setPointer p x a).clock = s.clock := rfl
@[simp] theorem State.setPointer_pending (s : State) (p : Port) (x : BitVec 3) (a : Nat) : (s.setPointer p x a).pending = s.pending := rfl

/-! #### `State.reply` -/

@[simp] theorem State.reply_powered (s : State) (p : Port) (l : List Byte) : (s.reply p l).powered = s.powered := rfl
@[simp] theorem State.reply_mfe (s : State) (p : Port) (l : List Byte) : (s.reply p l).mfe = s.mfe := rfl
@[simp] theorem State.reply_dta (s : State) (p : Port) (l : List Byte) : (s.reply p l).dta = s.dta := rfl
@[simp] theorem State.reply_fre (s : State) (p : Port) (l : List Byte) : (s.reply p l).fre = s.fre := rfl
@[simp] theorem State.reply_bsq (s : State) (p : Port) (l : List Byte) : (s.reply p l).bsq = s.bsq := rfl
@[simp] theorem State.reply_ocu (s : State) (p : Port) (l : List Byte) : (s.reply p l).ocu = s.ocu := rfl
@[simp] theorem State.reply_flt (s : State) (p : Port) (l : List Byte) : (s.reply p l).flt = s.flt := rfl
@[simp] theorem State.reply_rlc (s : State) (p : Port) (l : List Byte) : (s.reply p l).rlc = s.rlc := rfl
@[simp] theorem State.reply_sto (s : State) (p : Port) (l : List Byte) : (s.reply p l).sto = s.sto := rfl
@[simp] theorem State.reply_clock (s : State) (p : Port) (l : List Byte) : (s.reply p l).clock = s.clock := rfl
@[simp] theorem State.reply_pending (s : State) (p : Port) (l : List Byte) : (s.reply p l).pending = s.pending := rfl

/-! #### `State.onSoftReset` -/

@[simp] theorem State.onSoftReset_powered (s : State) (f : SoftReset → SoftReset) : (s.onSoftReset f).powered = s.powered := rfl
@[simp] theorem State.onSoftReset_mfe (s : State) (f : SoftReset → SoftReset) : (s.onSoftReset f).mfe = s.mfe := rfl
@[simp] theorem State.onSoftReset_dta (s : State) (f : SoftReset → SoftReset) : (s.onSoftReset f).dta = s.dta := rfl
@[simp] theorem State.onSoftReset_fre (s : State) (f : SoftReset → SoftReset) : (s.onSoftReset f).fre = s.fre := rfl
@[simp] theorem State.onSoftReset_bsq (s : State) (f : SoftReset → SoftReset) : (s.onSoftReset f).bsq = s.bsq := rfl
@[simp] theorem State.onSoftReset_ocu (s : State) (f : SoftReset → SoftReset) : (s.onSoftReset f).ocu = s.ocu := rfl
@[simp] theorem State.onSoftReset_flt (s : State) (f : SoftReset → SoftReset) : (s.onSoftReset f).flt = s.flt := rfl
@[simp] theorem State.onSoftReset_rlc (s : State) (f : SoftReset → SoftReset) : (s.onSoftReset f).rlc = s.rlc := rfl
@[simp] theorem State.onSoftReset_sto (s : State) (f : SoftReset → SoftReset) : (s.onSoftReset f).sto = s.sto := rfl
@[simp] theorem State.onSoftReset_clock (s : State) (f : SoftReset → SoftReset) : (s.onSoftReset f).clock = s.clock := rfl
@[simp] theorem State.onSoftReset_pending (s : State) (f : SoftReset → SoftReset) : (s.onSoftReset f).pending = s.pending := rfl

/-! #### `State.stage` -/

@[simp] theorem State.stage_powered (s : State) : (s.stage).powered = s.powered := rfl
@[simp] theorem State.stage_mfe (s : State) : (s.stage).mfe = s.mfe := rfl
@[simp] theorem State.stage_dta (s : State) : (s.stage).dta = s.dta := rfl
@[simp] theorem State.stage_fre (s : State) : (s.stage).fre = s.fre := rfl
@[simp] theorem State.stage_bsq (s : State) : (s.stage).bsq = s.bsq := rfl
@[simp] theorem State.stage_ocu (s : State) : (s.stage).ocu = s.ocu := rfl
@[simp] theorem State.stage_flt (s : State) : (s.stage).flt = s.flt := rfl
@[simp] theorem State.stage_rlc (s : State) : (s.stage).rlc = s.rlc := rfl
@[simp] theorem State.stage_sto (s : State) : (s.stage).sto = s.sto := rfl
@[simp] theorem State.stage_clock (s : State) : (s.stage).clock = s.clock := rfl
@[simp] theorem State.stage_pending (s : State) : (s.stage).pending = s.pending := rfl

/-! #### `State.pass` -/

@[simp] theorem State.pass_powered (s : State) : (s.pass).powered = s.powered := rfl
@[simp] theorem State.pass_pending (s : State) : (s.pass).pending = s.pending := rfl

/-! #### What the plain updates write -/

@[simp] theorem State.markDirty_dirty (s : State) (i : StoreItem) :
    (s.markDirty i).sto = { s.sto with dirty := markItem s.sto.dirty i } := rfl
@[simp] theorem State.post_prt (s : State) (n : Notice) : (s.post n).prt = s.prt.post n := rfl
@[simp] theorem State.setFanTarget_target (s : State) (r : Nat) : (s.setFanTarget r).bsq.fanTarget = r := by
  unfold State.setFanTarget Bsq.judgeBand; split <;> rfl
@[simp] theorem State.setFanTarget_state (s : State) (r : Nat) : (s.setFanTarget r).bsq.state = s.bsq.state := by
  unfold State.setFanTarget Bsq.judgeBand; split <;> rfl
@[simp] theorem State.setFlame_on (s : State) (b : Bool) : (s.setFlame b).mfe.flameOn = b := rfl
@[simp] theorem State.putSlot_ring (s : State) (i : Nat) (x : HistorySlot) :
    (s.putSlot i x).flt.ring = s.flt.ring.set i x := rfl
@[simp] theorem State.evaluate_plan (s : State) : s.evaluate.dta = s.evaluated := rfl
@[simp] theorem State.setSlotRecord_get (s : State) (n : RoomSlot) (r : SlotRecord) :
    (s.setSlotRecord n r).rlc.slots.get n = r := by cases n <;> rfl

/-! #### Sets with one item per slot, valve, channel -/

@[simp] theorem SlotSet.get_set (x : SlotSet α) (n : RoomSlot) (a : α) : (x.set n a).get n = a := by cases n <;> rfl
theorem SlotSet.get_set_other (x : SlotSet α) (n m : RoomSlot) (a : α) (h : m ≠ n) : (x.set n a).get m = x.get m := by
  cases n <;> cases m <;> first | rfl | exact absurd rfl h
@[simp] theorem ValveSet.get_set (x : ValveSet α) (v : GasValve) (a : α) : (x.set v a).get v = a := by cases v <;> rfl
theorem ValveSet.get_set_other (x : ValveSet α) (v w : GasValve) (a : α) (h : w ≠ v) : (x.set v a).get w = x.get w := by
  cases v <;> cases w <;> first | rfl | exact absurd rfl h
@[simp] theorem ntcGet_put (x : NtcSet α) (ch : NtcChannel) (a : α) : ntcGet (ntcPut x ch a) ch = a := by cases ch <;> rfl
theorem ntcGet_put_other (x : NtcSet α) (ch d : NtcChannel) (a : α) (h : d ≠ ch) : ntcGet (ntcPut x ch a) d = ntcGet x d := by
  cases ch <;> cases d <;> first | rfl | exact absurd rfl h
@[simp] theorem Ocu.get_set (o : Ocu) (ch : Channel) (r : ChannelRecord) : (o.set ch r).get ch = r := by cases ch <;> rfl
theorem Ocu.get_set_other (o : Ocu) (c d : Channel) (r : ChannelRecord) (h : d ≠ c) : (o.set c r).get d = o.get d := by
  cases c <;> cases d <;> first | rfl | exact absurd rfl h
@[simp] theorem Ocu.set_lines (o : Ocu) (ch : Channel) (r : ChannelRecord) : (o.set ch r).lines = o.lines := by
  cases ch <;> rfl
@[simp] theorem Ocu.set_test (o : Ocu) (ch : Channel) (r : ChannelRecord) : (o.set ch r).test = o.test := by
  cases ch <;> rfl
@[simp] theorem TripSet.get_set (x : TripSet) (l : TripLine) (b : Bool) : (x.set l b).get l = b := by cases l <;> rfl
theorem SourceSet.get_set_other (x : SourceSet α) (p q : Source) (a : α) (h : q ≠ p) : (x.set p a).get q = x.get q := by
  rcases p with _ | n | _ | _ | _ | _ <;> rcases q with _ | m | _ | _ | _ | _ <;>
    first | rfl | exact absurd rfl h | skip
  exact SlotSet.get_set_other _ _ _ _ (fun e => h (by rw [e]))
@[simp] theorem SourceSet.get_set (x : SourceSet α) (p : Source) (a : α) : (x.set p a).get p = a := by
  rcases p with _ | n | _ | _ | _ | _ <;> first | rfl | exact SlotSet.get_set _ _ _

end Sys2Proof.Machine
end

