-- ==== Sys2Proof/Laws/Touches.lean ====
section
/-! SUPPORT. What each shared operation may write, said once: `Touches` for the operations of the fault unit, the sequencer, the
firing-rate engine and the store, from which the frames of the commands follow. -/

namespace Sys2Proof.Machine

/-! ### The relation -/

theorem Touches.refl (l : List Block) (s : State) : Touches l s s := by constructor <;> intros <;> rfl

theorem Touches.trans {l : List Block} {s t u : State} (h : Touches l s t) (k : Touches l t u) : Touches l s u where
  powered := k.powered.trans h.powered
  pending := k.pending.trans h.pending
  mfe := fun x => (k.mfe x).trans (h.mfe x)
  dta := fun x => (k.dta x).trans (h.dta x)
  fre := fun x => (k.fre x).trans (h.fre x)
  bsq := fun x => (k.bsq x).trans (h.bsq x)
  ocu := fun x => (k.ocu x).trans (h.ocu x)
  flt := fun x => (k.flt x).trans (h.flt x)
  rlc := fun x => (k.rlc x).trans (h.rlc x)
  prt := fun x => (k.prt x).trans (h.prt x)
  sto := fun x => (k.sto x).trans (h.sto x)
  clock := fun x => (k.clock x).trans (h.clock x)

theorem Touches.mono {l m : List Block} {s t : State} (h : Touches l s t) (sub : l ⊆ m) : Touches m s t where
  powered := h.powered
  pending := h.pending
  mfe := fun x => h.mfe fun y => x (sub y)
  dta := fun x => h.dta fun y => x (sub y)
  fre := fun x => h.fre fun y => x (sub y)
  bsq := fun x => h.bsq fun y => x (sub y)
  ocu := fun x => h.ocu fun y => x (sub y)
  flt := fun x => h.flt fun y => x (sub y)
  rlc := fun x => h.rlc fun y => x (sub y)
  prt := fun x => h.prt fun y => x (sub y)
  sto := fun x => h.sto fun y => x (sub y)
  clock := fun x => h.clock fun y => x (sub y)

/-- A choice between two operations touches what either does. -/
theorem Touches.ite {l : List Block} {c : Prop} [Decidable c] {s t u : State} (h : Touches l s t) (k : Touches l s u) :
    Touches l s (if c then t else u) := by split <;> assumption

/-! ### Single writes -/

theorem touches_mfe (s : State) (x : Mfe) : Touches [.mfe] s { s with mfe := x } := by
  constructor <;> intros <;> simp_all
theorem touches_dta (s : State) (x : Dta) : Touches [.dta] s { s with dta := x } := by
  constructor <;> intros <;> simp_all
theorem touches_fre (s : State) (x : Fre) : Touches [.fre] s { s with fre := x } := by
  constructor <;> intros <;> simp_all
theorem touches_bsq (s : State) (x : Bsq) : Touches [.bsq] s { s with bsq := x } := by
  constructor <;> intros <;> simp_all
theorem touches_ocu (s : State) (x : Ocu) : Touches [.ocu] s { s with ocu := x } := by
  constructor <;> intros <;> simp_all
theorem touches_flt (s : State) (x : Flt) : Touches [.flt] s { s with flt := x } := by
  constructor <;> intros <;> simp_all
theorem touches_rlc (s : State) (x : Rlc) : Touches [.rlc] s { s with rlc := x } := by
  constructor <;> intros <;> simp_all
theorem touches_prt (s : State) (x : Prt) : Touches [.prt] s { s with prt := x } := by
  constructor <;> intros <;> simp_all
theorem touches_sto (s : State) (x : Sto) : Touches [.sto] s { s with sto := x } := by
  constructor <;> intros <;> simp_all
theorem touches_clock (s : State) (x : Clock) : Touches [.clock] s { s with clock := x } := by
  constructor <;> intros <;> simp_all

/-! ### One more write -/

section
variable {l : List Block} {s t : State}

theorem Touches.thenMfe (h : Touches l s t) (x : Mfe) (m : [.mfe] ⊆ l) : Touches l s { t with mfe := x } :=
  h.trans ((touches_mfe t x).mono m)
theorem Touches.thenDta (h : Touches l s t) (x : Dta) (m : [.dta] ⊆ l) : Touches l s { t with dta := x } :=
  h.trans ((touches_dta t x).mono m)
theorem Touches.thenFre (h : Touches l s t) (x : Fre) (m : [.fre] ⊆ l) : Touches l s { t with fre := x } :=
  h.trans ((touches_fre t x).mono m)
theorem Touches.thenBsq (h : Touches l s t) (x : Bsq) (m : [.bsq] ⊆ l) : Touches l s { t with bsq := x } :=
  h.trans ((touches_bsq t x).mono m)
theorem Touches.thenOcu (h : Touches l s t) (x : Ocu) (m : [.ocu] ⊆ l) : Touches l s { t with ocu := x } :=
  h.trans ((touches_ocu t x).mono m)
theorem Touches.thenFlt (h : Touches l s t) (x : Flt) (m : [.flt] ⊆ l) : Touches l s { t with flt := x } :=
  h.trans ((touches_flt t x).mono m)
theorem Touches.thenRlc (h : Touches l s t) (x : Rlc) (m : [.rlc] ⊆ l) : Touches l s { t with rlc := x } :=
  h.trans ((touches_rlc t x).mono m)
theorem Touches.thenPrt (h : Touches l s t) (x : Prt) (m : [.prt] ⊆ l) : Touches l s { t with prt := x } :=
  h.trans ((touches_prt t x).mono m)
theorem Touches.thenSto (h : Touches l s t) (x : Sto) (m : [.sto] ⊆ l) : Touches l s { t with sto := x } :=
  h.trans ((touches_sto t x).mono m)
theorem Touches.thenClock (h : Touches l s t) (x : Clock) (m : [.clock] ⊆ l) : Touches l s { t with clock := x } :=
  h.trans ((touches_clock t x).mono m)

/-- An operation that touches no more may follow. -/
theorem Touches.andThen {m : List Block} {u : State} (h : Touches l s t) (k : Touches m t u) (sub : m ⊆ l) : Touches l s u :=
  h.trans (k.mono sub)

end

/-! ### The fault unit -/

theorem markDirty_touches (s : State) (i : StoreItem) : Touches [.sto] s (s.markDirty i) := touches_sto _ _
theorem post_touches (s : State) (n : Notice) : Touches [.prt] s (s.post n) := touches_prt _ _

theorem putSlot_touches (s : State) (i : Nat) (x : HistorySlot) : Touches [.flt, .sto] s (s.putSlot i x) := by
  constructor <;> intros <;> simp_all
theorem createRecord_touches (s : State) (r : HistoryRecord) : Touches [.flt, .sto] s (s.createRecord r) := by
  constructor <;> intros <;> simp_all
theorem stampSlot_touches (s : State) (x : Nat × HistoryRecord) : Touches [.flt, .sto] s (s.stampSlot x) := by
  constructor <;> intros <;> simp_all

theorem recordRaise_touches (s : State) (k : FaultKey) (b : Bool) : Touches [.flt, .sto] s (s.recordRaise k b) := by
  unfold State.recordRaise
  split
  · split
    · exact (putSlot_touches _ _ _).ite (createRecord_touches _ _)
    · exact createRecord_touches _ _
  · exact (touches_flt _ _).mono (by simp)

theorem fillCleared_touches (s : State) (k : FaultKey) : Touches [.flt, .sto] s (s.fillCleared k) := by
  unfold State.fillCleared
  split
  · split
    · exact stampSlot_touches _ _
    · exact .refl _ _
  · exact (touches_flt _ _).mono (by simp)

theorem enterKey_touches (s : State) (k : FaultKey) : Touches [.flt, .prt, .sto] s (s.enterKey k) := by
  unfold State.enterKey
  split
  · exact .refl _ _
  · exact (((touches_flt _ _).mono (by simp)).trans ((recordRaise_touches _ _ _).mono (by simp))).trans
      ((post_touches _ _).mono (by simp))

theorem leaveKey_touches (s : State) (k : FaultKey) : Touches [.flt, .prt, .sto] s (s.leaveKey k) := by
  unfold State.leaveKey
  split
  · exact (((touches_flt _ _).mono (by simp)).trans ((fillCleared_touches _ _).mono (by simp))).trans
      ((post_touches _ _).mono (by simp))
  · exact .refl _ _

theorem follow_touches (s : State) (k : FaultKey) (b : Bool) : Touches [.flt, .prt, .sto] s (s.follow k b) :=
  (enterKey_touches s k).ite (leaveKey_touches s k)

theorem hysteresis_touches (s : State) (k : FaultKey) (a b : Bool) : Touches [.flt, .prt, .sto] s (s.hysteresis k a b) :=
  (enterKey_touches s k).ite ((leaveKey_touches s k).ite (.refl _ s))

theorem endTest_touches (s : State) (c : TestEnd) : Touches [.dta, .ocu] s (s.endTest c) := by
  unfold State.endTest
  split
  · constructor <;> intros <;> simp_all
  · exact .refl _ _

/-! ### The firing-rate engine -/

theorem setFanTarget_touches (s : State) (r : Nat) : Touches [.bsq, .ocu] s (s.setFanTarget r) := by
  constructor <;> intros <;> simp_all

theorem handRate_touches (s : State) (r : Int) : Touches [.fre, .bsq, .ocu] s (s.handRate r) := by
  unfold State.handRate
  refine .ite ((touches_fre _ _).mono (by simp)) (.ite ?_ ((touches_fre _ _).mono (by simp)))
  exact ((touches_fre _ _).mono (by simp)).trans ((setFanTarget_touches _ _).mono (by simp))

theorem takeRate_touches (s : State) (r : Int × LimitReason) : Touches [.fre, .bsq, .ocu] s (s.takeRate r) :=
  (handRate_touches s r.1).trans ((touches_fre _ _).mono (by simp))

theorem applyCaps_touches (s : State) : Touches [.fre, .bsq, .ocu] s s.applyCaps := by
  unfold State.applyCaps
  have h : ∀ x, Touches [.fre, .bsq, .ocu] s { s with fre := x } := fun x => (touches_fre s x).mono (by simp)
  exact .ite ((h _).trans (takeRate_touches _ _)) (h _)

theorem serviceForm_touches (s : State) : Touches [.fre, .bsq, .ocu] s s.serviceForm := takeRate_touches _ _

theorem bumplessLoad_touches (s : State) : Touches [.fre, .bsq, .ocu] s s.bumplessLoad := (touches_fre _ _).mono (by simp)

theorem fre_touches (s : State) (x : Fre) : Touches [.fre, .bsq, .ocu] s { s with fre := x } := (touches_fre s x).mono (by simp)

theorem chCompute_touches (s : State) : Touches [.fre, .bsq, .ocu] s s.chCompute := by
  unfold State.chCompute
  split
  · exact (takeRate_touches _ _).trans (fre_touches _ _)
  · exact .refl _ _

theorem dhwCompute_touches (s : State) : Touches [.fre, .bsq, .ocu] s s.dhwCompute := by
  unfold State.dhwCompute
  split
  · exact (takeRate_touches _ _).trans (fre_touches _ _)
  · exact .refl _ _

theorem startFiring_touches (s : State) : Touches [.fre, .bsq, .ocu] s s.startFiring := by
  unfold State.startFiring
  cases s.dta.plan.mode <;> dsimp only
  · exact (((Touches.refl _ s).thenFre _ (by simp)).thenFre _ (by simp)).andThen (setFanTarget_touches _ _) (by simp)
  · exact (((((Touches.refl _ s).thenFre _ (by simp)).thenFre _ (by simp)).andThen (setFanTarget_touches _ _)
      (by simp)).andThen (bumplessLoad_touches _) (by simp)).thenFre _ (by simp)
  · exact ((((Touches.refl _ s).thenFre _ (by simp)).thenFre _ (by simp)).andThen (setFanTarget_touches _ _)
      (by simp)).thenFre _ (by simp)
  · exact (((((Touches.refl _ s).thenFre _ (by simp)).thenFre _ (by simp)).andThen (setFanTarget_touches _ _)
      (by simp)).andThen (serviceForm_touches _) (by simp)).thenFre _ (by simp)

theorem serveMode_touches (s : State) : Touches [.fre, .bsq, .ocu] s s.serveMode := by
  unfold State.serveMode
  refine .ite ?_ (.refl _ _)
  cases s.dta.plan.mode <;> dsimp only
  · exact ((Touches.refl _ s).thenFre _ (by simp)).thenFre _ (by simp)
  · exact ((((Touches.refl _ s).thenFre _ (by simp)).andThen (applyCaps_touches _) (by simp)).andThen
      (bumplessLoad_touches _) (by simp)).thenFre _ (by simp)
  · exact ((Touches.refl _ s).thenFre _ (by simp)).thenFre _ (by simp)
  · exact (((Touches.refl _ s).thenFre _ (by simp)).andThen (serviceForm_touches _) (by simp)).thenFre _ (by simp)

/-! ### The sequencer -/

theorem commandGas_touches (s : State) (b : Bool) : Touches [.bsq, .ocu] s (s.commandGas b) := by
  cases b <;> (constructor <;> intros <;> simp_all [State.commandGas])

theorem commandSpark_touches (s : State) (b : Bool) : Touches [.bsq, .ocu] s (s.commandSpark b) := by
  constructor <;> intros <;> simp_all

theorem leaveFor_touches (s : State) (q : SeqState) : Touches [.mfe, .dta, .fre] s (s.leaveFor q) := by
  constructor <;> intros <;> simp_all

theorem goto_touches (s : State) (q : SeqState) : Touches [.mfe, .dta, .fre, .bsq, .ocu] s (s.goto q) := by
  unfold State.goto
  have h1 : Touches [.mfe, .dta, .fre, .bsq, .ocu] s (s.leaveFor q) := (leaveFor_touches s q).mono (by simp)
  have h2 : Touches [.mfe, .dta, .fre, .bsq, .ocu] s
      { s.leaveFor q with bsq := (s.leaveFor q).bsq.enter (s.leaveFor q).sto.table q } :=
    h1.trans ((touches_bsq _ _).mono (by simp))
  have h3 := fun (u : State) (h : Touches [.mfe, .dta, .fre, .bsq, .ocu] s u) =>
    Touches.ite (c := q.gasOpen = true) h (h.trans ((commandGas_touches u false).mono (by simp)))
  have h4 := fun (u : State) (h : Touches [.mfe, .dta, .fre, .bsq, .ocu] s u) =>
    Touches.ite (c := q = .safetyTime) h (h.trans ((commandSpark_touches u false).mono (by simp)))
  exact (h4 _ (h3 _ h2)).trans ((setFanTarget_touches _ _).mono (by simp))

theorem askRearm_touches (s : State) : Touches [.mfe, .dta, .fre, .bsq, .ocu] s s.askRearm := by
  constructor <;> intros <;> simp_all

theorem startBurn_touches (s : State) : Touches [.mfe, .dta, .fre, .bsq, .ocu] s s.startBurn := by
  unfold State.startBurn
  have h : Touches [.mfe, .dta, .fre, .bsq, .ocu] s (({ s with bsq := s.bsq.beginBurn } : State).goto .preCheck) :=
    ((touches_bsq _ _).mono (by simp)).trans (goto_touches _ _)
  exact .ite ((h.trans (askRearm_touches _)).trans (goto_touches _ _)) (h.trans (askRearm_touches _))

theorem enterSafetyTime_touches (s : State) : Touches [.mfe, .dta, .fre, .bsq, .ocu] s s.enterSafetyTime := by
  unfold State.enterSafetyTime
  exact (((goto_touches _ _).trans ((commandGas_touches _ _).mono (by simp))).trans
    ((commandSpark_touches _ _).mono (by simp))).trans ((touches_bsq _ _).mono (by simp))

theorem enterRunning_touches (s : State) : Touches [.mfe, .dta, .fre, .bsq, .ocu] s s.enterRunning := by
  unfold State.enterRunning
  exact ((((leaveFor_touches _ _).mono (by simp)).trans ((touches_bsq _ _).mono (by simp))).trans
    ((commandSpark_touches _ _).mono (by simp))).trans ((startFiring_touches _).mono (by simp))

theorem beginLockout_touches (s : State) (k : FaultKey) : Touches [.flt, .prt, .sto, .dta, .ocu] s (s.beginLockout k) := by
  unfold State.beginLockout
  dsimp only
  exact ((((((Touches.refl _ s).thenFlt _ (by simp)).andThen (markDirty_touches _ .lockout) (by simp)).andThen
    (markDirty_touches _ .counters) (by simp)).andThen (enterKey_touches _ k) (by simp)).thenDta _ (by simp)).andThen
    (endTest_touches _ _) (by simp)

theorem raiseLocking_touches (s : State) (k : FaultKey) : Touches [.flt, .prt, .sto, .dta, .ocu] s (s.raiseLocking k) := by
  unfold State.raiseLocking
  exact .ite (.ite (.refl _ _) ((recordRaise_touches _ _ _).mono (by simp))) (beginLockout_touches _ _)

/-- A cancelled re-arm writes what a change of the sequencer's state writes. -/
theorem takeRefusal_touches (s : State) (l : List Channel) : Touches [.mfe, .dta, .fre, .bsq, .ocu] s (s.takeRefusal l) := by
  unfold State.takeRefusal
  have h : Touches [.mfe, .dta, .fre, .bsq, .ocu] s { s with bsq := { s.bsq with rearmRefusals := l.map s.ocu.refusal } } :=
    (touches_bsq _ _).mono (by simp)
  exact .ite (.refl _ _) (.ite (h.trans (goto_touches _ _)) h)

/-- The records that the sequencer and the fault unit write as a burn is locked out. -/
theorem lockWith_touches (s : State) (k : FaultKey) :
    Touches [.mfe, .dta, .fre, .bsq, .ocu, .flt, .prt, .sto] s (s.lockWith k) := by
  unfold State.lockWith State.gotoLockout
  have h := (raiseLocking_touches s k).mono (m := [.mfe, .dta, .fre, .bsq, .ocu, .flt, .prt, .sto]) (by simp)
  exact .ite h (h.trans ((goto_touches _ _).mono (by simp)))

/-- A coil fault report is held, and acts as its state says: one more pending cause, or a locking fault. -/
theorem coilFault_touches (s : State) (r : CoilReport) :
    Touches [.mfe, .dta, .fre, .bsq, .ocu, .flt, .prt, .sto] s (s.coilFault r) := by
  unfold State.coilFault
  have h := (touches_bsq s { s.bsq with coilReport := some r }).mono
    (m := [.mfe, .dta, .fre, .bsq, .ocu, .flt, .prt, .sto]) (by simp)
  dsimp only
  split
  · exact (touches_bsq _ _).mono (by simp)
  · exact h.trans ((raiseLocking_touches _ _).mono (by simp))
  · exact h.trans (lockWith_touches _ _)

/-! ### The service port's receiver (R159) -/

theorem onFrame_touches (s : State) (p : Port) (f : Frame → Frame) : Touches [.prt] s (s.onFrame p f) := by
  cases p <;> exact touches_prt _ _

theorem onCounters_touches (s : State) (p : Port) (f : PortCounters → PortCounters) : Touches [.prt] s (s.onCounters p f) := by
  cases p <;> exact touches_prt _ _

theorem takeReceived_touches (s : State) (x : Received) : Touches [.prt] s (s.takeReceived x) := by
  cases x <;> unfold State.takeReceived
  · exact .refl _ _
  · exact onCounters_touches _ _ _
  · exact .ite (((onCounters_touches s .service _).trans (touches_prt _ _)).trans (onFrame_touches _ _ _))
      (onCounters_touches _ _ _)

theorem receiveService_touches (e : Bool) (s : State) (b : Byte) : Touches [.prt] s (s.receiveService e b) :=
  (touches_prt _ _).trans (takeReceived_touches _ _)

theorem takeServiceBytes_touches (l : List Byte) (e : Bool) (s : State) : Touches [.prt] s (s.takeServiceBytes l e) := by
  unfold State.takeServiceBytes
  induction l generalizing s with
  | nil => exact .refl _ _
  | cons b rest ih => exact (receiveService_touches e s b).trans (ih _)

theorem serviceGap_touches (s : State) : Touches [.prt] s s.serviceGap := by
  unfold State.serviceGap
  split
  · exact .refl _ _
  · exact (touches_prt _ _).trans (onCounters_touches _ _ _)

end Sys2Proof.Machine
end

