-- ==== Sys2Proof/Laws/Settle.lean ====
section
/-! SUPPORT. What the end of an event can do, said once: `settle_endsFrom`, with the same for each of its stages, and what the
end leaves true of the heat plan, the owner commands and the levels of ALARM and ATTN. -/

namespace Sys2Proof.Machine

/-! ### The relation -/

theorem EndsFrom.refl (s : State) : EndsFrom s s := by constructor <;> simp

theorem EndsFrom.trans {s t u : State} (h : EndsFrom s t) (k : EndsFrom t u) : EndsFrom s u where
  powered := k.powered.trans h.powered
  pending := k.pending.trans h.pending
  clock := k.clock.trans h.clock
  mfe := by rw [k.mfe, h.mfe]
  flt := by rw [k.flt, h.flt]
  rlc := by rw [k.rlc, h.rlc]
  prt := by rw [k.prt, h.prt]
  sto := by rw [k.sto, h.sto]
  table := by rw [k.table, h.table]
  frostStage := k.frostStage.trans h.frostStage
  lines := k.lines.trans h.lines
  bsq := by
    obtain ⟨a1, a2, a3, a4, a5, a6, a7, a8⟩ := h.bsq
    obtain ⟨b1, b2, b3, b4, b5, b6, b7, b8⟩ := k.bsq
    exact ⟨b1.trans a1, b2.trans a2, b3.trans a3, b4.trans a4, b5.trans a5, b6.trans a6, b7.trans a7, b8.trans a8⟩

/-- An operation on the firing rate and the fan target alone. -/
theorem EndsFrom.ofTouches {s t : State} (h : Touches [.fre, .bsq, .ocu] s t)
    (bsq : t.bsq.provingFailures = s.bsq.provingFailures ∧ t.bsq.b06Timer = s.bsq.b06Timer
      ∧ t.bsq.pendingCauses = s.bsq.pendingCauses ∧ t.bsq.coilZero = s.bsq.coilZero
      ∧ t.bsq.tripReports = s.bsq.tripReports ∧ t.bsq.refusedOpens = s.bsq.refusedOpens
      ∧ t.bsq.coilReport = s.bsq.coilReport ∧ t.bsq.burnerPart = s.bsq.burnerPart)
    (lines : t.ocu.lines = s.ocu.lines) : EndsFrom s t where
  powered := h.powered
  pending := h.pending
  clock := h.clock (by decide)
  mfe := by rw [h.mfe (by decide)]
  flt := by rw [h.flt (by decide)]
  rlc := by rw [h.rlc (by decide)]
  prt := by rw [h.prt (by decide)]
  sto := by rw [h.sto (by decide)]
  table := by rw [h.dta (by decide)]
  frostStage := by rw [h.dta (by decide)]
  lines := lines
  bsq := bsq

/-! ### The output channel unit keeps the trip lines -/

@[simp] theorem Ocu.commandFan_lines (o : Ocu) (r : Nat) : (o.commandFan r).lines = o.lines := rfl
@[simp] theorem Ocu.commandPump_lines (o : Ocu) (r : PumpRequest) : (o.commandPump r).lines = o.lines := by
  unfold Ocu.commandPump
  split
  · rfl
  · dsimp only
    split <;> rfl
@[simp] theorem Ocu.openValve_lines (o : Ocu) (v : GasValve) (t : CombustionTable) : (o.openValve v t).lines = o.lines := by
  unfold Ocu.openValve
  dsimp only
  split <;> simp
@[simp] theorem Ocu.closeValve_lines (o : Ocu) (v : GasValve) : (o.closeValve v).lines = o.lines := by
  unfold Ocu.closeValve
  dsimp only
  split <;> simp
@[simp] theorem Ocu.unforce_lines (o : Ocu) (c : TestChannel) : (o.unforce c).lines = o.lines := by cases c <;> rfl
theorem Ocu.unforceAll_lines (l : List (TestChannel × Nat)) (o : Ocu) :
    (l.foldl (fun o x => o.unforce x.1) o).lines = o.lines := by
  induction l generalizing o with
  | nil => rfl
  | cons x rest ih => simp [ih]
@[simp] theorem Ocu.endTest_lines (o : Ocu) (c : TestEnd) : (o.endTest c).lines = o.lines := Ocu.unforceAll_lines _ _

@[simp] theorem State.commandGas_lines (s : State) (b : Bool) : (s.commandGas b).ocu.lines = s.ocu.lines := by
  cases b <;> simp [State.commandGas]
@[simp] theorem State.commandSpark_lines (s : State) (b : Bool) : (s.commandSpark b).ocu.lines = s.ocu.lines := rfl
@[simp] theorem State.setFanTarget_lines (s : State) (r : Nat) : (s.setFanTarget r).ocu.lines = s.ocu.lines := rfl

/-! ### Stages -/

/-- The part of the sequencer's record that no change of state writes. -/
def Bsq.kept (b : Bsq) :
    Nat × Option Nat × List PendingCause × ValveSet Bool × List TripSet × List RefusedOpen × Option CoilReport × Nat :=
  (b.provingFailures, b.b06Timer, b.pendingCauses, b.coilZero, b.tripReports, b.refusedOpens, b.coilReport, b.burnerPart)

theorem Bsq.kept_iff (a b : Bsq) : a.kept = b.kept ↔
    a.provingFailures = b.provingFailures ∧ a.b06Timer = b.b06Timer ∧ a.pendingCauses = b.pendingCauses
      ∧ a.coilZero = b.coilZero ∧ a.tripReports = b.tripReports ∧ a.refusedOpens = b.refusedOpens
      ∧ a.coilReport = b.coilReport ∧ a.burnerPart = b.burnerPart := by simp [Bsq.kept]

@[simp] theorem Bsq.judgeBand_kept (b : Bsq) (n : Nat) (i : Int) : (b.judgeBand n i).kept = b.kept := by
  unfold Bsq.judgeBand; split <;> rfl
@[simp] theorem Bsq.enter_kept (b : Bsq) (t : CombustionTable) (q : SeqState) : (b.enter t q).kept = b.kept := rfl
@[simp] theorem State.setFanTarget_kept (s : State) (r : Nat) : (s.setFanTarget r).bsq.kept = s.bsq.kept := by
  simp only [State.setFanTarget, Bsq.judgeBand_kept]; rfl
@[simp] theorem State.commandGas_kept (s : State) (b : Bool) : (s.commandGas b).bsq.kept = s.bsq.kept := by cases b <;> rfl
@[simp] theorem State.commandSpark_kept (s : State) (b : Bool) : (s.commandSpark b).bsq.kept = s.bsq.kept := rfl

theorem setFanTarget_endsFrom (s : State) (r : Nat) : EndsFrom s (s.setFanTarget r) :=
  .ofTouches ((setFanTarget_touches s r).mono (by simp)) ((Bsq.kept_iff _ _).1 (by simp)) rfl

theorem fre_endsFrom (s : State) (x : Fre) : EndsFrom s { s with fre := x } :=
  .ofTouches (fre_touches s x) (by simp) rfl

theorem handRate_endsFrom (s : State) (r : Int) : EndsFrom s (s.handRate r) := by
  unfold State.handRate
  dsimp only
  split
  · exact fre_endsFrom _ _
  · split
    · exact (fre_endsFrom _ _).trans (setFanTarget_endsFrom _ _)
    · exact fre_endsFrom _ _

theorem takeRate_endsFrom (s : State) (r : Int × LimitReason) : EndsFrom s (s.takeRate r) :=
  (handRate_endsFrom s r.1).trans (fre_endsFrom _ _)

theorem applyCaps_endsFrom (s : State) : EndsFrom s s.applyCaps := by
  unfold State.applyCaps
  dsimp only
  split
  · exact (fre_endsFrom s { s.fre with caps := s.formedCaps }).trans (takeRate_endsFrom _ _)
  · exact fre_endsFrom _ _

theorem serveMode_endsFrom (s : State) : EndsFrom s s.serveMode := by
  unfold State.serveMode
  split
  · have base := fre_endsFrom s (s.fre.serve s.dta.plan.mode)
    cases s.dta.plan.mode <;> dsimp only
    · exact (fre_endsFrom s _).trans (fre_endsFrom _ _)
    · exact (((fre_endsFrom s _).trans (applyCaps_endsFrom _)).trans (fre_endsFrom _ _)).trans (fre_endsFrom _ _)
    · exact (fre_endsFrom s _).trans (fre_endsFrom _ _)
    · exact ((fre_endsFrom s _).trans (takeRate_endsFrom _ _)).trans (fre_endsFrom _ _)
  · exact .refl s

theorem leaveFor_endsFrom (s : State) (q : SeqState) : EndsFrom s (s.leaveFor q) := by
  unfold State.leaveFor
  constructor <;> try rfl
  · dsimp only; split <;> rfl
  · dsimp only; split <;> rfl
  · dsimp only; split <;> rfl
  · exact ⟨rfl, rfl, rfl, rfl, rfl, rfl, rfl, rfl⟩

/-- A write of the sequencer's record that keeps what no change of state writes. -/
theorem bsq_endsFrom (s : State) (b : Bsq) (h : b.kept = s.bsq.kept) : EndsFrom s { s with bsq := b } :=
  .ofTouches ((touches_bsq s b).mono (by simp)) ((Bsq.kept_iff _ _).1 h) rfl

theorem commandGas_endsFrom (s : State) (b : Bool) : EndsFrom s (s.commandGas b) :=
  .ofTouches ((commandGas_touches s b).mono (by simp)) ((Bsq.kept_iff _ _).1 (by simp)) (by simp)

theorem commandSpark_endsFrom (s : State) (b : Bool) : EndsFrom s (s.commandSpark b) :=
  .ofTouches ((commandSpark_touches s b).mono (by simp)) ((Bsq.kept_iff _ _).1 (by simp)) (by simp)

theorem EndsFrom.ite {c : Prop} [Decidable c] {s t u : State} (h : EndsFrom s t) (k : EndsFrom s u) :
    EndsFrom s (if c then t else u) := by split <;> assumption

/-- A change of the sequencer's state is one of the things an event's end may do. -/
theorem goto_endsFrom (s : State) (q : SeqState) : EndsFrom s (s.goto q) := by
  unfold State.goto
  dsimp only
  refine EndsFrom.trans ?_ (setFanTarget_endsFrom _ _)
  have h2 := (leaveFor_endsFrom s q).trans
    (bsq_endsFrom (s.leaveFor q) ((s.leaveFor q).bsq.enter (s.leaveFor q).sto.table q) (by simp))
  have h3 := EndsFrom.ite (c := q.gasOpen = true) h2 (h2.trans (commandGas_endsFrom _ false))
  exact h3.ite (h3.trans (commandSpark_endsFrom _ false))

theorem askRearm_endsFrom (s : State) : EndsFrom s s.askRearm := by
  constructor <;> try rfl
  exact ⟨rfl, rfl, rfl, rfl, rfl, rfl, rfl, rfl⟩

theorem startBurn_endsFrom (s : State) : EndsFrom s s.startBurn := by
  unfold State.startBurn
  dsimp only
  have h := (bsq_endsFrom s s.bsq.beginBurn rfl).trans (goto_endsFrom _ .preCheck)
  exact EndsFrom.ite ((h.trans (askRearm_endsFrom _)).trans (goto_endsFrom _ _)) (h.trans (askRearm_endsFrom _))

theorem judgeRequest_endsFrom (s : State) : EndsFrom s s.judgeRequest := by
  unfold State.judgeRequest
  refine EndsFrom.ite (EndsFrom.ite (startBurn_endsFrom s) (.refl s)) ?_
  split <;> first | exact goto_endsFrom _ _ | exact .refl s

theorem judgePreCheck_endsFrom (s : State) : EndsFrom s s.judgePreCheck :=
  EndsFrom.ite (goto_endsFrom _ _) (.refl s)

theorem ocu_endsFrom (s : State) (o : Ocu) (h : o.lines = s.ocu.lines) : EndsFrom s { s with ocu := o } :=
  .ofTouches ((touches_ocu s o).mono (by simp)) (by simp) h

theorem driveOutputs_endsFrom (s : State) : EndsFrom s s.driveOutputs := ocu_endsFrom _ _ (by simp)

theorem drivePins_endsFrom (s : State) : EndsFrom s s.drivePins := by
  constructor <;> first | rfl | exact ⟨rfl, rfl, rfl, rfl, rfl, rfl, rfl, rfl⟩

theorem startWrite_endsFrom (s : State) : EndsFrom s s.startWrite := by
  unfold State.startWrite
  refine EndsFrom.ite ?_ (.refl s)
  split
  · exact .refl s
  · constructor <;> first | rfl | exact ⟨rfl, rfl, rfl, rfl, rfl, rfl, rfl, rfl⟩

theorem endTest_endsFrom (s : State) (c : TestEnd) : EndsFrom s (s.endTest c) := by
  unfold State.endTest
  refine EndsFrom.ite ?_ (.refl s)
  constructor <;> try rfl
  · dsimp only; split <;> rfl
  · dsimp only; split <;> rfl
  · dsimp only; split <;> simp
  · exact ⟨rfl, rfl, rfl, rfl, rfl, rfl, rfl, rfl⟩

theorem guardTap_endsFrom (s : State) : EndsFrom s s.guardTap := by
  unfold State.guardTap
  constructor <;> try rfl
  · dsimp only; split
    · rfl
    · split <;> rfl
  · dsimp only; split
    · rfl
    · split <;> rfl
  · exact ⟨rfl, rfl, rfl, rfl, rfl, rfl, rfl, rfl⟩

theorem judgeKeepwarm_endsFrom (s : State) : EndsFrom s s.judgeKeepwarm := by
  unfold State.judgeKeepwarm
  constructor <;> try rfl
  · dsimp only; split <;> split <;> rfl
  · dsimp only; split <;> split <;> rfl
  · exact ⟨rfl, rfl, rfl, rfl, rfl, rfl, rfl, rfl⟩

theorem formTargets_endsFrom (s : State) : EndsFrom s s.formTargets := fre_endsFrom _ _

theorem evaluate_endsFrom (s : State) : EndsFrom s s.evaluate := by
  constructor <;> first | rfl | exact ⟨rfl, rfl, rfl, rfl, rfl, rfl, rfl, rfl⟩

theorem testMeetsDemand_endsFrom (s : State) : EndsFrom s s.testMeetsDemand :=
  EndsFrom.ite (endTest_endsFrom s .demand) (.refl s)

theorem replan_endsFrom (s : State) : EndsFrom s s.replan := by
  unfold State.replan
  exact ((((guardTap_endsFrom s).trans (judgeKeepwarm_endsFrom _)).trans (testMeetsDemand_endsFrom _)).trans
    (formTargets_endsFrom _)).trans (evaluate_endsFrom _)

theorem round_endsFrom (s : State) : EndsFrom s s.round := by
  unfold State.round
  exact (((((replan_endsFrom s).trans (serveMode_endsFrom _)).trans (applyCaps_endsFrom _)).trans
    (judgeRequest_endsFrom _)).trans (judgePreCheck_endsFrom _)).trans (driveOutputs_endsFrom _)

theorem markDirty_endsFrom (s : State) (i : StoreItem) : EndsFrom s (s.markDirty i) := by
  constructor <;> first | rfl | exact ⟨rfl, rfl, rfl, rfl, rfl, rfl, rfl, rfl⟩

theorem remark_endsFrom (s : State) : EndsFrom s s.remark := by
  unfold State.remark
  split
  · exact .refl s
  · exact EndsFrom.ite (.refl s) (markDirty_endsFrom s _)

theorem writeStore_endsFrom (s : State) : EndsFrom s s.writeStore := (remark_endsFrom s).trans (startWrite_endsFrom _)

/-- What the end of an event can do. -/
theorem settle_endsFrom (s : State) : EndsFrom s s.settle := by
  unfold State.settle
  exact (((round_endsFrom s).trans (round_endsFrom _)).trans (drivePins_endsFrom _)).trans (writeStore_endsFrom _)

/-- A meaning of a part that is powered: the event's own effect, then its end. -/
theorem State.event_powered {s : State} (h : s.powered = true) (f : State → State) : s.event f = (f s).settle := by
  simp [State.event, State.live, h]

/-- A part without supply finds nothing to act on. -/
theorem State.event_unpowered {s : State} (h : s.powered = false) (f : State → State) : s.event f = s := by
  simp [State.event, State.live, h]

/-! ### What the end of an event writes -/

/-- An item changed in its own write joins the dirty set; nothing else of the part changes (R177). -/
theorem remark_frame (s : State) : s.remark = { s with sto := { s.sto with dirty := s.remark.sto.dirty } } := by
  unfold State.remark
  split
  · rfl
  · split <;> rfl

theorem remark_touches (s : State) : Touches [.sto] s s.remark := by
  rw [remark_frame]
  exact (Touches.refl _ s).thenSto _ (by simp)

/-- The store takes no item out of the dirty set but the one whose write begins. -/
theorem startWrite_sto (s : State) : s.startWrite.sto = s.sto ∨
    ∃ i, firstItem s.flt.ring s.sto.dirty = some i ∧ s.startWrite.sto =
      { s.sto with dirty := s.sto.dirty.filter fun x => x != i, inFlight := some ⟨s.imageOf i, Config.storeWriteMs⟩ } := by
  unfold State.startWrite
  split
  · split
    · exact .inl rfl
    · rename_i i h
      exact .inr ⟨i, h, rfl⟩
  · exact .inl rfl

/-- The records that the store writer leaves. -/
theorem startWrite_touches (s : State) : Touches [.sto] s s.startWrite := by
  unfold State.startWrite
  refine .ite ?_ (.refl _ _)
  split
  · exact .refl _ _
  · exact (Touches.refl _ s).thenSto _ (by simp)

/-- The store writer leaves every other record, and of the store all but the dirty set and the write in flight. -/
theorem writeStore_touches (s : State) : Touches [.sto] s s.writeStore := (remark_touches s).trans (startWrite_touches _)

theorem writeStore_kept (s : State) :
    s.writeStore.sto.startup = s.sto.startup ∧ s.writeStore.sto.settings = s.sto.settings := by
  have h := (writeStore_endsFrom s).sto
  exact ⟨by rw [h], by rw [h]⟩

/-- An item that is marked is dirty. -/
theorem mem_markItem (d : List StoreItem) (i : StoreItem) : i ∈ markItem d i := by
  unfold markItem
  split <;> simp_all

/-- What changed in its own write has been marked dirty again (R177). -/
theorem remark_writer (s : State) : WriterLaw s.remark := by
  intro w hw
  have hi : s.remark.imageOf w.image.item = s.imageOf w.image.item := by rw [remark_frame]; cases w.image <;> rfl
  have hw : s.sto.inFlight = some w := by rwa [remark_frame] at hw
  by_cases h : s.imageOf w.image.item = w.image
  · exact .inl (hi.trans h).symm
  · exact .inr (by simp only [State.remark, hw, h, if_false]; exact mem_markItem _ _)

/-- A write that the store begins carries its item's contents as they stand, and one in flight was marked (R177). -/
theorem writeStore_writer (s : State) : WriterLaw s.writeStore := by
  unfold State.writeStore State.startWrite
  split
  · split
    · exact remark_writer s
    · rintro w ⟨⟩
      rename_i i _
      exact .inl (by cases i <;> rfl)
  · exact remark_writer s

/-- The end of an event leaves the writer's law. -/
theorem settle_writer (s : State) : WriterLaw s.settle := writeStore_writer _

end Sys2Proof.Machine
end

