-- ==== Sys2Proof/Laws/Flags.lean ====
section
/-! SUPPORT. Keys that enter and leave the active fault set, said once (R120, R121), and membership of the set afterwards. -/

namespace Sys2Proof.Machine

theorem mem_allKeys (k : FaultKey) : k ∈ allKeys := by
  rcases k with _ | _ | _ | _ | _ | _ | _ | _ | _ | _ | _ | _ | _ | _ | _ | _ | _ | _ | _ | _ | _ | _ | n | _ | _ | _ | _ |
    _ | _ | _ | _ | _ | _ <;> first | decide | (cases n <;> decide)

theorem State.isActive_iff (s : State) (k : FaultKey) : s.isActive k = true ↔ k ∈ s.flt.active := by
  simp [State.isActive]

theorem State.isActive_eq_false_iff (s : State) (k : FaultKey) : s.isActive k = false ↔ k ∉ s.flt.active := by
  simp [State.isActive]

@[simp] theorem mem_addKey (l : List FaultKey) (k j : FaultKey) : j ∈ addKey l k ↔ j ∈ l ∨ j = k := by
  simp [addKey, mem_allKeys]

@[simp] theorem mem_dropKey (l : List FaultKey) (k j : FaultKey) : j ∈ dropKey l k ↔ j ∈ l ∧ j ≠ k := by
  simp [dropKey]

theorem addKey_sublist (l : List FaultKey) (k : FaultKey) : (addKey l k).Sublist allKeys := List.filter_sublist

theorem dropKey_sublist {l : List FaultKey} (k : FaultKey) (h : l.Sublist allKeys) : (dropKey l k).Sublist allKeys :=
  List.filter_sublist.trans h

/-! ### What a raise and a clear leave -/

@[simp] theorem recordRaise_active (s : State) (k : FaultKey) (b : Bool) : (s.recordRaise k b).flt.active = s.flt.active := by
  unfold State.recordRaise
  split
  · split
    · split <;> rfl
    · rfl
  · rfl

/-- The fields of the fault unit's record that no history operation writes. -/
def Flt.kept (f : Flt) : List FaultKey × Option Lockout × Nat × Option Nat × LockingConditions × Bool × Bool × Bool :=
  (f.active, f.lockout, f.resetCounter, f.decay, f.conditions, f.ringBuilt, f.alarmActive, f.alarmHigh)

theorem recordRaise_kept (s : State) (k : FaultKey) (b : Bool) : (s.recordRaise k b).flt.kept = s.flt.kept := by
  unfold State.recordRaise
  split
  · split
    · split <;> rfl
    · rfl
  · rfl

theorem fillCleared_kept (s : State) (k : FaultKey) :
    (s.fillCleared k).flt.kept = s.flt.kept ∧ (s.fillCleared k).flt.lastCreation = s.flt.lastCreation := by
  unfold State.fillCleared
  split
  · split <;> exact ⟨rfl, rfl⟩
  · exact ⟨rfl, rfl⟩

theorem recordRaise_sto (s : State) (k : FaultKey) (b : Bool) :
    (s.recordRaise k b).sto = { s.sto with dirty := (s.recordRaise k b).sto.dirty } := by
  unfold State.recordRaise
  split
  · split
    · split <;> rfl
    · rfl
  · rfl

theorem fillCleared_sto (s : State) (k : FaultKey) :
    (s.fillCleared k).sto = { s.sto with dirty := (s.fillCleared k).sto.dirty } := by
  unfold State.fillCleared
  split
  · split <;> rfl
  · rfl

theorem recordRaise_prt (s : State) (k : FaultKey) (b : Bool) : (s.recordRaise k b).prt = s.prt :=
  (recordRaise_touches s k b).prt (by decide)

theorem fillCleared_prt (s : State) (k : FaultKey) : (s.fillCleared k).prt = s.prt :=
  (fillCleared_touches s k).prt (by decide)

theorem Flt.eq_of_kept {f g : Flt} (h : f.kept = g.kept) :
    f = { g with active := f.active, ring := f.ring, early := f.early, lastCreation := f.lastCreation } := by
  cases f; cases g
  simp only [Flt.kept, Prod.mk.injEq] at h
  simp_all

/-- A key that enters the active fault set (R120, R121). -/
theorem enterKey_enters (s : State) (k : FaultKey) : EntersKey k s (s.enterKey k) := by
  refine ⟨enterKey_touches s k, ?_, ?_, ?_, ?_, ?_⟩
  · unfold State.enterKey; split <;> simp_all
  · unfold State.enterKey
    split
    · rfl
    · have h := Flt.eq_of_kept (recordRaise_kept { s with flt := { s.flt with active := addKey s.flt.active k } } k false)
      simpa using h
  · unfold State.enterKey
    split
    · rfl
    · simp [recordRaise_prt]
  · unfold State.enterKey
    split
    · rfl
    · have h := recordRaise_sto { s with flt := { s.flt with active := addKey s.flt.active k } } k false
      simpa using h
  · intro h; simp [State.enterKey, h]

theorem dropKey_absent {l : List FaultKey} {k : FaultKey} (h : k ∉ l) : dropKey l k = l := by
  unfold dropKey
  refine List.filter_eq_self.2 fun x m => ?_
  simp only [bne_iff_ne, ne_eq]
  exact fun e => h (e ▸ m)

/-- A key that leaves the active fault set (R120, R121). -/
theorem leaveKey_leaves (s : State) (k : FaultKey) : LeavesKey k s (s.leaveKey k) := by
  have hk := fillCleared_kept { s with flt := { s.flt with active := dropKey s.flt.active k } } k
  refine ⟨leaveKey_touches s k, ?_, ?_, ?_, ?_, ?_⟩
  · unfold State.leaveKey
    split
    · have h := congrArg Prod.fst hk.1
      simpa [Flt.kept] using h
    · rename_i h
      exact (dropKey_absent ((s.isActive_eq_false_iff k).1 (by simpa using h))).symm
  · unfold State.leaveKey
    split
    · have h := Flt.eq_of_kept hk.1
      rw [hk.2] at h
      simpa using h
    · rfl
  · unfold State.leaveKey
    split <;> simp [fillCleared_prt]
  · unfold State.leaveKey
    split
    · have h := fillCleared_sto { s with flt := { s.flt with active := dropKey s.flt.active k } } k
      simpa using h
    · rfl
  · intro h; simp [State.leaveKey, h]

/-! ### Membership -/

theorem isActive_of_active {s t : State} (h : t.flt.active = s.flt.active) (k : FaultKey) : t.isActive k = s.isActive k := by
  simp [State.isActive, h]

theorem Bool.eq_iff_of {a b : Bool} (h : a = true ↔ b = true) : a = b := by cases a <;> cases b <;> simp_all

@[simp] theorem enterKey_isActive (s : State) (k j : FaultKey) :
    (s.enterKey k).isActive j = (s.isActive j || j == k) := by
  refine Bool.eq_iff_of ?_
  rw [State.isActive_iff, (enterKey_enters s k).active]
  by_cases h : s.isActive k = true
  · simp only [h, if_true, Bool.or_eq_true, State.isActive_iff, beq_iff_eq]
    exact ⟨.inl, fun m => m.elim id fun e => e ▸ (s.isActive_iff k).1 h⟩
  · simp [h, State.isActive_iff]

@[simp] theorem leaveKey_isActive (s : State) (k j : FaultKey) :
    (s.leaveKey k).isActive j = (s.isActive j && j != k) := by
  refine Bool.eq_iff_of ?_
  rw [State.isActive_iff, (leaveKey_leaves s k).active]
  simp [State.isActive_iff]

theorem follow_isActive (s : State) (k j : FaultKey) (b : Bool) :
    (s.follow k b).isActive j = if j = k then b else s.isActive j := by
  cases b <;> by_cases h : j = k <;> simp [State.follow, h]

theorem hysteresis_isActive (s : State) (k j : FaultKey) (raise clear : Bool) :
    (s.hysteresis k raise clear).isActive j =
      if j = k then (if raise then true else if clear then false else s.isActive k) else s.isActive j := by
  cases raise <;> cases clear <;> by_cases h : j = k <;> simp [State.hysteresis, h]

/-- An operation that touches neither the fault unit nor a key of it. -/
theorem Touches.isActive {l : List Block} {s t : State} (h : Touches l s t) (m : .flt ∉ l) (k : FaultKey) :
    t.isActive k = s.isActive k := isActive_of_active (by rw [h.flt m]) k

/-- The end of an event leaves the active fault set as it was. -/
@[simp] theorem settle_isActive (s : State) (k : FaultKey) : s.settle.isActive k = s.isActive k :=
  isActive_of_active (by rw [(settle_endsFrom s).flt]) k

/-! ### Changes handed on in turn (R121) -/

/-- A change made in turn is the change, with what the arbiter and the plan's readers do about it where it alters what is
handed on. -/
theorem inTurn_cases (s : State) (f : State → State) : s.inTurn f = f s ∨ s.inTurn f = (f s).round.drivePins := by
  unfold State.inTurn
  split
  · exact .inl rfl
  · exact .inr rfl

theorem inTurn_endsFrom (s : State) (f : State → State) : EndsFrom (f s) (s.inTurn f) := by
  rcases inTurn_cases s f with h | h <;> rw [h]
  · exact .refl _
  · exact (round_endsFrom _).trans (drivePins_endsFrom _)

@[simp] theorem inTurn_isActive (s : State) (f : State → State) (k : FaultKey) : (s.inTurn f).isActive k = (f s).isActive k :=
  isActive_of_active (by rw [(inTurn_endsFrom s f).flt]) k

/-! ### Notices (R170) -/

theorem Prt.post_length (p : Prt) (n : Notice) (h : p.notices.length ≤ 16) : (p.post n).notices.length ≤ 16 := by
  unfold Prt.post
  split
  · simp only [List.length_append, List.length_cons, List.length_nil]; omega
  · exact h

/-- Posting writes the notices and the overflow flag alone. -/
theorem Prt.post_frame (p : Prt) (n : Notice) :
    p.post n = { p with notices := (p.post n).notices, overflow := (p.post n).overflow } := by
  unfold Prt.post; split <;> rfl

end Sys2Proof.Machine
end

