-- ==== Sys2Proof/Laws/Step.lean ====
section
/-! SUPPORT. What a command and a step can do, said once: a command without effect on an unpowered part, an event with its
end, or one of the four commands of the supply and the resets; a step runs a command or lets 1 ms pass. -/

namespace Sys2Proof.Machine

/-- The four commands whose meaning is not an event with an end. -/
def isReset : Instr → Bool
  | .powerOnReset => true
  | .pinReset => true
  | .softResetEffect => true
  | .supplyFailure => true
  | _ => false

/-- Every other command: nothing on an unpowered part, or an event and its end. -/
theorem exec_event (c : Instr) (h : isReset c = false) : ∃ f : State → State, ∀ s, exec c s = .next (s.event f) := by
  cases c <;> first | exact Bool.noConfusion h | exact ⟨_, fun _ => rfl⟩

theorem exec_cases {c : Instr} {s t : State} (h : exec c s = .next t) :
    isReset c = true ∨ t = s ∨ ∃ u, t = State.settle u := by
  cases hc : isReset c
  · obtain ⟨f, hf⟩ := exec_event c hc
    rw [hf] at h
    cases h
    cases hp : s.powered
    · exact .inr (.inl (s.event_unpowered hp f))
    · exact .inr (.inr ⟨f s, s.event_powered hp f⟩)
  · exact .inl rfl

/-- A step runs a command, lets 1 ms pass, or leaves an unpowered part with nothing to do. -/
theorem step_cases {s t : State} (h : step s = .next t) :
    (∃ c u, exec c u = .next t ∧ ∃ q, u = { s with pending := q }) ∨ (t = s.tick ∧ s.powered = true) ∨ t = s := by
  unfold step at h
  split at h
  · exact .inl ⟨_, _, h, _, rfl⟩
  · unfold State.idleStep at h
    split at h
    · split at h
      · exact .inl ⟨_, s, h, s.pending, rfl⟩
      · exact .inr (.inl ⟨by cases h; rfl, by assumption⟩)
    · exact .inr (.inr (by cases h; rfl))

/-- A property that does not look at the queue is kept by every step, once every command and 1 ms of time keep it. -/
theorem KeptByStep.of_exec {P : State → Prop} (queue : ∀ s q, P s → P { s with pending := q })
    (command : ∀ c s t, P s → exec c s = .next t → P t) (time : ∀ s, P s → P s.tick) : KeptByStep P := by
  intro s t hs h
  rcases step_cases h with ⟨c, u, hc, q, rfl⟩ | ⟨rfl, _⟩ | rfl
  · exact command c _ t (queue s q hs) hc
  · exact time s hs
  · exact hs

/-- A tick: 1 ms of time, and the end of an event where the age of the pressure record has reached its limit. -/
theorem tick_cases (s : State) : s.tick = s.pass ∨ s.tick = s.pass.pressureFails.settle := by
  unfold State.tick
  dsimp only
  split
  · exact .inr rfl
  · exact .inl rfl

end Sys2Proof.Machine
end

