-- ==== Sys2Proof/Laws/EventEnd.lean ====
section
/-! SUPPORT. What the end of an event leaves true: the heat plan that the table and the faults give, the owner commands that
follow it, and the levels of ALARM and ATTN. -/

namespace Sys2Proof.Machine

/-! ### A change of the sequencer's state and the heat plan -/

/-- Two states that show the arbiter the same table, plan, targets, settings, faults and room loop. -/
structure SamePlan (s t : State) : Prop where
  table : t.dta.table = s.dta.table
  plan : t.dta.plan = s.dta.plan
  divState : t.dta.divState = s.dta.divState
  flt : t.flt = s.flt
  rlc : t.rlc = s.rlc
  targets : t.fre.targets = s.fre.targets
  settings : t.sto.settings = s.sto.settings

theorem SamePlan.refl (s : State) : SamePlan s s := ⟨rfl, rfl, rfl, rfl, rfl, rfl, rfl⟩

theorem SamePlan.trans {s t u : State} (h : SamePlan s t) (k : SamePlan t u) : SamePlan s u :=
  ⟨k.table.trans h.table, k.plan.trans h.plan, k.divState.trans h.divState, k.flt.trans h.flt, k.rlc.trans h.rlc,
    k.targets.trans h.targets, k.settings.trans h.settings⟩

theorem SamePlan.ite {c : Prop} [Decidable c] {s t u : State} (h : SamePlan s t) (k : SamePlan s u) :
    SamePlan s (if c then t else u) := by split <;> assumption

/-- An operation on the firing rate, the sequencer and the outputs that leaves the targets. -/
theorem Touches.samePlan {s t : State} (h : Touches [.fre, .bsq, .ocu] s t) (targets : t.fre.targets = s.fre.targets) :
    SamePlan s t := by
  have := h.dta (by decide)
  exact ⟨by rw [this], by rw [this], by rw [this], h.flt (by decide), h.rlc (by decide), targets, by rw [h.sto (by decide)]⟩

/-- An operation on the sequencer and the outputs. -/
theorem Touches.sequencerSamePlan {s t : State} (h : Touches [.bsq, .ocu] s t) : SamePlan s t :=
  (h.mono (by simp)).samePlan (by rw [h.fre (by decide)])

/-! The firing-rate engine leaves the per-entry targets, which are formed before the plan (R54). -/

@[simp] theorem handRate_targets (s : State) (r : Int) : (s.handRate r).fre.targets = s.fre.targets := by
  unfold State.handRate
  dsimp only
  split
  · rfl
  · split
    · rw [(setFanTarget_touches _ _).fre (by decide)]
    · rfl

@[simp] theorem takeRate_targets (s : State) (r : Int × LimitReason) : (s.takeRate r).fre.targets = s.fre.targets :=
  handRate_targets s r.1

@[simp] theorem applyCaps_targets (s : State) : s.applyCaps.fre.targets = s.fre.targets := by
  unfold State.applyCaps
  dsimp only
  split <;> simp

@[simp] theorem serveMode_targets (s : State) : s.serveMode.fre.targets = s.fre.targets := by
  unfold State.serveMode
  split
  · cases s.dta.plan.mode <;> simp [Fre.serve, State.serviceForm, State.bumplessLoad]
  · rfl

theorem leaveFor_samePlan (s : State) (q : SeqState) : SamePlan s (s.leaveFor q) := by
  unfold State.leaveFor
  constructor <;> first | rfl | (dsimp only; split <;> rfl)

theorem goto_samePlan (s : State) (q : SeqState) : SamePlan s (s.goto q) := by
  unfold State.goto
  dsimp only
  refine SamePlan.trans ?_ (setFanTarget_touches _ _).sequencerSamePlan
  have h2 := (leaveFor_samePlan s q).trans ((touches_bsq (s.leaveFor q)
    ((s.leaveFor q).bsq.enter (s.leaveFor q).sto.table q)).mono (by simp)).sequencerSamePlan
  have h3 := SamePlan.ite (c := q.gasOpen = true) h2
    (h2.trans ((commandGas_touches _ false).mono (by simp)).sequencerSamePlan)
  exact h3.ite (h3.trans ((commandSpark_touches _ false).mono (by simp)).sequencerSamePlan)

theorem askRearm_samePlan (s : State) : SamePlan s s.askRearm := ⟨rfl, rfl, rfl, rfl, rfl, rfl, rfl⟩

theorem startBurn_samePlan (s : State) : SamePlan s s.startBurn := by
  unfold State.startBurn
  dsimp only
  have h := ((touches_bsq s s.bsq.beginBurn).mono (by simp)).sequencerSamePlan.trans (goto_samePlan _ .preCheck)
  exact SamePlan.ite ((h.trans (askRearm_samePlan _)).trans (goto_samePlan _ _)) (h.trans (askRearm_samePlan _))

theorem judgeRequest_samePlan (s : State) : SamePlan s s.judgeRequest := by
  unfold State.judgeRequest
  refine SamePlan.ite (SamePlan.ite (startBurn_samePlan s) (.refl s)) ?_
  split <;> first | exact goto_samePlan _ _ | exact .refl s

theorem judgePreCheck_samePlan (s : State) : SamePlan s s.judgePreCheck := SamePlan.ite (goto_samePlan _ _) (.refl s)

theorem driveOutputs_samePlan (s : State) : SamePlan s s.driveOutputs := ⟨rfl, rfl, rfl, rfl, rfl, rfl, rfl⟩

/-- After the re-evaluation, the readers of the plan leave the plan as it is (R35). -/
theorem round_samePlan (s : State) : SamePlan s.replan s.round := by
  unfold State.round
  exact (((((serveMode_touches s.replan).samePlan (by simp)).trans ((applyCaps_touches _).samePlan (by simp))).trans
    (judgeRequest_samePlan _)).trans (judgePreCheck_samePlan _)).trans (driveOutputs_samePlan _)

/-! ### The plan (R32 to R35) -/

/-- What the plan depends on, for the law. -/
theorem PlanLaw.congr {s t : State} (h : PlanLaw s) (e : SamePlan s t) : PlanLaw t := by
  have hask : ∀ x, t.dta.asks x = s.dta.asks x := fun x => by simp [Dta.asks, e.table]
  have hch : t.dta.chAsking = s.dta.chAsking := by simp [Dta.chAsking, hask]
  have hact : ∀ k, t.isActive k = s.isActive k := fun k => isActive_of_active (by rw [e.flt]) k
  have hm : t.chooseMode = s.chooseMode := by simp [State.chooseMode, hask, hch, hact]
  have hs : ∀ m, t.sourcesFor m = s.sourcesFor m := fun m => by cases m <;> simp [State.sourcesFor, hask, hch, hact]
  have hsc : t.scopeInForce = s.scopeInForce := by simp [State.scopeInForce, State.locked, e.flt, hact]
  have ht : ∀ m, t.targetFor m = s.targetFor m := fun m => by cases m <;> simp [State.targetFor, hch, e.targets]
  exact ⟨by rw [hm, e.plan, h.mode], by rw [hm, hs, e.plan, h.sources], by rw [hsc, e.plan, h.scope],
    by rw [hm, hsc, e.plan]; exact h.request, by rw [e.rlc, e.plan]; exact h.loop, by rw [hm, ht, e.plan, h.target],
    by rw [hm, hs, e.plan, e.settings, h.dhwSetpoint], by rw [hm, e.plan]; exact h.diverter⟩

theorem evaluate_plan (s : State) : PlanLaw s.evaluate := by
  have hm : s.evaluate.chooseMode = s.chooseMode := rfl
  have hs : ∀ m, s.evaluate.sourcesFor m = s.sourcesFor m := fun m => by cases m <;> rfl
  have hsc : s.evaluate.scopeInForce = s.scopeInForce := rfl
  refine ⟨rfl, by rw [hm, hs]; rfl, rfl, ?_, ⟨rfl, rfl⟩, rfl, ?_, ?_⟩
  · rw [hm, hsc]
    intro h
    have h' : ((s.modeRequest s.chooseMode (s.targetFor s.chooseMode)).1 && s.scopeInForce.allows) = true := h
    rw [Bool.and_eq_true] at h'
    refine ⟨h'.2, fun e => ?_⟩
    have := h'.1
    rw [e] at this
    exact absurd this (by simp [State.modeRequest])
  · rw [hm, hs]
    by_cases h : s.chooseMode = .dhw <;> simp [State.evaluate, State.evaluated, h]
  · rw [hm]
    refine ⟨fun h => ?_, fun h => ?_⟩
    · simp [State.evaluate, State.evaluated, diverterTarget, h]
    · rcases h with h | h <;> simp [State.evaluate, State.evaluated, diverterTarget, h]

theorem round_plan (s : State) : PlanLaw s.round := (evaluate_plan _).congr (round_samePlan s)

/-- The levels and the hand-over to the room loop leave the plan's inputs. -/
theorem drivePins_plan {s : State} (h : PlanLaw s) : PlanLaw s.drivePins :=
  ⟨h.mode, h.sources, h.scope, h.request, h.loop, h.target, h.dhwSetpoint, h.diverter⟩

theorem writeStore_samePlan (s : State) : SamePlan s s.writeStore := by
  have e := writeStore_touches s
  have d := e.dta (by decide)
  exact ⟨by rw [d], by rw [d], by rw [d], e.flt (by decide), e.rlc (by decide), by rw [e.fre (by decide)],
    (writeStore_kept s).2⟩

theorem writeStore_plan {s : State} (h : PlanLaw s) : PlanLaw s.writeStore := h.congr (writeStore_samePlan s)

theorem settle_plan (s : State) : PlanLaw s.settle := writeStore_plan (drivePins_plan (round_plan _))

/-! ### The owner commands (R72, R113, R115) -/

theorem commandSteady_follows (r : ChannelRecord) (b : Bool) : SteadyFollows (r.commandSteady b) b := by
  unfold ChannelRecord.commandSteady
  constructor
  · dsimp only; split <;> rfl
  · dsimp only
    split
    · intro h; simp_all
    · intro _; rfl

theorem commandPump_owner (o : Ocu) (r : PumpRequest) : (o.commandPump r).pump.owner = .pumpRequest r := by
  unfold Ocu.commandPump
  split
  · assumption
  · dsimp only
    split
    · rfl
    · cases r <;> rfl

@[simp] theorem commandPump_fan (o : Ocu) (r : PumpRequest) : (o.commandPump r).fan = o.fan := by
  unfold Ocu.commandPump
  split
  · rfl
  · dsimp only
    split <;> rfl

@[simp] theorem takeFan_owner (r : ChannelRecord) (n : Nat) : (r.takeFan n).owner = r.owner := by
  unfold ChannelRecord.takeFan
  split
  · rfl
  · split <;> rfl

/-- The FAN channel carries the sequencer's fan target. -/
def FanFollows (s : State) : Prop := s.ocu.fan.owner = .fanTarget s.bsq.fanTarget

theorem setFanTarget_fan (s : State) (r : Nat) : FanFollows (s.setFanTarget r) := by
  unfold FanFollows
  rw [State.setFanTarget_target]
  unfold State.setFanTarget Ocu.commandFan
  dsimp only
  split <;> simp

theorem goto_fan (s : State) (q : SeqState) : FanFollows (s.goto q) := setFanTarget_fan _ _

theorem handRate_fan {s : State} (h : FanFollows s) (r : Int) : FanFollows (s.handRate r) := by
  unfold State.handRate
  dsimp only
  split
  · exact h
  · split
    · exact setFanTarget_fan _ _
    · exact h

theorem takeRate_fan {s : State} (h : FanFollows s) (r : Int × LimitReason) : FanFollows (s.takeRate r) :=
  handRate_fan h r.1

theorem applyCaps_fan {s : State} (h : FanFollows s) : FanFollows s.applyCaps := by
  unfold State.applyCaps
  dsimp only
  split
  · exact takeRate_fan (s := { s with fre := { s.fre with caps := s.formedCaps } }) h _
  · exact h

theorem serveMode_fan {s : State} (h : FanFollows s) : FanFollows s.serveMode := by
  unfold State.serveMode
  split
  · cases s.dta.plan.mode <;> dsimp only
    · exact h
    · exact applyCaps_fan (s := { s with fre := s.fre.serve .ch }) h
    · exact h
    · exact takeRate_fan (s := { s with fre := s.fre.serve .service }) h _
  · exact h

theorem startBurn_fan (s : State) : FanFollows s.startBurn := by
  unfold State.startBurn
  dsimp only
  split
  · exact goto_fan _ _
  · exact goto_fan { s with bsq := s.bsq.beginBurn } .preCheck

theorem judgeRequest_fan {s : State} (h : FanFollows s) : FanFollows s.judgeRequest := by
  unfold State.judgeRequest
  split
  · split
    · exact startBurn_fan s
    · exact h
  · split <;> first | exact goto_fan _ _ | exact h

theorem judgePreCheck_fan {s : State} (h : FanFollows s) : FanFollows s.judgePreCheck := by
  unfold State.judgePreCheck
  split
  · exact goto_fan _ _
  · exact h

theorem unforceAll_fanOwner (l : List (TestChannel × Nat)) (o : Ocu) :
    (l.foldl (fun o x => o.unforce x.1) o).fan.owner = o.fan.owner := by
  induction l generalizing o with
  | nil => rfl
  | cons x rest ih =>
    rw [List.foldl_cons, ih]
    obtain ⟨c, n⟩ := x
    cases c <;> simp [Ocu.unforce]

@[simp] theorem endTest_fanOwner (o : Ocu) (c : TestEnd) : (o.endTest c).fan.owner = o.fan.owner := unforceAll_fanOwner _ _

theorem endTest_fan {s : State} (h : FanFollows s) (c : TestEnd) : FanFollows (s.endTest c) := by
  unfold State.endTest
  split
  · unfold FanFollows
    dsimp only
    split <;> simpa [FanFollows] using h
  · exact h

theorem replan_fan {s : State} (h : FanFollows s) : FanFollows s.replan := by
  unfold State.replan State.testMeetsDemand
  have h' : FanFollows s.guardTap.judgeKeepwarm := h
  have : ∀ x : State, FanFollows x → FanFollows (if x.dta.anyAsking then x.endTest .demand else x) := by
    intro x hx
    split
    · exact endTest_fan hx _
    · exact hx
  exact this _ h'

theorem round_fan {s : State} (h : FanFollows s) : FanFollows s.round := by
  unfold State.round
  have := judgePreCheck_fan (judgeRequest_fan (applyCaps_fan (serveMode_fan (replan_fan h))))
  unfold FanFollows State.driveOutputs
  dsimp only
  rw [commandPump_fan]
  exact this

theorem driveOutputs_follow (s : State) :
    s.driveOutputs.ocu.pump.owner = .pumpRequest s.driveOutputs.dta.plan.pump
      ∧ SteadyFollows s.driveOutputs.ocu.diverter s.driveOutputs.dta.divState.energised
      ∧ SteadyFollows s.driveOutputs.ocu.zone1 s.driveOutputs.dta.plan.zone1
      ∧ SteadyFollows s.driveOutputs.ocu.zone2 s.driveOutputs.dta.plan.zone2 :=
  ⟨commandPump_owner _ _, commandSteady_follows _ _, commandSteady_follows _ _, commandSteady_follows _ _⟩

theorem round_owners {s : State} (h : FanFollows s) : OwnerLaw s.round := by
  have hf := round_fan h
  unfold State.round at hf ⊢
  generalize s.replan.serveMode.applyCaps.judgeRequest.judgePreCheck = x at hf ⊢
  obtain ⟨hp, hd, h1, h2⟩ := driveOutputs_follow x
  exact ⟨hf, hp, hd, h1, h2⟩

/-- What the owner commands depend on, for the law. -/
theorem OwnerLaw.congr {s t : State} (h : OwnerLaw s) (ocu : t.ocu = s.ocu) (bsq : t.bsq.fanTarget = s.bsq.fanTarget)
    (plan : t.dta.plan = s.dta.plan) (div : t.dta.divState = s.dta.divState) : OwnerLaw t := by
  constructor
  · rw [ocu, bsq]; exact h.fan
  · rw [ocu, plan]; exact h.pump
  · rw [ocu, div]; exact h.diverter
  · rw [ocu, plan]; exact h.zone1
  · rw [ocu, plan]; exact h.zone2

/-- The end of an event leaves every owner command in place, given that FAN carried its target. -/
theorem settle_owners {s : State} (h : FanFollows s) : OwnerLaw s.settle := by
  have hr := round_owners (round_fan h)
  unfold State.settle
  generalize s.round.round = x at hr ⊢
  have e := writeStore_touches x.drivePins
  exact hr.congr (e.ocu (by decide)) (by rw [e.bsq (by decide)]; rfl) (by rw [e.dta (by decide)]; rfl)
    (by rw [e.dta (by decide)]; rfl)

/-! ### ALARM and ATTN (R137, R140, R171) -/

theorem drivePins_alarm (s : State) : AlarmLaw s.drivePins :=
  ⟨by simp [State.drivePins, State.alarmOn, State.locked], rfl, rfl⟩

/-- What the ALARM level depends on, for the law. -/
theorem AlarmLaw.congr {s t : State} (h : AlarmLaw s) (flt : t.flt = s.flt) (rlc : t.rlc = s.rlc)
    (state : t.bsq.state = s.bsq.state) (startup : t.sto.startup = s.sto.startup) : AlarmLaw t :=
  ⟨by rw [State.locked, flt, state]; exact h.alarm, by rw [State.locked, flt, rlc, startup]; exact h.present,
    by rw [flt, rlc, startup]; exact h.displayed⟩

theorem settle_alarm (s : State) : AlarmLaw s.settle := by
  unfold State.settle
  generalize s.round.round = x
  have e := writeStore_touches x.drivePins
  exact (drivePins_alarm x).congr (e.flt (by decide)) (e.rlc (by decide)) (by rw [e.bsq (by decide)])
    (writeStore_kept _).1

theorem drivePins_attn (s : State) : AttnLaw s.drivePins := by
  simp [AttnLaw, State.drivePins, State.attnLevel, State.locked]

/-- What the ATTN level depends on, for the law. -/
theorem AttnLaw.congr {s t : State} (h : AttnLaw s) (prt : t.prt = s.prt) (flt : t.flt = s.flt)
    (startup : (t.sto.startup = none) = (s.sto.startup = none)) (settings : t.sto.settings = s.sto.settings) : AttnLaw t := by
  unfold AttnLaw
  rw [State.locked, prt, flt, startup, settings]
  exact h

theorem settle_attn (s : State) : AttnLaw s.settle := by
  unfold State.settle
  generalize s.round.round = x
  have e := writeStore_touches x.drivePins
  have k := writeStore_kept x.drivePins
  exact (drivePins_attn x).congr (e.prt (by decide)) (e.flt (by decide)) (by rw [k.1]) k.2

end Sys2Proof.Machine
end

