-- ==== Sys2Proof/WellFormed.lean ====
section
/-! DEFINITION. Which commands can come from outside at all: the ranges that the rules give the operands of a command. A
meaning is defined on every operand; a command out of these ranges is one that no pin and no frame can give. -/

namespace Sys2Proof

/-! ### The checks -/

/-- R6: a level on POL/OUT in ‰ of the supply. -/
def permilleOk (x : Nat) : Bool := x ≤ 1000

/-- R18: the samples of one input in a gate of 250 ms at 2,400 samples per second. -/
def gateOk (samples : List Bool) : Bool := samples.length == 600

/-- R99, R100: a STEADY channel has no period. -/
def Channel.hasPeriod : Channel → Bool
  | .fan => true
  | .pump => true
  | .spark => true
  | .gv1 => true
  | .gv2 => true
  | .diverter => false
  | .zone1 => false
  | .zone2 => false

/-- R116: a coil current from 0 to 1,000 mA. -/
def coilCurrentOk (mA : Nat) : Bool := mA ≤ 1000

/-- R156: a control frame of one byte at least that is neither a COLLECT nor a REQUEST within its size. -/
def isBadFrame (bytes : List Byte) : Bool :=
  match bytes with
  | [] => false
  | b :: rest => if b = 1 then 2080 < rest.length else b != 2

/-- R159: a service frame: the start byte and what has come of the length byte, the command bytes and the check byte. -/
def isServiceFrame (bytes : List Byte) : Bool :=
  match bytes with
  | [] => false
  | [b] => b == 0xC3
  | b :: len :: rest => b == 0xC3 && rest.length ≤ len.toNat + 1

/-- 08 §8.3: the count of a command word, 1 to 63. -/
def wordsOk (n : Nat) : Bool := 1 ≤ n && n ≤ 63

/-! ### Commands -/

/-- Whether a command is well formed. -/
def Instr.wellFormed : Instr → Bool
  | .powerOnReset => true
  | .pinReset => true
  | .startupReadsComplete => true
  | .softResetEffect => true
  | .ntcConversionCycle _ polOut => permilleOk polOut
  | .channelOpenOrShort _ _ => true
  | .flowPairCountExpiry => true
  | .noCirculationCountExpiry => true
  | .b09TimerExpiry => true
  | .pressureReading _ => true
  | .ionisationSample _ => true
  | .flameProved => true
  | .flameLost => true
  | .weakFlameBlockEnd => true
  | .pulseGateEnd turbine tacho => gateOk turbine && gateOk tacho
  | .a08GoodGateCount => true
  | .tapStart => true
  | .tapStop => true
  | .antiCycleTimerExpiry => true
  | .serviceEntryExpiry => true
  | .keepwarmSpacingTimerExpiry => true
  | .keepwarmBurnTimeLimit => true
  | .pumpOverrunTimerExpiry => true
  | .diverterMoveEnd => true
  | .chComputation => true
  | .preCheckTimerExpiry => true
  | .prePurgeTimeReached => true
  | .fanProvingTimeout => true
  | .ignitionSpeedRunReached => true
  | .safetyTimeExpiry => true
  | .stabilisationTimeExpiry => true
  | .interPurgeTimeReached => true
  | .outOfBandRunTimeout => true
  | .postPurgeTimeExpiry => true
  | .strayFlameTimeLimit => true
  | .b06TimerExpiry => true
  | .lockoutPurgeEnd => true
  | .lockoutPurgeRemainderEnd => true
  | .tripReport => true
  | .refusedOpen => true
  | .burnerMinute => true
  | .tripLineActive _ _ => true
  | .tripLineInactive _ _ => true
  | .channelPeriodStart ch => ch.hasPeriod
  | .pullInEnd _ => true
  | .coilCheckHold _ current => coilCurrentOk current
  | .coilCheckIdle _ current => coilCurrentOk current
  | .fanLoopStep => true
  | .pumpDtStepTimerExpiry => true
  | .decayTimerExpiry => true
  | .operatingMinute => true
  | .pollTick => true
  | .pollStart => true
  | .pollSkip => true
  | .onTimeRunComplete => true
  | .answerWindowClose => true
  | .receiveByte _ => true
  | .codeViolation => true
  | .inboundFrameEnd => true
  | .slotSilent _ => true
  | .slotLost _ => true
  | .loopShort _ _ => true
  | .loopOffTimerExpiry => true
  | .cleanTimerExpiry => true
  | .controlRequestFrame _ => true
  | .collectFrame clocked => 1 ≤ clocked
  | .controlBadFrame bytes => isBadFrame bytes
  | .serviceRequestFrame bytes _ => isServiceFrame bytes
  | .serviceFrameGap => true
  | .serviceReplySent => true
  | .controlReplyHoldExpiry => true
  | .frameProcessingEnd _ => true
  | .readCommand _ _ _ _ count => wordsOk count
  | .genericWrite _ _ _ _ data => wordsOk data.length
  | .demandWrite _ _ _ data => wordsOk data.length
  | .settingsWrite _ _ _ data => wordsOk data.length
  | .combustionWrite _ _ _ data => wordsOk data.length
  | .restoreFactoryTable _ => true
  | .resetRequestWord _ _ => true
  | .historyClearWord _ _ => true
  | .noticePop => true
  | .heartbeatWord _ => true
  | .boardExpiredFlagRead => true
  | .boardExpiredFlagWrite _ => true
  | .unlockWord _ => true
  | .softResetWord _ _ => true
  | .counterClear _ _ _ => true
  | .trimOffsetWrite _ _ => true
  | .outputTestRequest _ _ _ => true
  | .heartbeatTimerExpiry => true
  | .brstPulseEnd => true
  | .storeWriteEnd _ => true
  | .outputTestTimerExpiry => true
  | .supplyFailure => true
  | .pollSendEnd => true
  | .preambleRecognised => true
  | .inboundCurrentStep => true

/-- How many words a command of a port frame carries or asks for; none for a command that is no port command. -/
def Instr.portWords : Instr → Option Nat
  | .powerOnReset => none
  | .pinReset => none
  | .startupReadsComplete => none
  | .softResetEffect => none
  | .ntcConversionCycle _ _ => none
  | .channelOpenOrShort _ _ => none
  | .flowPairCountExpiry => none
  | .noCirculationCountExpiry => none
  | .b09TimerExpiry => none
  | .pressureReading _ => none
  | .ionisationSample _ => none
  | .flameProved => none
  | .flameLost => none
  | .weakFlameBlockEnd => none
  | .pulseGateEnd _ _ => none
  | .a08GoodGateCount => none
  | .tapStart => none
  | .tapStop => none
  | .antiCycleTimerExpiry => none
  | .serviceEntryExpiry => none
  | .keepwarmSpacingTimerExpiry => none
  | .keepwarmBurnTimeLimit => none
  | .pumpOverrunTimerExpiry => none
  | .diverterMoveEnd => none
  | .chComputation => none
  | .preCheckTimerExpiry => none
  | .prePurgeTimeReached => none
  | .fanProvingTimeout => none
  | .ignitionSpeedRunReached => none
  | .safetyTimeExpiry => none
  | .stabilisationTimeExpiry => none
  | .interPurgeTimeReached => none
  | .outOfBandRunTimeout => none
  | .postPurgeTimeExpiry => none
  | .strayFlameTimeLimit => none
  | .b06TimerExpiry => none
  | .lockoutPurgeEnd => none
  | .lockoutPurgeRemainderEnd => none
  | .tripReport => none
  | .refusedOpen => none
  | .burnerMinute => none
  | .tripLineActive _ _ => none
  | .tripLineInactive _ _ => none
  | .channelPeriodStart _ => none
  | .pullInEnd _ => none
  | .coilCheckHold _ _ => none
  | .coilCheckIdle _ _ => none
  | .fanLoopStep => none
  | .pumpDtStepTimerExpiry => none
  | .decayTimerExpiry => none
  | .operatingMinute => none
  | .pollTick => none
  | .pollStart => none
  | .pollSkip => none
  | .onTimeRunComplete => none
  | .answerWindowClose => none
  | .receiveByte _ => none
  | .codeViolation => none
  | .inboundFrameEnd => none
  | .slotSilent _ => none
  | .slotLost _ => none
  | .loopShort _ _ => none
  | .loopOffTimerExpiry => none
  | .cleanTimerExpiry => none
  | .controlRequestFrame _ => none
  | .collectFrame _ => none
  | .controlBadFrame _ => none
  | .serviceRequestFrame _ _ => none
  | .serviceFrameGap => none
  | .serviceReplySent => none
  | .controlReplyHoldExpiry => none
  | .frameProcessingEnd _ => none
  | .readCommand _ _ _ _ count => some count
  | .genericWrite _ _ _ _ data => some data.length
  | .demandWrite _ _ _ data => some data.length
  | .settingsWrite _ _ _ data => some data.length
  | .combustionWrite _ _ _ data => some data.length
  | .restoreFactoryTable _ => some 1
  | .resetRequestWord _ _ => some 1
  | .historyClearWord _ _ => some 1
  | .noticePop => some 1
  | .heartbeatWord _ => some 1
  | .boardExpiredFlagRead => some 1
  | .boardExpiredFlagWrite _ => some 1
  | .unlockWord _ => some 1
  | .softResetWord _ _ => some 1
  | .counterClear _ _ _ => some 1
  | .trimOffsetWrite _ _ => some 1
  | .outputTestRequest _ _ _ => some 3
  | .heartbeatTimerExpiry => none
  | .brstPulseEnd => none
  | .storeWriteEnd _ => none
  | .outputTestTimerExpiry => none
  | .supplyFailure => none
  | .pollSendEnd => none
  | .preambleRecognised => none
  | .inboundCurrentStep => none

end Sys2Proof
end

