-- ==== Sys2Proof/Laws/PerInstr.lean ====
section
/-! SUPPORT. The statements made of every command as syntax, one lemma per constructor of `Instr`: a well-formed port command
carries 1 to 63 words (08 §8.3). -/

open Sys2Proof

/-- A well-formed port command carries or asks for 1 to 63 words. -/
def Sys2Proof.Laws.WordCount.Statement (i : Instr) : Prop :=
  i.wellFormed = true → ∀ n, i.portWords = some n → 1 ≤ n ∧ n ≤ 63

namespace Sys2Proof.Laws

theorem words_of {m n : Nat} (h : wordsOk m = true) (hn : some m = some n) : 1 ≤ n ∧ n ≤ 63 := by
  cases hn
  simpa [wordsOk] using h

theorem fixed_words {m n : Nat} (hn : some m = some n) (h : 1 ≤ m ∧ m ≤ 63) : 1 ≤ n ∧ n ≤ 63 := by
  cases hn
  exact h

end Sys2Proof.Laws

theorem Sys2Proof.Laws.WordCount.powerOnReset : Sys2Proof.Laws.WordCount.Statement (.powerOnReset) :=
  fun _ _ hn => nomatch hn

theorem Sys2Proof.Laws.WordCount.pinReset : Sys2Proof.Laws.WordCount.Statement (.pinReset) :=
  fun _ _ hn => nomatch hn

theorem Sys2Proof.Laws.WordCount.startupReadsComplete : Sys2Proof.Laws.WordCount.Statement (.startupReadsComplete) :=
  fun _ _ hn => nomatch hn

theorem Sys2Proof.Laws.WordCount.softResetEffect : Sys2Proof.Laws.WordCount.Statement (.softResetEffect) :=
  fun _ _ hn => nomatch hn

theorem Sys2Proof.Laws.WordCount.ntcConversionCycle (readings : NtcSet Int) (polOut : Nat) : Sys2Proof.Laws.WordCount.Statement (.ntcConversionCycle readings polOut) :=
  fun _ _ hn => nomatch hn

theorem Sys2Proof.Laws.WordCount.channelOpenOrShort (ch : NtcChannel) (kind : BadKind) : Sys2Proof.Laws.WordCount.Statement (.channelOpenOrShort ch kind) :=
  fun _ _ hn => nomatch hn

theorem Sys2Proof.Laws.WordCount.flowPairCountExpiry : Sys2Proof.Laws.WordCount.Statement (.flowPairCountExpiry) :=
  fun _ _ hn => nomatch hn

theorem Sys2Proof.Laws.WordCount.noCirculationCountExpiry : Sys2Proof.Laws.WordCount.Statement (.noCirculationCountExpiry) :=
  fun _ _ hn => nomatch hn

theorem Sys2Proof.Laws.WordCount.b09TimerExpiry : Sys2Proof.Laws.WordCount.Statement (.b09TimerExpiry) :=
  fun _ _ hn => nomatch hn

theorem Sys2Proof.Laws.WordCount.pressureReading (mv : Nat) : Sys2Proof.Laws.WordCount.Statement (.pressureReading mv) :=
  fun _ _ hn => nomatch hn

theorem Sys2Proof.Laws.WordCount.ionisationSample (current : Nat) : Sys2Proof.Laws.WordCount.Statement (.ionisationSample current) :=
  fun _ _ hn => nomatch hn

theorem Sys2Proof.Laws.WordCount.flameProved : Sys2Proof.Laws.WordCount.Statement (.flameProved) :=
  fun _ _ hn => nomatch hn

theorem Sys2Proof.Laws.WordCount.flameLost : Sys2Proof.Laws.WordCount.Statement (.flameLost) :=
  fun _ _ hn => nomatch hn

theorem Sys2Proof.Laws.WordCount.weakFlameBlockEnd : Sys2Proof.Laws.WordCount.Statement (.weakFlameBlockEnd) :=
  fun _ _ hn => nomatch hn

theorem Sys2Proof.Laws.WordCount.pulseGateEnd (turbine : List Bool) (tacho : List Bool) : Sys2Proof.Laws.WordCount.Statement (.pulseGateEnd turbine tacho) :=
  fun _ _ hn => nomatch hn

theorem Sys2Proof.Laws.WordCount.a08GoodGateCount : Sys2Proof.Laws.WordCount.Statement (.a08GoodGateCount) :=
  fun _ _ hn => nomatch hn

theorem Sys2Proof.Laws.WordCount.tapStart : Sys2Proof.Laws.WordCount.Statement (.tapStart) :=
  fun _ _ hn => nomatch hn

theorem Sys2Proof.Laws.WordCount.tapStop : Sys2Proof.Laws.WordCount.Statement (.tapStop) :=
  fun _ _ hn => nomatch hn

theorem Sys2Proof.Laws.WordCount.antiCycleTimerExpiry : Sys2Proof.Laws.WordCount.Statement (.antiCycleTimerExpiry) :=
  fun _ _ hn => nomatch hn

theorem Sys2Proof.Laws.WordCount.serviceEntryExpiry : Sys2Proof.Laws.WordCount.Statement (.serviceEntryExpiry) :=
  fun _ _ hn => nomatch hn

theorem Sys2Proof.Laws.WordCount.keepwarmSpacingTimerExpiry : Sys2Proof.Laws.WordCount.Statement (.keepwarmSpacingTimerExpiry) :=
  fun _ _ hn => nomatch hn

theorem Sys2Proof.Laws.WordCount.keepwarmBurnTimeLimit : Sys2Proof.Laws.WordCount.Statement (.keepwarmBurnTimeLimit) :=
  fun _ _ hn => nomatch hn

theorem Sys2Proof.Laws.WordCount.pumpOverrunTimerExpiry : Sys2Proof.Laws.WordCount.Statement (.pumpOverrunTimerExpiry) :=
  fun _ _ hn => nomatch hn

theorem Sys2Proof.Laws.WordCount.diverterMoveEnd : Sys2Proof.Laws.WordCount.Statement (.diverterMoveEnd) :=
  fun _ _ hn => nomatch hn

theorem Sys2Proof.Laws.WordCount.chComputation : Sys2Proof.Laws.WordCount.Statement (.chComputation) :=
  fun _ _ hn => nomatch hn

theorem Sys2Proof.Laws.WordCount.preCheckTimerExpiry : Sys2Proof.Laws.WordCount.Statement (.preCheckTimerExpiry) :=
  fun _ _ hn => nomatch hn

theorem Sys2Proof.Laws.WordCount.prePurgeTimeReached : Sys2Proof.Laws.WordCount.Statement (.prePurgeTimeReached) :=
  fun _ _ hn => nomatch hn

theorem Sys2Proof.Laws.WordCount.fanProvingTimeout : Sys2Proof.Laws.WordCount.Statement (.fanProvingTimeout) :=
  fun _ _ hn => nomatch hn

theorem Sys2Proof.Laws.WordCount.ignitionSpeedRunReached : Sys2Proof.Laws.WordCount.Statement (.ignitionSpeedRunReached) :=
  fun _ _ hn => nomatch hn

theorem Sys2Proof.Laws.WordCount.safetyTimeExpiry : Sys2Proof.Laws.WordCount.Statement (.safetyTimeExpiry) :=
  fun _ _ hn => nomatch hn

theorem Sys2Proof.Laws.WordCount.stabilisationTimeExpiry : Sys2Proof.Laws.WordCount.Statement (.stabilisationTimeExpiry) :=
  fun _ _ hn => nomatch hn

theorem Sys2Proof.Laws.WordCount.interPurgeTimeReached : Sys2Proof.Laws.WordCount.Statement (.interPurgeTimeReached) :=
  fun _ _ hn => nomatch hn

theorem Sys2Proof.Laws.WordCount.outOfBandRunTimeout : Sys2Proof.Laws.WordCount.Statement (.outOfBandRunTimeout) :=
  fun _ _ hn => nomatch hn

theorem Sys2Proof.Laws.WordCount.postPurgeTimeExpiry : Sys2Proof.Laws.WordCount.Statement (.postPurgeTimeExpiry) :=
  fun _ _ hn => nomatch hn

theorem Sys2Proof.Laws.WordCount.strayFlameTimeLimit : Sys2Proof.Laws.WordCount.Statement (.strayFlameTimeLimit) :=
  fun _ _ hn => nomatch hn

theorem Sys2Proof.Laws.WordCount.b06TimerExpiry : Sys2Proof.Laws.WordCount.Statement (.b06TimerExpiry) :=
  fun _ _ hn => nomatch hn

theorem Sys2Proof.Laws.WordCount.lockoutPurgeEnd : Sys2Proof.Laws.WordCount.Statement (.lockoutPurgeEnd) :=
  fun _ _ hn => nomatch hn

theorem Sys2Proof.Laws.WordCount.lockoutPurgeRemainderEnd : Sys2Proof.Laws.WordCount.Statement (.lockoutPurgeRemainderEnd) :=
  fun _ _ hn => nomatch hn

theorem Sys2Proof.Laws.WordCount.tripReport : Sys2Proof.Laws.WordCount.Statement (.tripReport) :=
  fun _ _ hn => nomatch hn

theorem Sys2Proof.Laws.WordCount.refusedOpen : Sys2Proof.Laws.WordCount.Statement (.refusedOpen) :=
  fun _ _ hn => nomatch hn

theorem Sys2Proof.Laws.WordCount.burnerMinute : Sys2Proof.Laws.WordCount.Statement (.burnerMinute) :=
  fun _ _ hn => nomatch hn

theorem Sys2Proof.Laws.WordCount.tripLineActive (line : TripLine) (lowFor : Nat) : Sys2Proof.Laws.WordCount.Statement (.tripLineActive line lowFor) :=
  fun _ _ hn => nomatch hn

theorem Sys2Proof.Laws.WordCount.tripLineInactive (line : TripLine) (highFor : Nat) : Sys2Proof.Laws.WordCount.Statement (.tripLineInactive line highFor) :=
  fun _ _ hn => nomatch hn

theorem Sys2Proof.Laws.WordCount.channelPeriodStart (ch : Channel) : Sys2Proof.Laws.WordCount.Statement (.channelPeriodStart ch) :=
  fun _ _ hn => nomatch hn

theorem Sys2Proof.Laws.WordCount.pullInEnd (valve : GasValve) : Sys2Proof.Laws.WordCount.Statement (.pullInEnd valve) :=
  fun _ _ hn => nomatch hn

theorem Sys2Proof.Laws.WordCount.coilCheckHold (valve : GasValve) (current : Nat) : Sys2Proof.Laws.WordCount.Statement (.coilCheckHold valve current) :=
  fun _ _ hn => nomatch hn

theorem Sys2Proof.Laws.WordCount.coilCheckIdle (valve : GasValve) (current : Nat) : Sys2Proof.Laws.WordCount.Statement (.coilCheckIdle valve current) :=
  fun _ _ hn => nomatch hn

theorem Sys2Proof.Laws.WordCount.fanLoopStep : Sys2Proof.Laws.WordCount.Statement (.fanLoopStep) :=
  fun _ _ hn => nomatch hn

theorem Sys2Proof.Laws.WordCount.pumpDtStepTimerExpiry : Sys2Proof.Laws.WordCount.Statement (.pumpDtStepTimerExpiry) :=
  fun _ _ hn => nomatch hn

theorem Sys2Proof.Laws.WordCount.decayTimerExpiry : Sys2Proof.Laws.WordCount.Statement (.decayTimerExpiry) :=
  fun _ _ hn => nomatch hn

theorem Sys2Proof.Laws.WordCount.operatingMinute : Sys2Proof.Laws.WordCount.Statement (.operatingMinute) :=
  fun _ _ hn => nomatch hn

theorem Sys2Proof.Laws.WordCount.pollTick : Sys2Proof.Laws.WordCount.Statement (.pollTick) :=
  fun _ _ hn => nomatch hn

theorem Sys2Proof.Laws.WordCount.pollStart : Sys2Proof.Laws.WordCount.Statement (.pollStart) :=
  fun _ _ hn => nomatch hn

theorem Sys2Proof.Laws.WordCount.pollSkip : Sys2Proof.Laws.WordCount.Statement (.pollSkip) :=
  fun _ _ hn => nomatch hn

theorem Sys2Proof.Laws.WordCount.onTimeRunComplete : Sys2Proof.Laws.WordCount.Statement (.onTimeRunComplete) :=
  fun _ _ hn => nomatch hn

theorem Sys2Proof.Laws.WordCount.answerWindowClose : Sys2Proof.Laws.WordCount.Statement (.answerWindowClose) :=
  fun _ _ hn => nomatch hn

theorem Sys2Proof.Laws.WordCount.receiveByte (b : Byte) : Sys2Proof.Laws.WordCount.Statement (.receiveByte b) :=
  fun _ _ hn => nomatch hn

theorem Sys2Proof.Laws.WordCount.codeViolation : Sys2Proof.Laws.WordCount.Statement (.codeViolation) :=
  fun _ _ hn => nomatch hn

theorem Sys2Proof.Laws.WordCount.inboundFrameEnd : Sys2Proof.Laws.WordCount.Statement (.inboundFrameEnd) :=
  fun _ _ hn => nomatch hn

theorem Sys2Proof.Laws.WordCount.slotSilent (n : RoomSlot) : Sys2Proof.Laws.WordCount.Statement (.slotSilent n) :=
  fun _ _ hn => nomatch hn

theorem Sys2Proof.Laws.WordCount.slotLost (n : RoomSlot) : Sys2Proof.Laws.WordCount.Statement (.slotLost n) :=
  fun _ _ hn => nomatch hn

theorem Sys2Proof.Laws.WordCount.loopShort (current : Nat) (lasted : Nat) : Sys2Proof.Laws.WordCount.Statement (.loopShort current lasted) :=
  fun _ _ hn => nomatch hn

theorem Sys2Proof.Laws.WordCount.loopOffTimerExpiry : Sys2Proof.Laws.WordCount.Statement (.loopOffTimerExpiry) :=
  fun _ _ hn => nomatch hn

theorem Sys2Proof.Laws.WordCount.cleanTimerExpiry : Sys2Proof.Laws.WordCount.Statement (.cleanTimerExpiry) :=
  fun _ _ hn => nomatch hn

theorem Sys2Proof.Laws.WordCount.controlRequestFrame (commands : List Byte) : Sys2Proof.Laws.WordCount.Statement (.controlRequestFrame commands) :=
  fun _ _ hn => nomatch hn

theorem Sys2Proof.Laws.WordCount.collectFrame (clocked : Nat) : Sys2Proof.Laws.WordCount.Statement (.collectFrame clocked) :=
  fun _ _ hn => nomatch hn

theorem Sys2Proof.Laws.WordCount.controlBadFrame (bytes : List Byte) : Sys2Proof.Laws.WordCount.Statement (.controlBadFrame bytes) :=
  fun _ _ hn => nomatch hn

theorem Sys2Proof.Laws.WordCount.serviceRequestFrame (bytes : List Byte) (stopBitError : Bool) : Sys2Proof.Laws.WordCount.Statement (.serviceRequestFrame bytes stopBitError) :=
  fun _ _ hn => nomatch hn

theorem Sys2Proof.Laws.WordCount.serviceFrameGap : Sys2Proof.Laws.WordCount.Statement (.serviceFrameGap) :=
  fun _ _ hn => nomatch hn

theorem Sys2Proof.Laws.WordCount.serviceReplySent : Sys2Proof.Laws.WordCount.Statement (.serviceReplySent) :=
  fun _ _ hn => nomatch hn

theorem Sys2Proof.Laws.WordCount.controlReplyHoldExpiry : Sys2Proof.Laws.WordCount.Statement (.controlReplyHoldExpiry) :=
  fun _ _ hn => nomatch hn

theorem Sys2Proof.Laws.WordCount.frameProcessingEnd (port : Port) : Sys2Proof.Laws.WordCount.Statement (.frameProcessingEnd port) :=
  fun _ _ hn => nomatch hn

theorem Sys2Proof.Laws.WordCount.readCommand (port : Port) (space : BitVec 3) (start : Start) (step : Bool) (count : Nat) : Sys2Proof.Laws.WordCount.Statement (.readCommand port space start step count) :=
  fun h _ hn => Sys2Proof.Laws.words_of h hn

theorem Sys2Proof.Laws.WordCount.genericWrite (port : Port) (space : BitVec 3) (start : Start) (step : Bool) (data : List Word) : Sys2Proof.Laws.WordCount.Statement (.genericWrite port space start step data) :=
  fun h _ hn => Sys2Proof.Laws.words_of h hn

theorem Sys2Proof.Laws.WordCount.demandWrite (port : Port) (start : Start) (step : Bool) (data : List Word) : Sys2Proof.Laws.WordCount.Statement (.demandWrite port start step data) :=
  fun h _ hn => Sys2Proof.Laws.words_of h hn

theorem Sys2Proof.Laws.WordCount.settingsWrite (port : Port) (start : Start) (step : Bool) (data : List Word) : Sys2Proof.Laws.WordCount.Statement (.settingsWrite port start step data) :=
  fun h _ hn => Sys2Proof.Laws.words_of h hn

theorem Sys2Proof.Laws.WordCount.combustionWrite (port : Port) (start : Start) (step : Bool) (data : List Word) : Sys2Proof.Laws.WordCount.Statement (.combustionWrite port start step data) :=
  fun h _ hn => Sys2Proof.Laws.words_of h hn

theorem Sys2Proof.Laws.WordCount.restoreFactoryTable (value : Word) : Sys2Proof.Laws.WordCount.Statement (.restoreFactoryTable value) :=
  fun _ _ hn => Sys2Proof.Laws.fixed_words hn ⟨by decide, by decide⟩

theorem Sys2Proof.Laws.WordCount.resetRequestWord (port : Port) (value : Word) : Sys2Proof.Laws.WordCount.Statement (.resetRequestWord port value) :=
  fun _ _ hn => Sys2Proof.Laws.fixed_words hn ⟨by decide, by decide⟩

theorem Sys2Proof.Laws.WordCount.historyClearWord (port : Port) (value : Word) : Sys2Proof.Laws.WordCount.Statement (.historyClearWord port value) :=
  fun _ _ hn => Sys2Proof.Laws.fixed_words hn ⟨by decide, by decide⟩

theorem Sys2Proof.Laws.WordCount.noticePop : Sys2Proof.Laws.WordCount.Statement (.noticePop) :=
  fun _ _ hn => Sys2Proof.Laws.fixed_words hn ⟨by decide, by decide⟩

theorem Sys2Proof.Laws.WordCount.heartbeatWord (value : Word) : Sys2Proof.Laws.WordCount.Statement (.heartbeatWord value) :=
  fun _ _ hn => Sys2Proof.Laws.fixed_words hn ⟨by decide, by decide⟩

theorem Sys2Proof.Laws.WordCount.boardExpiredFlagRead : Sys2Proof.Laws.WordCount.Statement (.boardExpiredFlagRead) :=
  fun _ _ hn => Sys2Proof.Laws.fixed_words hn ⟨by decide, by decide⟩

theorem Sys2Proof.Laws.WordCount.boardExpiredFlagWrite (value : Word) : Sys2Proof.Laws.WordCount.Statement (.boardExpiredFlagWrite value) :=
  fun _ _ hn => Sys2Proof.Laws.fixed_words hn ⟨by decide, by decide⟩

theorem Sys2Proof.Laws.WordCount.unlockWord (value : Word) : Sys2Proof.Laws.WordCount.Statement (.unlockWord value) :=
  fun _ _ hn => Sys2Proof.Laws.fixed_words hn ⟨by decide, by decide⟩

theorem Sys2Proof.Laws.WordCount.softResetWord (port : Port) (value : Word) : Sys2Proof.Laws.WordCount.Statement (.softResetWord port value) :=
  fun _ _ hn => Sys2Proof.Laws.fixed_words hn ⟨by decide, by decide⟩

theorem Sys2Proof.Laws.WordCount.counterClear (port : Port) (counter : PortCounter) (value : Word) : Sys2Proof.Laws.WordCount.Statement (.counterClear port counter value) :=
  fun _ _ hn => Sys2Proof.Laws.fixed_words hn ⟨by decide, by decide⟩

theorem Sys2Proof.Laws.WordCount.trimOffsetWrite (ch : NtcChannel) (value : Word) : Sys2Proof.Laws.WordCount.Statement (.trimOffsetWrite ch value) :=
  fun _ _ hn => Sys2Proof.Laws.fixed_words hn ⟨by decide, by decide⟩

theorem Sys2Proof.Laws.WordCount.outputTestRequest (channel : Word) (level : Word) (duration : Word) : Sys2Proof.Laws.WordCount.Statement (.outputTestRequest channel level duration) :=
  fun _ _ hn => Sys2Proof.Laws.fixed_words hn ⟨by decide, by decide⟩

theorem Sys2Proof.Laws.WordCount.heartbeatTimerExpiry : Sys2Proof.Laws.WordCount.Statement (.heartbeatTimerExpiry) :=
  fun _ _ hn => nomatch hn

theorem Sys2Proof.Laws.WordCount.brstPulseEnd : Sys2Proof.Laws.WordCount.Statement (.brstPulseEnd) :=
  fun _ _ hn => nomatch hn

theorem Sys2Proof.Laws.WordCount.storeWriteEnd (readsBack : Bool) : Sys2Proof.Laws.WordCount.Statement (.storeWriteEnd readsBack) :=
  fun _ _ hn => nomatch hn

theorem Sys2Proof.Laws.WordCount.outputTestTimerExpiry : Sys2Proof.Laws.WordCount.Statement (.outputTestTimerExpiry) :=
  fun _ _ hn => nomatch hn

theorem Sys2Proof.Laws.WordCount.supplyFailure : Sys2Proof.Laws.WordCount.Statement (.supplyFailure) :=
  fun _ _ hn => nomatch hn

theorem Sys2Proof.Laws.WordCount.pollSendEnd : Sys2Proof.Laws.WordCount.Statement (.pollSendEnd) :=
  fun _ _ hn => nomatch hn

theorem Sys2Proof.Laws.WordCount.preambleRecognised : Sys2Proof.Laws.WordCount.Statement (.preambleRecognised) :=
  fun _ _ hn => nomatch hn

theorem Sys2Proof.Laws.WordCount.inboundCurrentStep : Sys2Proof.Laws.WordCount.Statement (.inboundCurrentStep) :=
  fun _ _ hn => nomatch hn
end

