-- ==== Sys2Proof/Tests/Slice0.lean ====
section
/-! SUPPORT. Small tests: an ill-formed command for each check of WellFormed.lean, the worked examples of spec/ one event at a
time (the section of each stands beside it; every expected value is the spec's), and for every obligation with premises a
state and operands that meet them. -/

open Sys2Proof Sys2Proof.Machine

/-! ### Commands that no pin and no frame can give -/

theorem test_wellFormed_strap : (Instr.ntcConversionCycle ⟨0, 0, 0, 0, 0, 0, 0⟩ 1001).wellFormed = false := by decide
theorem test_wellFormed_gate : (Instr.pulseGateEnd [true] [false]).wellFormed = false := by decide
theorem test_wellFormed_period : (Instr.channelPeriodStart .zone1).wellFormed = false := by decide
theorem test_wellFormed_coil : (Instr.coilCheckHold .gv1 1001).wellFormed = false := by decide
theorem test_wellFormed_coil_idle : (Instr.coilCheckIdle .gv2 1001).wellFormed = false := by decide
theorem test_wellFormed_collect : (Instr.collectFrame 0).wellFormed = false := by decide
theorem test_wellFormed_bad_frame : (Instr.controlBadFrame [2, 0]).wellFormed = false := by decide
theorem test_wellFormed_service_frame : (Instr.serviceRequestFrame [0xC3, 1, 0, 0, 0] false).wellFormed = false := by decide
theorem test_wellFormed_count : (Instr.readCommand .control 0 .pointer true 64).wellFormed = false := by decide
theorem test_wellFormed_no_data : (Instr.genericWrite .service 6 .pointer true []).wellFormed = false := by decide
theorem test_wellFormed_demand : (Instr.demandWrite .control .pointer true []).wellFormed = false := by decide
theorem test_wellFormed_settings : (Instr.settingsWrite .service .pointer true (List.replicate 64 0)).wellFormed = false := by
  decide
theorem test_wellFormed_combustion : (Instr.combustionWrite .service .pointer true []).wellFormed = false := by decide
theorem test_wellFormed_accepts : (Instr.readCommand .control 0 .pointer true 63).wellFormed = true := by decide

/-! ### States to test on -/

namespace Sys2Proof.Machine

/-- The part some time after a power-on, in IDLE with its start-up reads done. -/
def ready : State :=
  { State.reset with
    bsq := { State.reset.bsq with state := .idle, coilZero := ⟨true, true⟩ }
    sto := { State.reset.sto with startup := none }
    dta := { State.reset.dta with divState := .atCh, divLeft := 0, homing := false }
    flt := { State.reset.flt with ringBuilt := true } }

/-- The state that a command leaves. -/
def after (c : Instr) (s : State) : State :=
  match exec c s with
  | .next t => t
  | _ => s

/-- A channel whose window is full of one reading. -/
def full (x : Int) : NtcRecord := ⟨List.replicate 8 x, some x, .ok, 0, .low, 0⟩

/-- ROOM1 asking for heat, 21.0 / 20.4 °C, zone 1 (02 §2.8). -/
def room1 : Entry := ⟨true, none, some ⟨210, 204⟩, none, none, some .zone1, none, false⟩

/-- RUNNING in CH for ROOM1 at −5.0 °C outside, which makes a target of 58.6 °C (03 §3.9). -/
def heating (rate integral flow : Int) : State :=
  { ready with
    bsq := { ready.bsq with state := .running, gasOpen := true, gasOpened := true }
    mfe := { ready.mfe with
      ntc := ⟨full flow, full flow, full (flow - 150), full 400, full 120, full 550, full (-50)⟩
      flameOn := true }
    dta := { ready.dta with
      table := { ready.dta.table with room := { ready.dta.table.room with slot1 := some room1 } }
      plan := { ready.dta.plan with mode := .ch, request := true, target := some 586, sources := [.room .slot1] } }
    fre := { ready.fre with
      served := .ch, lastServed := some .ch, chI := integral, lastRate := rate, chTimer := some 500
      caps := ⟨800, 800, 800, 800⟩ }
    sto := { ready.sto with settings := { ready.sto.settings with outdoorFitted := true } } }

/-- RUNNING in DHW with F 8.00 L/min (03 §3.10). -/
def drawing : State :=
  let s := heating 650 0 700
  { s with
    mfe := { s.mfe with
      ntc := ⟨full 700, full 700, full 520, full 432, full 120, full 620, full (-50)⟩, turbineGates := [15, 15, 15, 15] }
    dta := { s.dta with
      table := { s.dta.table with tap := some (Entry.plain true) }
      divState := .atDhw, plan := { s.dta.plan with mode := .dhw, sources := [.tap], diverter := .dhw, dhwSetpoint := 450 } }
    fre := { s.fre with served := .dhw, lastServed := some .dhw, dhwI := 12, caps := ⟨1000, 1000, 1000, 1000⟩ }
    sto := { s.sto with settings := { s.sto.settings with dhwSetpoint := 450 } } }

/-- The same burn in another state of the sequencer. -/
def State.inState (s : State) (q : SeqState) : State :=
  { s with bsq := { s.bsq with state := q, gasOpen := q.gasOpen, spark := q == .safetyTime } }

/-- A record of b07 that has been cleared. -/
def clearedRecord : HistoryRecord := ⟨.raised, .b07, none, .idle, none, 0, 0, some 0, 1, false, 5⟩

/-- A state with this burner request in its plan. -/
def State.asking (s : State) (b : Bool) : State := { s with dta := { s.dta with plan := { s.dta.plan with request := b } } }

/-- Readings of a quiet boiler. -/
def readings : NtcSet Int := ⟨400, 400, 250, 400, 120, 550, -50⟩

/-- A gate's samples with so many rising edges. -/
def edges (n : Nat) : List Bool := (List.replicate n [false, true]).flatten

end Sys2Proof.Machine

/-! ### The measurement front end -/

/-- 01 §1.7, 200 ms: the third low bad conversion of FLOW-B. -/
theorem test_ntc_third_low_opens :
    let s := { ready with mfe := { ready.mfe with
      ntc := { ready.mfe.ntc with flowA := full 612, flowB := { full 608 with age := 300, badRun := 2 } } } }
    let t := after (.ntcConversionCycle { readings with flowA := 612, flowB := -400 } 0) s
    t.mfe.ntc.flowB = ⟨[], none, .openCircuit, 300, .low, 3⟩ ∧ t.isActive .b03 = true ∧ t.flow = some 612
      ∧ t.dta.plan.scope = .all := by decide +kernel

/-- 03 §3.11: the flue at 91.0 °C lowers the rate to 590 at once. -/
theorem test_ntc_flue_derates :
    let s := heating 600 400 570
    let s := { s with mfe := { s.mfe with ntc := { s.mfe.ntc with flue := full 910 } } }
    let t := after (.ntcConversionCycle ⟨570, 570, 420, 400, 120, 910, -50⟩ 0) s
    t.fre.lastRate = 590 ∧ t.fre.reason = .flue ∧ t.bsq.fanTarget = 4195 := by decide +kernel

/-- 06 §6.10, step 4: the window fills at 0.52 bar. -/
theorem test_pressure_fills :
    let t := after (.pressureReading 1020) { ready with mfe := { ready.mfe with pressWindow := [52, 52, 52] } }
    t.mfe.pressValue = some 52 ∧ t.flt.active = [.b01, .a04] := by decide

/-- 01 §1.8, sample 6: the third sample in the run proves the flame. -/
theorem test_ionisation_proves :
    let t := after (.ionisationSample 15) { ready with mfe := { ready.mfe with provingRun := 2 } }
    t.mfe.flameOn = true ∧ t.mfe.provingRun = 0 := by decide

/-- 01 §1.8, sample 8: 0.7 µA breaks the loss run. -/
theorem test_ionisation_breaks_loss_run :
    let t := after (.ionisationSample 7) { ready with mfe := { ready.mfe with flameOn := true, lossRun := 1 } }
    t.mfe.flameOn = true ∧ t.mfe.lossRun = 0 := by decide

/-- 01 §1.8, gate 2. -/
theorem test_gate_tap_flow :
    let t := after (.pulseGateEnd (edges 19) (edges 4)) { ready with mfe := { ready.mfe with turbineGates := [0, 0, 0, 10] } }
    t.mfe.tapFlow = 386 ∧ t.mfe.fanSpeed = 480 ∧ t.dta.startRun = 1 := by decide +kernel

/-- 03 §3.10: a DHW computation at a gate end, with F 8.00 L/min. -/
theorem test_gate_dhw_computation :
    let t := after (.pulseGateEnd (edges 15) []) drawing
    t.mfe.tapFlow = 800 ∧ t.fre.lastRate = 706 ∧ t.fre.dhwI = 13 ∧ t.fre.reason = .control ∧ t.bsq.fanTarget = 4830 := by decide +kernel

/-! ### The arbiter and the firing rate -/

/-- 02 §2.9, 250 ms, and 03 §3.12: a draw in a CH burn. -/
theorem test_tap_start :
    let t := after .tapStart (heating 470 210 570)
    t.dta.plan.mode = .dhw ∧ t.dta.plan.sources = [.tap] ∧ t.dta.plan.request = true ∧ t.dta.plan.pump = .min
      ∧ t.dta.divState = .movingToDhw ∧ t.dta.divLeft = 8000 ∧ t.fre.served = .dhw ∧ t.fre.lastRate = 100
      ∧ t.fre.reason = .diverter ∧ t.fre.dhwI = 0 ∧ t.fre.chTimer = none := by decide

/-- 02 §2.9 and 03 §3.12, 1,750 ms: the draw ends while the diverter moves. -/
theorem test_tap_stop :
    let s := heating 100 210 570
    let s := { s with
      dta := { s.dta with
        table := { s.dta.table with tap := some (Entry.plain true) }, divState := .movingToDhw, divLeft := 6500
        plan := { s.dta.plan with mode := .dhw, sources := [.tap], diverter := .dhw, pump := .min } }
      fre := { s.fre with served := .dhw, lastServed := some .dhw, chTimer := none, caps := ⟨1000, 1000, 1000, 100⟩ } }
    let t := after .tapStop s
    t.dta.plan.mode = .ch ∧ t.dta.plan.request = true ∧ t.dta.divState = .movingToCh ∧ t.dta.divLeft = 1500
      ∧ t.dta.antiCycle = none ∧ t.fre.chI = 52 ∧ t.fre.chTimer = some 1000 ∧ t.fre.lastRate = 100 := by decide

/-- 03 §3.9, computation 1. -/
theorem test_ch_computation_ramp :
    let t := after .chComputation (heating 420 300 523)
    t.fre.lastRate = 470 ∧ t.fre.chI = 300 ∧ t.fre.reason = .ramp ∧ t.bsq.fanTarget = 3535 := by decide

/-- 03 §3.9, computation 3. -/
theorem test_ch_computation_control :
    let t := after .chComputation (heating 483 303 530)
    t.fre.lastRate = 473 ∧ t.fre.chI = 305 ∧ t.fre.reason = .control ∧ t.bsq.fanTarget = 3551 := by decide

/-- 03 §3.8: To 20.5 °C with a slope of 1.5 gives −7, not −8; ROOM2's 21.0 / 22.3 °C at 0.0 °C gives 47.8 °C. -/
theorem test_weather_targets :
    let s := { ready with
      mfe := { ready.mfe with ntc := { ready.mfe.ntc with outdoor := full 0 } }
      sto := { ready.sto with settings := { ready.sto.settings with outdoorFitted := true } }
      dta := { ready.dta with table := { ready.dta.table with
        board := some (Entry.plain true)
        room := { ready.dta.table.room with slot2 := some { room1 with roomPair := some ⟨210, 223⟩ } } } } }
    let t := after .inboundCurrentStep s
    t.fre.targets.board = some 480 ∧ t.fre.targets.room.slot2 = some 478 ∧ divz (15 * (200 - 205)) 10 = -7 := by decide

/-- 02 §2.8, 25 min: a BOARD write raises the target during anti-cycle. -/
theorem test_board_write_cancels_anti_cycle :
    let s := (heating 0 0 580).inState .postPurge
    let s := { s with
      dta := { s.dta with antiCycle := some 120000, plan := { s.dta.plan with request := false } }
      fre := { s.fre with served := .none, chTimer := none, reason := .none }
      prt := { s.prt with heartbeat := some 5000 } }
    let t := after (.demandWrite .control (.address 2) true [1, 750, 0, 0, 0]) s
    t.dta.plan.sources = [.board, .room .slot1] ∧ t.dta.plan.target = some 750 ∧ t.dta.antiCycle = none
      ∧ t.dta.plan.request = true ∧ t.dta.plan.zone2 = true ∧ t.dta.plan.pump = .dtControl := by decide +kernel

/-! ### The burner sequencer -/

/-- 04 §4.11, 10 s: a fan at 480 rpm. -/
theorem test_pre_check_fan_turns :
    let s := (heating 0 0 400).inState .preCheck
    let s := { s with mfe := { s.mfe with flameOn := false, fanSpeed := 480 } }
    let t := after .preCheckTimerExpiry s
    t.bsq.state = .idle ∧ t.bsq.provingFailures = 1 ∧ t.flt.active = [.b06] ∧ t.dta.plan.request = false := by decide

/-- 04 §4.11, 150 s: the third failure. -/
theorem test_pre_check_third_failure :
    let s := (heating 0 0 400).inState .preCheck
    let s := { s with
      mfe := { s.mfe with flameOn := false, fanSpeed := 480 }
      bsq := { s.bsq with provingFailures := 2, gasOpened := false } }
    let t := after .preCheckTimerExpiry s
    t.bsq.state = .lockout ∧ t.flt.lockout = some ⟨.f10, .preCheck, 0, 0⟩ ∧ t.flt.active = [.f10] ∧ t.bsq.fanTarget = 0
      ∧ t.bsq.purgeLeft = 0 := by decide

/-- 04 §4.9, 13.50 s. -/
theorem test_pre_purge_ends :
    let t := after .prePurgeTimeReached ((heating 0 0 400).inState .prePurge)
    t.bsq.state = .ignitionSpeed ∧ t.bsq.fanTarget = 2875 ∧ t.bsq.gasOpen = false := by decide

/-- 04 §4.9, 17.25 s, and 05 §5.10, 0 ms. -/
theorem test_safety_time_begins :
    let s := (heating 0 0 400).inState .ignitionSpeed
    let t := after .ignitionSpeedRunReached { s with mfe := { s.mfe with flameOn := false } }
    t.bsq.state = .safetyTime ∧ t.bsq.timer = some 3000 ∧ t.ocu.gv1.state = .active ∧ t.ocu.gv1.phase = some .pullIn
      ∧ t.ocu.spark.state = .active ∧ t.bsq.gasOpened = true ∧ t.ocu.coils.gv2.pullIn = some 50 := by decide

/-- 04 §4.10, 20.25 s and 69.25 s. -/
theorem test_safety_time_expires :
    let s := { (heating 0 0 400).inState .safetyTime with sto := ready.sto }
    let t := after .safetyTimeExpiry s
    let u := after .safetyTimeExpiry { s with bsq := { s.bsq with attempts := 2 } }
    (t.bsq.state = .interPurge ∧ t.bsq.attempts = 1 ∧ t.bsq.gasOpen = false ∧ t.bsq.fanTarget = 6000
      ∧ t.dta.overrun = some (.ch, 180000))
    ∧ u.flt.lockout = some ⟨.f01, .safetyTime, 3, 0⟩ ∧ u.bsq.fanTarget = 4000 ∧ u.bsq.purgeLeft = 10000 := by decide

/-- 04 §4.12: flame lost in RUNNING while GV1 is TRIPPED is taken as the trip. -/
theorem test_flame_lost_in_a_trip :
    let s := heating 470 0 570
    let s := { s with ocu := { s.ocu with gv1 := { s.ocu.gv1 with state := .tripped, tripCauses := ⟨false, true, false⟩ } } }
    let t := after .flameLost s
    t.bsq.state = .postPurge ∧ t.bsq.recycleUsed = false ∧ t.bsq.fanTarget = 4000 ∧ t.flt.lockout = none := by decide

/-- 06 §6.8, 0:12: the second loss of flame in a burn. -/
theorem test_flame_lost_again :
    let s := heating 430 0 615
    let s := { s with
      bsq := { s.bsq with recycleUsed := true }, sto := { s.sto with counters := ⟨48210, 0, 0⟩ } }
    let t := after .flameLost s
    t.flt.lockout = some ⟨.f02, .running, 0, 48210⟩ ∧ t.prt.notices = [.raised .f02] ∧ t.flt.alarmActive = true
      ∧ t.flt.ring.head? = some ⟨some ⟨.raised, .f02, none, .running, some 615, 430, 48210, none, 1, false, 1⟩, none⟩ := by
  decide

/-- 04 §4.12: the trip report first, and with LIMIT in the cause set. -/
theorem test_trip_report_in_running :
    let s := heating 470 0 570
    let t := after .tripReport { s with bsq := { s.bsq with tripReports := [⟨false, true, false⟩] } }
    let u := after .tripReport { s with bsq := { s.bsq with tripReports := [⟨true, true, false⟩] } }
    t.bsq.state = .postPurge ∧ t.flt.lockout = none ∧ u.flt.lockout = some ⟨.f04, .running, 0, 0⟩ := by decide

/-! ### The output channel unit -/

/-- 05 §5.9, 10.02 ms: COND goes active while SPARK waits for its re-arm. -/
theorem test_trip_line_in_pre_check :
    let s := (heating 0 0 400).inState .preCheck
    let s := { s with ocu := { s.ocu with
      spark := { s.ocu.spark with state := .tripped, tripCauses := ⟨false, true, false⟩, rearmPending := true } } }
    let t := after (.tripLineActive .cond 20) { s with mfe := { s.mfe with flameOn := false } }
    t.bsq.rearmRefusals = [⟨.spark, ⟨false, true, false⟩, ⟨false, true, false⟩⟩]
      ∧ t.ocu.gv1.state = .tripped ∧ t.ocu.gv1.tripCauses = ⟨false, true, false⟩
      ∧ t.ocu.spark.rearmPending = false ∧ t.flt.active = [.b07] ∧ t.bsq.state = .idle := by decide

/-- 05 §5.9, 0.3 ms: a period start completes a re-arm. -/
theorem test_period_start_rearms :
    let s := (heating 0 0 400).inState .preCheck
    let s := { s with
      mfe := { s.mfe with flameOn := false }
      ocu := { s.ocu with gv1 := { s.ocu.gv1 with state := .tripped, tripCauses := ⟨false, true, false⟩, rearmPending := true } } }
    let t := after (.channelPeriodStart .gv1) s
    t.ocu.gv1.state = .idle ∧ t.ocu.gv1.tripCauses = ⟨false, false, false⟩ ∧ t.bsq.valveRearmed = ⟨true, false⟩ := by decide

/-- 05 §5.10, 260 ms: the third reading of 2 mA in HOLD. -/
theorem test_coil_third_open_reading :
    let s := { (heating 0 0 400).inState .safetyTime with sto := ready.sto }
    let s := { s with ocu := { s.ocu with
      gv2 := { s.ocu.gv2 with state := .active, phase := some .hold, owner := .gas true }
      coils := { s.ocu.coils with gv2 := { s.ocu.coils.gv2 with checks := 2 } } } }
    let t := after (.coilCheckHold .gv2 2) s
    t.flt.lockout = some ⟨.f07, .safetyTime, 0, 0⟩ ∧ t.ocu.gv2.state = .idle ∧ t.ocu.coils.gv2.checks = 0
      ∧ t.ocu.coils.gv2.faultFlag = true ∧ t.bsq.coilReport = some ⟨.gv2, .openCircuit⟩ ∧ t.bsq.purgeLeft = 10000 := by decide

/-- 05 §5.8, 60 ms and 1,760 ms. -/
theorem test_fan_loop_steps :
    let turning (duty speed : Nat) := { (heating 0 0 400).inState .ignitionSpeed with
      mfe := { ready.mfe with fanSpeed := speed }
      ocu := { ready.ocu with fan := { ready.ocu.fan with state := .active, duty := duty, owner := .fanTarget 2875 } } }
    (after .fanLoopStep (turning 780 6000)).ocu.fan.duty = 740 ∧ (after .fanLoopStep (turning 340 3000)).ocu.fan.duty = 333
      ∧ (after .fanLoopStep (turning 326 2880)).ocu.fan.duty = 326 := by decide

/-! ### Faults -/

/-- 06 §6.8, 1:20, and 2:10 of its second table. -/
theorem test_decay :
    let t := after .decayTimerExpiry { ready with flt := { ready.flt with resetCounter := 2, decay := some 0 } }
    let u := after .decayTimerExpiry { ready with flt := { ready.flt with resetCounter := 5, decay := some 0, active := [.a12] } }
    t.flt.resetCounter = 1 ∧ t.flt.decay = some 180000 ∧ u.flt.resetCounter = 4 ∧ u.flt.active = []
      ∧ u.prt.notices = [.cleared .a12] := by decide

/-- 06 §6.8, 1:40: two reset requests. -/
theorem test_reset_requests :
    let s := (ready.inState .lockout)
    let s := { s with flt := { s.flt with
      lockout := some ⟨.f02, .running, 0, 48210⟩, active := [.f02], resetCounter := 1, decay := some 160000 } }
    let t := after (.resetRequestWord .control 0) s
    let u := after (.resetRequestWord .service 0) t
    t.flt.lockout = none ∧ t.flt.resetCounter = 2 ∧ t.flt.decay = some 160000 ∧ t.bsq.state = .idle
      ∧ t.prt.notices = [.reset .accepted .control, .cleared .f02]
      ∧ u.flt.resetCounter = 2 ∧ u.prt.notices.getLast? = some (.reset .notLocked .service) := by decide +kernel

/-- 06 §6.9, seconds 30 and 152: a return after 23 s merges, one after 62 s does not. -/
theorem test_history_merges :
    let r : HistoryRecord := ⟨.raised, .b07, none, .idle, none, 0, 9000, some 9000, 1, false, 5⟩
    let s (second : Nat) := { ready with
      clock := { ready.clock with now := second * 1000 }
      flt := { ready.flt with lastCreation := 5, ring := ready.flt.ring.set 0 ⟨some r, some 7⟩ } }
    ((s 30).enterKey .b07).flt.ring.head? = some ⟨some { r with count := 2, clearedStamp := none }, none⟩
      ∧ ((s 30).enterKey .b07).flt.lastCreation = 5 ∧ ((s 69).enterKey .b07).flt.lastCreation = 6 := by decide

/-- 06 §6.10, steps 1 to 3: a stored F04 and a bad combustion block. -/
theorem test_startup_with_a_bad_table :
    let c : LockoutBlock := ⟨some ⟨.f04, .running, 0, 0⟩, 1, 0⟩
    let s := { State.reset with sto := { State.reset.sto with nv := { State.reset.sto.nv with
      lockout := Stored.seal lockoutBlockWords c
      combustion := { State.reset.sto.nv.combustion with crc := 0 } } } }
    let t := after .startupReadsComplete s
    t.flt.lockout = some ⟨.f09, .startCheck, 0, 0⟩ ∧ t.flt.active = [.f09] ∧ t.flt.resetCounter = 1
      ∧ t.prt.notices = [.raised .f04, .cleared .f04, .raised .f09] ∧ t.bsq.state = .lockout := by decide +kernel

/-! ### The room loop -/

/-- 10 §10.3, 1.0 s: the next enabled slot after 1 is 3. -/
theorem test_poll_tick :
    let on : SlotRecord := { SlotRecord.fresh with enable := true, state := .searching }
    let t := after .pollTick { ready with rlc := { ready.rlc with
      pointer := some .slot1, slots := ⟨on, SlotRecord.fresh, on, SlotRecord.fresh⟩ } }
    t.rlc.pointer = some .slot3 ∧ t.rlc.exchange = .waiting .slot3 0 := by decide

/-- 07 §7.7, 6 s: the third miss. -/
theorem test_third_miss :
    let on : SlotRecord := { SlotRecord.fresh with enable := true, state := .bound, misses := 2 }
    let t := after .answerWindowClose { ready with
      rlc := { ready.rlc with exchange := .window .slot2 0, slots := { ready.rlc.slots with slot2 := on } }
      dta := { ready.dta with table := { ready.dta.table with room := { ready.dta.table.room with slot2 := some room1 } } } }
    t.rlc.slots.slot2.state = .silent ∧ t.dta.table.room.slot2 = some { room1 with held := true }
      ∧ t.prt.notices = [.slot .slot2 .silent] := by decide

/-- 10 §10.3, 3.0 s: a REPORT from slot 3 with heat yes, room 20.0 / 18.5 °C. -/
theorem test_report_binds :
    let on : SlotRecord := { SlotRecord.fresh with enable := true, zone := some .zone2, state := .searching, misses := 1, bad := 1 }
    let s := { ready with
      mfe := { ready.mfe with ntc := { ready.mfe.ntc with flowA := full 400, flowB := full 400 } }
      rlc := { ready.rlc with
        exchange := .window .slot3 100, receiving := some .slot3, slots := { ready.rlc.slots with slot3 := on }
        fifo := [3, 2, 1, 1, 0, 200, 0, 185, 0, 0, 0, 119] } }
    let t := after .inboundFrameEnd s
    t.rlc.slots.slot3.state = .bound ∧ t.rlc.slots.slot3.good = 1 ∧ t.rlc.slots.slot3.misses = 0
      ∧ t.dta.plan.target = some 750 ∧ t.dta.plan.request = true ∧ t.dta.plan.zone1 = false ∧ t.dta.plan.zone2 = true
      ∧ t.bsq.state = .preCheck ∧ t.prt.notices = [.slot .slot3 .bound] ∧ t.ocu.pump.duty = 600 := by decide

/-- 07 §7.8, 30.4 s. -/
theorem test_short :
    let t := after (.loopShort 61 5) ready
    t.rlc.offTimer = some 10000 ∧ t.rlc.shorts = 1 ∧ t.flt.active = [.a11] := by decide

/-! ### The ports and the store -/

/-- 08 §8.9: the four commands of the first frame, and its commit byte. -/
theorem test_combustion_frame :
    let frame : Frame := { Frame.fresh with todo := [⟨6, .address 0x30, false, .inr [1]⟩, ⟨3, .address 5, true, .inr [15, 4]⟩,
      ⟨3, .address 15, false, .inr [650]⟩, ⟨3, .address 5, true, .inl 2⟩] }
    let s := { ready with prt := { ready.prt with
      serviceState := .processing, service := { ready.prt.service with frame := frame } } }
    let t := after (.frameProcessingEnd .service) s
    t.prt.txd = serviceReply [0, 0, 8, 0, 2, 0, 15, 0, 4, 3] ∧ t.sto.table.prePurge = 10 ∧ t.prt.staged = none
      ∧ t.prt.service.counters.writeErrors = 1 ∧ t.prt.service.frame.unlock = false := by decide

/-- 08 §8.9, sent again with 550: adopted. -/
theorem test_combustion_frame_adopted :
    let frame : Frame := { Frame.fresh with todo := [⟨6, .address 0x30, false, .inr [1]⟩, ⟨3, .address 5, true, .inr [15, 4]⟩,
      ⟨3, .address 15, false, .inr [550]⟩] }
    let s := { ready with prt := { ready.prt with
      serviceState := .processing, service := { ready.prt.service with frame := frame } } }
    let t := after (.frameProcessingEnd .service) s
    t.prt.txd = serviceReply [0, 0, 0, 1] ∧ t.sto.table.prePurge = 15 ∧ t.sto.table.safetyTime = 4
      ∧ t.sto.table.speedFor t.sto.table.ignitionRate = 3975 := by decide

/-- 08 §8.10, 0.5 ms and 1.0 ms. -/
theorem test_control_overrun :
    let s := { ready with prt := { ready.prt with replyState := .processing } }
    let t := after (.controlRequestFrame [0x20, 0x00]) s
    let u := after (.collectFrame 4) t
    t.prt.overrunFlag = true ∧ t.prt.control.counters = ⟨1, 0, 0, 0, 0, 1⟩ ∧ u.prt.overrunFlag = false
      ∧ u.prt.sdo = [0, 3, 0, 0] ∧ u.prt.replyState = .processing := by decide

/-- 10 §10.8, 45.000 s. -/
theorem test_heartbeat_expires :
    let s := { ready with
      prt := { ready.prt with heartbeat := some 0 }
      sto := { ready.sto with settings := { ready.sto.settings with boardResetPulse := true } }
      dta := { ready.dta with table := { ready.dta.table with board := some (Entry.plain true) } } }
    let t := after .heartbeatTimerExpiry s
    t.dta.table.board = none ∧ t.prt.expiredFlag = true ∧ t.prt.brst = some 10 ∧ t.flt.active = [.a07]
      ∧ t.prt.heartbeat = none := by decide

/-- 09 §9.8, 12 ms: the counters write ends and the lockout block is written next. -/
theorem test_store_priorities :
    let s := { ready with sto := { ready.sto with
      inFlight := some ⟨.counters ⟨60, 0, 0⟩, 0⟩, dirty := [.slot 1, .lockout, .slot 0] } }
    let t := after (.storeWriteEnd true) s
    t.sto.inFlight = some ⟨.lockout ⟨none, 0, 0⟩, 12⟩ ∧ t.sto.dirty = [.slot 1, .slot 0]
      ∧ t.sto.nv.counters.contents.minutes = 60 := by decide

/-- R174: the CRC-16 of the nine bytes "1" to "9" under these parameters is 0x29B1; here of the words 0x3132 and so on, with the
ninth byte left off: 0xA12B. -/
theorem test_crc : crc16 [0x3132, 0x3334, 0x3536, 0x3738] = 0xA12B := by decide +kernel

/-! ### Points of the rules that no worked example shows -/

/-- R13: b02 is raised and three readings wait, the last of them 1,001 ms ago: the fourth does not fill the window. -/
theorem test_pressure_stale_window :
    let s := { ready with
      mfe := { ready.mfe with pressWindow := [90, 90, 90], pressAge := 1001 }, flt := { ready.flt with active := [.b02] } }
    let t := after (.pressureReading 1400) s
    t.mfe.pressWindow = [90] ∧ t.mfe.pressValue = none ∧ t.flt.active = [.b02] := by decide

/-- R121: one reading clears b02 and raises b01: between the two the burner was allowed, and a burn has begun and ended. -/
theorem test_changes_are_handed_on_in_turn :
    let s := { (heating 0 0 400).asking false with bsq := { ready.bsq with attempts := 2 } }
    let s := { s with
      fre := ready.fre
      mfe := { s.mfe with pressWindow := [50, 50, 50], flameOn := false }, flt := { s.flt with active := [.b02] } }
    let t := after (.pressureReading 1000) s
    t.flt.active = [.b01, .a04] ∧ t.bsq.state = .idle ∧ t.bsq.attempts = 0 := by decide +kernel

/-- R108: a burn asked for while COND is active: each refusal carries the channel's causes and the lines. -/
theorem test_rearm_refused :
    let s := (after (.tripLineActive .cond 20) ready).asking true
    s.judgeRequest.bsq.rearmRefusals
      = [⟨.spark, ⟨false, true, false⟩, ⟨false, true, false⟩⟩, ⟨.gv1, ⟨false, true, false⟩, ⟨false, true, false⟩⟩,
         ⟨.gv2, ⟨false, true, false⟩, ⟨false, true, false⟩⟩] ∧ s.judgeRequest.bsq.state = .idle := by decide

/-- R136, R177: the F08 lockout marks the counters block as every lockout does. -/
theorem test_F08_marks_the_counters :
    StoreItem.counters ∈ State.reset.makeF08.sto.dirty ∧ State.reset.makeF08.flt.active = [.f08] := by decide

/-- R140: F05 in START-CHECK locks out, and the room loop controller holds no and none until the start-up reads are done. -/
theorem test_loop_waits_for_the_startup_reads :
    let t := after .flowPairCountExpiry State.reset
    t.flt.lockout.map Lockout.cause = some .f05 ∧ t.rlc.lockoutPresent = false ∧ t.rlc.displayed = none := by decide

/-- R148: after a code violation the next preamble in the same window starts nothing before four bit times of idle line. -/
theorem test_broken_frame_blocks_the_preamble :
    let s := after .codeViolation { ready with rlc := { ready.rlc with exchange := .window .slot3 100, receiving := some .slot3 } }
    let t := after .inboundFrameEnd s
    (after .preambleRecognised s).rlc.receiving = none ∧ (after .preambleRecognised t).rlc.receiving = some .slot3 := by decide

/-- R146, R155: 20 ms after the power returns the line becomes idle, and the 20 ms of idle line begin. -/
theorem test_line_waits_after_the_power :
    let s := (after .loopOffTimerExpiry { ready with rlc := { ready.rlc with offTimer := some 0 } }).rlc
    let t := Nat.repeat Rlc.tick 20 s
    t.lineIdle = true ∧ t.idle ≤ 1 ∧ (Nat.repeat Rlc.tick 19 s).lineIdle = false := by decide

/-- R159: an incomplete frame and the gap that ends it are one bad frame; the next gap is none. -/
theorem test_incomplete_service_frame_counts_once :
    let t := after (.serviceRequestFrame [0xC3, 2, 0] false) ready
    let u := after .serviceFrameGap t
    t.prt.service.counters.badFrames = 0 ∧ u.prt.service.counters.badFrames = 1
      ∧ (after .serviceFrameGap u).prt.service.counters.badFrames = 1 := by decide

/-- R162: each word is handled on its own: a refused one counts before the next clears the counter. -/
theorem test_write_counts_word_by_word :
    let t := after (.genericWrite .service 6 (.address 4) false [7, 0]) ready
    let u := after (.genericWrite .service 6 (.address 4) false [0, 7]) ready
    t.prt.service.counters.writeErrors = 0 ∧ u.prt.service.counters.writeErrors = 1 := by decide +kernel

/-- R167: a locked write that ends as RANGE has not returned NO-UNLOCK. -/
theorem test_range_is_no_NO_UNLOCK :
    let t := after (.combustionWrite .service (.address 0x2F) true [0, 0, 0, 0]) ready
    let u := after (.combustionWrite .service (.address 0) true [0]) ready
    t.prt.service.frame.noUnlock = false ∧ u.prt.service.frame.noUnlock = true := by decide +kernel

/-- R174: a record without a source where its kind has one, and one with a source where its kind has none, are out of range. -/
theorem test_record_source_fits_its_kind :
    ({ clearedRecord with source := some .control }).inRange = false ∧ clearedRecord.inRange = true
      ∧ ({ clearedRecord with kind := .reset, key := .f02, source := none }).inRange = false := by decide

/-- R178: an item that becomes dirty after the acceptance is not written before the reset. -/
theorem test_soft_reset_does_not_wait_for_a_later_item :
    let s := { ready with
      prt := { ready.prt with softReset := some ⟨.control, .delivered, [.settings]⟩ }
      sto := { ready.sto with inFlight := some ⟨.settings ready.sto.settings, 0⟩, dirty := [.counters] } }
    let t := after (.storeWriteEnd true) s
    t.softResetReady = true ∧ t.sto.inFlight = none ∧ t.sto.dirty = [.counters] := by decide

/-- R9, R12: a FLOW or FLUE channel that opens makes its value absent, which reports no locking condition. -/
theorem test_open_channel_reports_no_condition :
    let s := { ready with
      mfe := { ready.mfe with ntc := ⟨full 700, full 500, full 250, full 400, full 120, full 1150, full (-50)⟩ }
      flt := { ready.flt with conditions := ⟨false, true, true, false, false⟩ } }
    let t := after (.channelOpenOrShort .flowB .low) s
    let u := after (.channelOpenOrShort .flue .high) s
    (t.flt.conditions.flowPair = false ∧ t.flt.conditions.flue = true)
      ∧ u.flt.conditions.flowPair = true ∧ u.flt.conditions.flue = false := by decide +kernel

/-- R177, R184: a burner minute counted while the counters block is being written marks the block again; the write goes on. -/
theorem test_burner_minute_during_its_write :
    let s := heating 470 0 570
    let s := { s with sto := { s.sto with inFlight := some ⟨.counters s.sto.counters, 5⟩ } }
    let t := after .burnerMinute s
    t.sto.counters.burnerMinutes = 1 ∧ t.sto.dirty = [.counters] ∧ t.sto.inFlight = s.sto.inFlight := by decide

/-- R189: the cycle that clears b10 creates KEEPWARM, which ends the test with DEMAND before the flue of the same cycle raises
F06. -/
theorem test_keepwarm_ends_the_test_before_F06 :
    let s := { ready with
      mfe := { ready.mfe with ntc := ⟨full 850, full 850, full 250, full 350, full 120, full 1150, full (-50)⟩ }
      dta := { ready.dta with spacing := none }
      sto := { ready.sto with settings := { ready.sto.settings with keepwarmEnable := true } }
      flt := { ready.flt with active := [.b10] }
      ocu := { ready.ocu with test := ⟨[(.fan, 300)], some 500, .none⟩ } }
    let t := after (.ntcConversionCycle ⟨850, 850, 250, 350, 120, 1150, -50⟩ 0) s
    t.ocu.test.endCause = .demand ∧ t.flt.lockout.map Lockout.cause = some .f06 := by decide +kernel

/-- R144, R150: a disable and an enable set the last reset flag to no and keep the REPORT as received, its reset request too. -/
theorem test_last_report_keeps_its_reset_request :
    let r : Report := ⟨true, 200, 185, 0, true⟩
    let on : SlotRecord := { SlotRecord.fresh with enable := true, state := .bound, lastReport := some r, lastReset := true }
    let s := { ready with rlc := { ready.rlc with slots := { ready.rlc.slots with slot2 := on } } }
    let t := (s.takeSlotSetting .slot2 ⟨false, none⟩).takeSlotSetting .slot2 ⟨true, none⟩
    t.rlc.slots.slot2 = { on with state := .searching, lastReset := false } := by decide

/-- R4: the age of OUTDOOR grows with time while it is not fitted, and does not make it faulty. -/
theorem test_not_fitted_channel_ages :
    let r := Nat.repeat NtcRecord.tick 1001 (NtcRecord.fresh .notFitted)
    r.age = 1001 ∧ r.faulty = false := by decide +kernel

/-- R173: a later REQUEST replaces the reply of the frame that asked for the soft reset, and the collection of its own reply
does not deliver the other: the hold does. -/
theorem test_replaced_reply_waits_for_the_hold :
    let s := { ready with prt := { ready.prt with
      replyState := .ready, reply := [0, 0], softReset := some ⟨.control, .ready 80, []⟩ } }
    let t := after (.frameProcessingEnd .control) (after (.controlRequestFrame []) s)
    let u := after (.collectFrame 99) t
    let w := after .controlReplyHoldExpiry { u with prt := { u.prt with softReset := some ⟨.control, .replaced 0, []⟩ } }
    u.prt.replyState = .collected ∧ u.prt.softReset = some ⟨.control, .replaced 80, []⟩
      ∧ w.prt.softReset = some ⟨.control, .delivered, []⟩ := by decide +kernel

/-! ### States that meet the premises of the obligations -/

namespace Sys2Proof.Machine

/-- A burn in CH (02 §2.9). -/
def burning : State := heating 470 210 570

/-- A state without a flame, with this fan speed, count of fan-proving failures and coil answers. -/
def cold (s : State) (fan failures : Nat) (zero : ValveSet Bool) : State :=
  { s with
    mfe := { s.mfe with flameOn := false, fanSpeed := fan }
    bsq := { s.bsq with provingFailures := failures, coilZero := zero } }

/-- A state with the three LATCHED channels TRIPPED by LIMIT. -/
def tripped (s : State) : State :=
  { s with ocu := { s.ocu with
    spark := { s.ocu.spark with state := .tripped, tripCauses := ⟨true, false, false⟩ }
    gv1 := { s.ocu.gv1 with state := .tripped, tripCauses := ⟨true, false, false⟩ }
    gv2 := { s.ocu.gv2 with state := .tripped, tripCauses := ⟨true, false, false⟩ } } }

/-- A state with GV1 alone TRIPPED. -/
def halfTripped (s : State) : State :=
  { s with ocu := { s.ocu with gv1 := { s.ocu.gv1 with state := .tripped, tripCauses := ⟨true, false, false⟩ } } }

/-- Mode CH with the burner request no and a running anti-cycle timer. -/
def waitingAnti (flow : Int) : State :=
  let s := ((heating 470 210 flow).asking false).formTargets
  { s with dta := { s.dta with antiCycle := some 60000 } }

/-- A state with this outlet value, TAP as the source of mode DHW, and this DHW pause. -/
def tapping (s : State) (outlet : Int) (pause : Bool) : State :=
  { s with
    mfe := { s.mfe with ntc := { s.mfe.ntc with dhwOut := full outlet } }
    dta := { s.dta with
      dhwPause := pause
      table := { s.dta.table with tap := some (Entry.plain true) }
      plan := { s.dta.plan with mode := .dhw, sources := [.tap], dhwSetpoint := 500 } } }

/-- PRE-CHECK with everything met. -/
def preChecked : State :=
  { ready.inState .preCheck with bsq := { (ready.inState .preCheck).bsq with
    sparkRearmed := true, valveRearmed := ⟨true, true⟩, coilZero := ⟨true, true⟩ } }

/-- PRE-CHECK with SPARK waiting for its re-arm. -/
def rearming : State :=
  { ready.inState .preCheck with ocu := { ready.ocu with
    spark := { ready.ocu.spark with state := .tripped, tripCauses := ⟨false, true, false⟩, rearmPending := true } } }

/-- GV1 in HOLD with so many wrong checks. -/
def holding (checks : Nat) : State :=
  { ready with ocu := { ready.ocu with
    gv1 := { ready.ocu.gv1 with state := .active, phase := some .hold }
    coils := { ready.ocu.coils with gv1 := { CoilRecord.fresh with checks := checks } } } }

/-- A state in which two checks of GV2 at rest have been wrong. -/
def live (s : State) : State :=
  { s with ocu := { s.ocu with coils := { s.ocu.coils with gv2 := { CoilRecord.fresh with checks := 2 } } } }

/-- A state with this trip report waiting. -/
def reported (s : State) (causes : TripSet) : State := { s with bsq := { s.bsq with tripReports := [causes] } }

/-- A state with a refused open of GV1 waiting. -/
def refused (s : State) (causes : TripSet) : State := { s with bsq := { s.bsq with refusedOpens := [⟨[.gv1], causes⟩] } }

/-- A state with the receiver of the service port in a frame of two command bytes, one of them here. -/
def receiving (s : State) : State := { s with prt := { s.prt with receiver := .inFrame [0xC3, 2, 0] false } }

/-- A REPORT of slot 3 whose reset request field is yes. -/
def resetReport3 : List Byte := [3, 2, 1, 1, 0, 200, 0, 185, 0, 0, 1, 118]

/-- A lockout with F02. -/
def lockedOut : State :=
  { ready.inState .lockout with flt := { ready.flt with lockout := some ⟨.f02, .running, 0, 0⟩, active := [.f02] } }

/-- An accepted soft reset that may take effect. -/
def waitingForReset : State := { ready with prt := { ready.prt with softReset := some ⟨.control, .delivered, []⟩ } }

/-- That record in the ring, cleared in second 7, at this time. -/
def cleared (now : Nat) : State :=
  { ready with
    clock := { ready.clock with now := now }
    flt := { ready.flt with lastCreation := 5, ring := ready.flt.ring.set 0 ⟨some clearedRecord, some 7⟩ } }

/-- An enabled slot that is BOUND. -/
def bound : SlotRecord := { SlotRecord.fresh with enable := true, state := .bound }

/-- The REPORT of 10 §10.3, 3.0 s. -/
def report3 : List Byte := [3, 2, 1, 1, 0, 200, 0, 185, 0, 0, 0, 119]

/-- The window of slot 3 with these bytes received from it. -/
def answering (s : State) (bytes : List Byte) : State :=
  { s with rlc := { s.rlc with exchange := .window .slot3 100, receiving := some .slot3, fifo := bytes } }

/-- A lockout that slot 3 asks to be reset, where remote reset is allowed. -/
def remote : State :=
  let s := answering lockedOut resetReport3
  { s with
    flt := { s.flt with resetCounter := 4 }
    sto := { s.sto with settings := { s.sto.settings with remoteReset := true } } }

/-- Slot 3 SILENT, with its entry held. -/
def occupied : State :=
  { ready with
    rlc := { ready.rlc with slots := { ready.rlc.slots with slot3 := { bound with state := .silent } } }
    dta := { ready.dta with table := { ready.dta.table with
      room := { ready.dta.table.room with slot3 := some { room1 with held := true } } } } }

/-- A burn in CH with the caps of its measurements in force. -/
def capped : State := { burning with fre := { burning.fre with caps := burning.formedCaps } }

/-- A SERVICE entry that has run out. -/
def expiredService : Entry := { Entry.plain true with expiry := some 0 }

/-- A running heartbeat timer that has run out. -/
def pulsing : State := { ready with prt := { ready.prt with heartbeat := some 0 } }

/-- The part after a reset, with a combustion block whose CRC does not match. -/
def badTable : State :=
  { State.reset with sto := { State.reset.sto with nv := { State.reset.sto.nv with
    combustion := { State.reset.sto.nv.combustion with crc := 0 } } } }

/-- A service frame with the unlock flag set. -/
def unlocked : State :=
  { ready with prt := { ready.prt with service := { ready.prt.service with frame := { Frame.fresh with unlock := true } } } }

/-- The end of a service frame with a combustion write, with these flags and this staged copy. -/
def committing (noUnlock valueRefused : Bool) (staged : Option CombustionTable) : State :=
  { ready with prt := { ready.prt with
    serviceState := .processing
    service := { ready.prt.service with frame :=
      { Frame.fresh with combustionWrite := true, noUnlock := noUnlock, valueRefused := valueRefused } }
    staged := staged } }

/-- The part after a reset with this lockout block in the store. -/
def restoring (b : Stored LockoutBlock) : State :=
  { State.reset with sto := { State.reset.sto with nv := { State.reset.sto.nv with lockout := b } } }

/-- The part after a reset with a settings block whose CRC does not match. -/
def badSettings : State :=
  { State.reset with sto := { State.reset.sto with nv := { State.reset.sto.nv with
    settings := { State.reset.sto.nv.settings with crc := 0 } } } }

/-- The part after a reset with F07 pending and LIMIT active. -/
def pendingTwo : State :=
  { State.reset with
    bsq := { State.reset.bsq with pendingCauses := [.f07] }
    ocu := { State.reset.ocu with lines := ⟨true, false, false⟩ } }

/-- An open record of this key, with this number. -/
def openRecord (k : FaultKey) (number : Nat) : HistoryRecord :=
  ⟨.raised, k, none, .idle, none, 0, 0, none, 1, false, number⟩

/-- A state with this one record in its ring. -/
def State.recorded (s : State) (r : HistoryRecord) : State :=
  { s with flt := { s.flt with lastCreation := r.number, ring := s.flt.ring.set 0 ⟨some r, none⟩ } }

/-- A ring full of cleared b07 records, the oldest in slot 0. -/
def fullRing : State :=
  { ready with flt := { ready.flt with
    lastCreation := 32, ring := (List.range 32).map fun i => ⟨some { clearedRecord with number := i + 1 }, some 7⟩ } }

/-- A state whose tap detector holds this request and these runs. -/
def detecting (asks : Bool) (startRun stopRun : Nat) : State :=
  { ready with dta := { ready.dta with
    startRun := startRun, stopRun := stopRun
    table := { ready.dta.table with tap := if asks then some (Entry.plain true) else none } } }

/-- A state whose gas channels stand TRIPPED by COND alone. -/
def tripped2 (s : State) : State :=
  { s with ocu := { s.ocu with
    gv1 := { s.ocu.gv1 with state := .tripped, tripCauses := ⟨false, true, false⟩ }
    gv2 := { s.ocu.gv2 with state := .tripped, tripCauses := ⟨false, true, false⟩ } } }

/-- A state in which the counters block is being written as it stands. -/
def State.writingCounters (s : State) : State := { s with sto := { s.sto with inFlight := some ⟨.counters s.sto.counters, 5⟩ } }

/-- The answer of slot 3, with these bytes, whose window has closed. -/
def closing (bytes : List Byte) : State :=
  let s := answering ready bytes
  { s with rlc := { s.rlc with exchange := .closing .slot3 } }

/-- A READY control reply, and a soft reset that the control port asked for with its reply in this phase. -/
def replying (reply : ReplyPhase) : State :=
  { ready with prt := { ready.prt with replyState := .ready, reply := [0, 0], softReset := some ⟨.control, reply, []⟩ } }

/-- A lockout with F02, open in the history, and an advisory key recorded during it. -/
def recordedLockout : State :=
  { lockedOut.recorded (openRecord .f02 1) with flt := { (lockedOut.recorded (openRecord .f02 1)).flt with
    lastCreation := 2
    ring := ((lockedOut.recorded (openRecord .f02 1)).flt.ring).set 1 ⟨some { openRecord .f04 2 with duringLockout := true }, none⟩ } }

/-- An output test of the diverter and the fan. -/
def testing : State :=
  { ready with ocu := { ready.ocu with
    test := ⟨[(.diverter, 1), (.fan, 300)], some 500, .none⟩
    diverter := { ready.ocu.diverter with testLevel := some 1 }, fan := { ready.ocu.fan with testLevel := some 300 } } }

/-- A frame of the service port whose commands have all been executed, with a staged table. -/
def staging : State :=
  { ready with prt := { ready.prt with
    serviceState := .processing
    service := { ready.prt.service with frame := { Frame.fresh with unlock := true, combustionWrite := true } }
    staged := some CombustionTable.default } }

end Sys2Proof.Machine

theorem witness_EmptyQueueFollowsOwnTime :
    (∃ (s : State), s.pending = [] ∧ s.powered = true ∧ s.nextDue = none) ∧
    (∃ (s : State), s.pending = [] ∧ s.powered = false) ∧
    (∃ (s : State), s.pending = [] ∧ s.powered = true ∧ s.nextDue = some .pollTick) :=
  ⟨⟨ready, by decide +kernel⟩,
   ⟨{ ready with powered := false }, by decide⟩,
   ⟨{ ready with mfe := { ready.mfe with pressAge := 0 }, clock := { ready.clock with pollTickDue := true } }, by decide⟩⟩
theorem witness_ResetLeavesTheSpecValues :
    (∃ (s : State) (c : Instr), (c = .powerOnReset ∨ (c = .pinReset ∧ s.powered = true))) ∧
    (∃ (s : State) (c : Instr), (c = .powerOnReset ∨ (c = .pinReset ∧ s.powered = true))) :=
  ⟨⟨burning, .powerOnReset, by decide⟩,
   ⟨burning, .pinReset, by decide⟩⟩
theorem witness_SoftResetKeepsThreeThings :
    ∃ (s : State) (r : SoftReset), s.powered = true ∧ s.prt.softReset = some r ∧ r.reply = .delivered ∧ s.sto.inFlight = none
      ∧ (∀ i ∈ r.flush, i ∉ s.sto.dirty) :=
  ⟨waitingForReset, ⟨.control, .delivered, []⟩, by decide⟩
theorem witness_SupplyFailureLeavesTheBlockBad :
    (∃ (s : State), s.powered = true ∧ s.sto.inFlight = none) ∧
    (∃ (s : State), s.powered = true ∧ s.sto.inFlight = some ⟨.slot 31 none, 12⟩) :=
  ⟨⟨ready, by decide⟩,
   ⟨{ ready with sto := { ready.sto with inFlight := some ⟨.slot 31 none, 12⟩ } }, by decide⟩⟩
theorem witness_StartupReadsLeadToIdleOrF09 :
    ∃ (s : State), s.powered = true ∧ s.sto.startup.isSome = true ∧ s.bsq.state = .startCheck ∧ s.sto.nv.combustionGood =
      false :=
  ⟨badTable, by decide +kernel⟩
theorem witness_RaisesAreWrittenToTheHistory :
    (∃ (s : State) (k : FaultKey) (i : Nat), s.isActive k = false ∧ s.flt.ringBuilt = true ∧ newestSlot (fun r => r.raises k)
      s.flt.ring = none ∧ emptySlot s.flt.ring 0 = some i ∧ s.flt.lastCreation < 4294967295) ∧
    (∃ (s : State) (k : FaultKey) (i sec : Nat) (r : HistoryRecord), s.isActive k = false ∧ s.flt.ringBuilt = true ∧
      newestSlot (fun r => r.raises k) s.flt.ring = some (i, r) ∧ noteAt s.flt.ring i = some sec ∧ r.duringLockout = false ∧
      r.clearedStamp.isSome = true ∧ s.flt.lastCreation < 4294967295 ∧ s.seconds - sec = 60) ∧
    (∃ (s : State) (k : FaultKey) (i sec : Nat) (r : HistoryRecord), s.isActive k = false ∧ s.flt.ringBuilt = true ∧
      newestSlot (fun r => r.raises k) s.flt.ring = some (i, r) ∧ noteAt s.flt.ring i = some sec ∧ r.duringLockout = false ∧
      r.clearedStamp.isSome = true ∧ s.flt.lastCreation < 4294967295 ∧ s.seconds - sec = 61) ∧
    (∃ (s : State) (k : FaultKey) (l : Lockout), s.flt.lockout = some l ∧ s.isActive k = false ∧ s.flt.ringBuilt = true ∧
      newestSlot (fun r => r.raises k) s.flt.ring = none ∧ s.flt.lastCreation < 4294967295) :=
  ⟨⟨ready, .b07, 0, by decide⟩,
   ⟨cleared 67000, .b07, 0, 7, clearedRecord, by decide⟩,
   ⟨cleared 68000, .b07, 0, 7, clearedRecord, by decide⟩,
   ⟨lockedOut, .f06, ⟨.f02, .running, 0, 0⟩, by decide⟩⟩
theorem witness_ReadingsFillOrFailTheChannel :
    (∃ (s : State) (readings : NtcSet Int) (_polOut : Nat) (ch : NtcChannel), s.powered = true ∧ (ch = .outdoor →
      s.sto.settings.outdoorFitted = true) ∧ -350 ≤ ntcGet readings ch ∧ ntcGet readings ch ≤ 1400 ∧ (ntcGet s.mfe.ntc
      ch).window.length = 8) ∧
    (∃ (s : State) (readings : NtcSet Int) (_polOut : Nat) (ch : NtcChannel), s.powered = true ∧ (ch = .outdoor →
      s.sto.settings.outdoorFitted = true) ∧ -350 ≤ ntcGet readings ch ∧ ntcGet readings ch ≤ 1400 ∧ (ntcGet s.mfe.ntc
      ch).window = []) ∧
    (∃ (s : State) (readings : NtcSet Int) (_polOut : Nat) (ch : NtcChannel) (kind : BadKind), s.powered = true ∧ (ch =
      .outdoor → s.sto.settings.outdoorFitted = true) ∧ (kind = .low ∧ ntcGet readings ch < -350 ∨ kind = .high ∧ 1400 <
      ntcGet readings ch) ∧ (ntcGet s.mfe.ntc ch).badKind = kind ∧ (ntcGet s.mfe.ntc ch).badRun = 2) ∧
    (∃ (s : State) (readings : NtcSet Int) (_polOut : Nat) (ch : NtcChannel) (kind : BadKind), s.powered = true ∧ (ch =
      .outdoor → s.sto.settings.outdoorFitted = true) ∧ (kind = .low ∧ ntcGet readings ch < -350 ∨ kind = .high ∧ 1400 <
      ntcGet readings ch) ∧ (ntcGet s.mfe.ntc ch).badRun = 0) :=
  ⟨⟨{ ready with mfe := { ready.mfe with ntc := { ready.mfe.ntc with flowA := full 100 } } },
    { readings with flowA := -350 },
    0,
    .flowA,
    by decide⟩,
   ⟨ready, { readings with flowA := 1400 }, 0, .flowA, by decide⟩,
   ⟨{ ready with mfe := { ready.mfe with ntc := { ready.mfe.ntc with flowA := { full 100 with badRun := 2 } } } },
    { readings with flowA := -351 },
    0,
    .flowA,
    .low,
    by decide⟩,
   ⟨ready, { readings with flowA := 1401 }, 0, .flowA, .high, by decide⟩⟩
theorem witness_SensorFaultsFollowTheChannels :
    ∃ (s : State) (ch : NtcChannel) (_kind : BadKind), s.powered = true ∧ (ntcGet s.mfe.ntc ch).status ≠ .notFitted :=
  ⟨ready, .flowA, .low, by decide⟩
theorem witness_FlowOverTemperatureHasHysteresis :
    (∃ (s : State) (readings : NtcSet Int) (polOut : Nat), s.powered = true ∧ (after (.ntcConversionCycle readings polOut)
      s).flow = some 950) ∧
    (∃ (s : State) (readings : NtcSet Int) (polOut : Nat), s.powered = true ∧ (after (.ntcConversionCycle readings polOut)
      s).flow = some 850) ∧
    (∃ (s : State) (readings : NtcSet Int) (polOut : Nat), s.powered = true ∧ (after (.ntcConversionCycle readings polOut)
      s).flow = some 851) ∧
    (∃ (s : State) (readings : NtcSet Int) (polOut : Nat), s.powered = true ∧ (after (.ntcConversionCycle readings polOut)
      s).flow = none) ∧
    (∃ (s : State), s.powered = true) ∧
    (∃ (s : State), s.powered = true ∧ s.softResetReady = true) :=
  ⟨⟨{ ready with mfe := { ready.mfe with ntc := { ready.mfe.ntc with flowA := full 950, flowB := full 950 } } },
    { readings with flowA := 950, flowB := 950 },
    0,
    by decide +kernel⟩,
   ⟨{ ready with mfe := { ready.mfe with ntc := { ready.mfe.ntc with flowA := full 850, flowB := full 850 } } },
    { readings with flowA := 850, flowB := 850 },
    0,
    by decide +kernel⟩,
   ⟨{ ready with mfe := { ready.mfe with ntc := { ready.mfe.ntc with flowA := full 851, flowB := full 851 } } },
    { readings with flowA := 851, flowB := 851 },
    0,
    by decide +kernel⟩,
   ⟨ready, readings, 0, by decide +kernel⟩,
   ⟨ready, by decide⟩,
   ⟨waitingForReset, by decide⟩⟩
theorem witness_FrostFollowsTheFlow :
    (∃ (s : State) (readings : NtcSet Int) (polOut : Nat), s.powered = true ∧ (after (.ntcConversionCycle readings polOut)
      s).flow = none) ∧
    (∃ (s : State) (readings : NtcSet Int) (polOut : Nat), s.powered = true ∧ (after (.ntcConversionCycle readings polOut)
      s).flow = some 50) :=
  ⟨⟨ready, readings, 0, by decide +kernel⟩,
   ⟨{ ready with mfe := { ready.mfe with ntc := { ready.mfe.ntc with flowA := full 50, flowB := full 50 } } },
    { readings with flowA := 50, flowB := 50 },
    0,
    by decide +kernel⟩⟩
theorem witness_CountsAndTimersRaiseAndClear :
    (∃ (s : State), s.powered = true ∧ s.mfe.circTimer = none) ∧
    (∃ (s : State), s.powered = true ∧ s.mfe.circTimer.isSome = true) ∧
    (∃ (s : State), s.powered = true ∧ s.isActive .a08 = true) ∧
    (∃ (s : State), s.powered = true ∧ s.bsq.b06Timer.isSome = true) ∧
    (∃ (s : State), s.powered = true ∧ s.isActive .a10 = true) ∧
    (∃ (s : State), s.powered = true ∧ s.rlc.cleanTimer.isSome = true) ∧
    (∃ (s : State), s.powered = true ∧ s.mfe.pairArmed = true ∧ s.locked = false ∧ s.bsq.state ≠ .startCheck ∧ s.bsq.state ≠
      .lockout) :=
  ⟨⟨ready, by decide⟩,
   ⟨{ ready with mfe := { ready.mfe with circTimer := some 0 } }, by decide⟩,
   ⟨{ ready with flt := { ready.flt with active := [.a08] } }, by decide⟩,
   ⟨{ ready with bsq := { ready.bsq with b06Timer := some 0 } }, by decide⟩,
   ⟨{ ready with flt := { ready.flt with active := [.a10] } }, by decide⟩,
   ⟨{ ready with rlc := { ready.rlc with cleanTimer := some 0 } }, by decide⟩,
   ⟨ready, by decide⟩⟩
theorem witness_PressureIsJudgedOnAFullWindow :
    (∃ (s : State) (mv : Nat), s.powered = true ∧ 300 ≤ mv ∧ mv ≤ 4700 ∧ s.mfe.pressAge ≤ 1000 ∧ s.mfe.pressWindow.length = 3) ∧
    (∃ (s : State) (mv : Nat), s.powered = true ∧ 300 ≤ mv ∧ mv ≤ 4700 ∧ s.mfe.pressAge ≤ 1000 ∧ s.mfe.pressWindow.length = 4) ∧
    (∃ (s : State) (mv : Nat), s.powered = true ∧ 300 ≤ mv ∧ mv ≤ 4700 ∧ s.mfe.pressAge ≤ 1000 ∧ s.mfe.pressWindow.length = 2) ∧
    (∃ (s : State) (mv : Nat), s.powered = true ∧ 300 ≤ mv ∧ mv ≤ 4700 ∧ 1000 < s.mfe.pressAge) ∧
    (∃ (s : State) (mv : Nat), s.powered = true ∧ (mv < 300 ∨ 4700 < mv) ∧ 2 ≤ s.mfe.pressBadRun) ∧
    (∃ (s : State) (mv : Nat), s.powered = true ∧ (mv < 300 ∨ 4700 < mv) ∧ 2 ≤ s.mfe.pressBadRun) :=
  ⟨⟨{ ready with mfe := { ready.mfe with pressWindow := [90, 90, 90] } }, 300, by decide⟩,
   ⟨{ ready with mfe := { ready.mfe with pressWindow := [90, 90, 90, 90], pressAge := 1000 } }, 4700, by decide⟩,
   ⟨{ ready with mfe := { ready.mfe with pressWindow := [90, 90] } }, 300, by decide⟩,
   ⟨{ ready with mfe := { ready.mfe with pressWindow := [90, 90, 90], pressAge := 1001 } }, 4700, by decide⟩,
   ⟨{ ready with mfe := { ready.mfe with pressBadRun := 2 } }, 299, by decide⟩,
   ⟨{ ready with mfe := { ready.mfe with pressBadRun := 3 } }, 4701, by decide⟩⟩
theorem witness_FlameIsJudgedBySamplesAndBlocks :
    (∃ (s : State) (current : Nat), s.powered = true ∧ s.mfe.flameOn = false ∧ 2 ≤ s.mfe.provingRun ∧ clampNat 0 500 (divz
      ((current : Int) * s.sto.trim.gain) 1000).toNat = 10) ∧
    (∃ (s : State) (current : Nat), s.powered = true ∧ s.mfe.flameOn = true ∧ 1 ≤ s.mfe.lossRun ∧ clampNat 0 500 (divz
      ((current : Int) * s.sto.trim.gain) 1000).toNat = 5) ∧
    (∃ (s : State) (_current : Nat), s.powered = true ∧ s.mfe.flameOn = false ∧ s.mfe.provingRun = 0) ∧
    (∃ (s : State), s.powered = true ∧ s.bsq.state = .running ∧ 0 < s.mfe.blockCount ∧ s.mfe.blockSum / 1200 = 19) ∧
    (∃ (s : State), s.powered = true ∧ s.bsq.state = .running ∧ 0 < s.mfe.blockCount ∧ s.mfe.blockSum / 1200 = 25) :=
  ⟨⟨{ ready with mfe := { ready.mfe with provingRun := 2 } }, 10, by decide⟩,
   ⟨{ ready with mfe := { ready.mfe with flameOn := true, lossRun := 1 } }, 5, by decide⟩,
   ⟨ready, 9, by decide⟩,
   ⟨{ burning with mfe := { burning.mfe with blockSum := 23999, blockCount := 1200 } }, by decide⟩,
   ⟨{ burning with mfe := { burning.mfe with blockSum := 30000, blockCount := 1200 } }, by decide⟩⟩
theorem witness_GateEndTakesThePulses :
    (∃ (s : State) (_turbine _tacho : List Bool), s.powered = true ∧ s.mfe.turbineCounter + (edges 274).length / 2 = 274) ∧
    (∃ (s : State) (_turbine _tacho : List Bool), s.powered = true) ∧
    (∃ (s : State) (_turbine _tacho : List Bool), s.powered = true) :=
  ⟨⟨{ ready with mfe := { ready.mfe with goodGates := 39 } }, edges 274, edges 274, by decide +kernel⟩,
   ⟨ready, edges 275, edges 274, by decide⟩,
   ⟨ready, edges 0, edges 275, by decide⟩⟩
theorem witness_TapDrawTakesTheBurner :
    (∃ (s : State), s.powered = true ∧ s.sto.settings.dhwEnable = true ∧ s.isActive .b11 = false ∧ s.dta.asks .tap = false ∧
      s.dta.asks .service = false) ∧
    (∃ (s : State), s.powered = true ∧ s.dta.asks .tap = true) :=
  ⟨⟨burning, by decide⟩,
   ⟨{ ready with dta := { ready.dta with table := { ready.dta.table with tap := some (Entry.plain true) } } }, by decide⟩⟩
theorem witness_ArbiterTimersExpire :
    (∃ (s : State), s.powered = true) ∧
    (∃ (s : State), s.powered = true) ∧
    (∃ (s : State), s.powered = true) ∧
    (∃ (s : State), s.powered = true ∧ s.dta.divState = .movingToDhw) ∧
    (∃ (s : State), s.powered = true ∧ s.dta.divState = .movingToCh) ∧
    (∃ (s : State) (e : Entry), s.powered = true ∧ s.dta.table.service = some e ∧ e.expiry.isSome = true) ∧
    (∃ (s : State), s.powered = true ∧ s.dta.table.keepwarm.isSome = true) :=
  ⟨⟨{ ready with dta := { ready.dta with antiCycle := some 0 } }, by decide⟩,
   ⟨{ ready with dta := { ready.dta with spacing := some 0 } }, by decide⟩,
   ⟨{ ready with dta := { ready.dta with overrun := some (.ch, 0) } }, by decide⟩,
   ⟨{ ready with dta := { ready.dta with divState := .movingToDhw } }, by decide⟩,
   ⟨{ ready with dta := { ready.dta with divState := .movingToCh } }, by decide⟩,
   ⟨{ ready with dta := { ready.dta with table := { ready.dta.table with service := some expiredService } } },
    expiredService,
    by decide⟩,
   ⟨{ ready with dta := { ready.dta with table := { ready.dta.table with keepwarm := some (Entry.plain true) } } },
    by decide⟩⟩
theorem witness_ArbiterTimersExpire_request :
    let inCh := fun (s : State) flow target => s.chooseMode = .ch ∧ s.scopeInForce.allows = true ∧ s.flow = some flow
      ∧ s.targetFor .ch = some target
    (∃ (s : State) (flow target : Int), inCh s flow target ∧ s.dta.plan.request = true
      ∧ target + s.sto.settings.offDifferential = flow ∧ s.dta.plan.mode = .ch ∧ 0 < s.sto.settings.antiCycleMin) ∧
    (∃ (s : State) (flow target : Int), inCh s flow target ∧ s.dta.plan.request = true
      ∧ flow + 1 = target + s.sto.settings.offDifferential) ∧
    (∃ (s : State) (flow target : Int), inCh s flow target ∧ s.dta.plan.request = false
      ∧ flow = target - s.sto.settings.onDifferential ∧ s.dta.antiCycle = none) ∧
    (∃ (s : State) (flow target : Int), inCh s flow target ∧ s.dta.plan.request = false
      ∧ flow = target - 150 ∧ s.dta.antiCycle.isSome = true) ∧
    (∃ (s : State) (flow target : Int), inCh s flow target ∧ s.dta.plan.request = false
      ∧ flow = target - s.sto.settings.onDifferential + 1) ∧
    (∃ (s : State) (flow target : Int), inCh s flow target ∧ s.dta.plan.request = false
      ∧ flow = target - 149 ∧ s.dta.antiCycle.isSome = true ∧ s.dta.asks .frost = false) :=
  ⟨⟨(heating 470 210 636).formTargets, 636, 586, by decide +kernel⟩,
   ⟨(heating 470 210 635).formTargets, 635, 586, by decide +kernel⟩,
   ⟨((heating 470 210 556).asking false).formTargets, 556, 586, by decide +kernel⟩,
   ⟨waitingAnti 436, 436, 586, by decide +kernel⟩,
   ⟨((heating 470 210 557).asking false).formTargets, 557, 586, by decide +kernel⟩,
   ⟨waitingAnti 437, 437, 586, by decide +kernel⟩⟩
theorem witness_ArbiterTimersExpire_pause :
    (∃ (s : State) (outlet : Int), s.dta.plan.mode = .dhw ∧ s.dta.plan.sources = [.tap] ∧ s.outlet = some outlet
      ∧ s.dta.dhwPause = true) ∧
    (∃ (s : State) (outlet : Int), s.dta.plan.mode = .dhw ∧ s.dta.plan.sources = [.tap] ∧ s.outlet = some outlet
      ∧ s.dta.dhwPause = false ∧ s.bsq.state = .running ∧ s.dta.plan.dhwSetpoint + 50 = outlet) ∧
    (∃ s : State, s.chooseMode = .dhw) :=
  ⟨⟨tapping burning 500 true, 500, by decide⟩, ⟨tapping burning 550 false, 550, by decide⟩, ⟨tapping burning 500 true, by decide⟩⟩
theorem witness_ChComputationFormsTheRate :
    (∃ (s : State) (target flow : Int), s.powered = true ∧ s.fre.chTimer.isSome = true ∧ s.fre.served = .ch ∧
      s.dta.plan.target = some target ∧ s.flow = some flow ∧ s.bsq.state = .running) ∧
    (∃ (s : State), s.powered = true ∧ s.fre.chTimer.isSome = true ∧ s.fre.served = .service) ∧
    (∃ (s : State) (turbine _tacho : List Bool), s.powered = true ∧ s.bsq.state = .running ∧ s.fre.served = .dhw
      ∧ (after (.pulseGateEnd turbine []) s).bsq.state = .running ∧ (after (.pulseGateEnd turbine []) s).fre.served = .dhw) ∧
    (∃ (s : State), s.outlet = none) ∧
    (∃ (s : State) (outlet : Int), s.outlet = some outlet ∧ s.bsq.state = .running) :=
  ⟨⟨burning, 586, 570, by decide⟩,
   ⟨{ burning with fre := { burning.fre with served := .service } }, by decide⟩,
   ⟨drawing, edges 15, [], by decide +kernel⟩,
   ⟨ready, by decide⟩,
   ⟨drawing, 432, by decide⟩⟩
theorem witness_PreCheckExpiryTakesTheFirstCase :
    (∃ (s : State), s.powered = true ∧ s.bsq.state = .preCheck ∧ s.locked = false ∧ s.mfe.flameOn = true) ∧
    (∃ (s : State), s.powered = true ∧ s.bsq.state = .preCheck ∧ s.locked = false ∧ s.mfe.flameOn = false ∧ s.bsq.coilZero.gv2
      = false) ∧
    (∃ (s : State), s.powered = true ∧ s.bsq.state = .preCheck ∧ s.locked = false ∧ s.mfe.flameOn = false ∧ s.bsq.coilZero =
      ⟨true, true⟩ ∧ 300 ≤ s.mfe.fanSpeed ∧ s.bsq.provingFailures < 2) ∧
    (∃ (s : State), s.powered = true ∧ s.bsq.state = .preCheck ∧ s.locked = false ∧ s.mfe.flameOn = false ∧ s.bsq.coilZero =
      ⟨true, true⟩ ∧ 300 ≤ s.mfe.fanSpeed ∧ 2 ≤ s.bsq.provingFailures) ∧
    (∃ (s : State), s.powered = true ∧ s.bsq.state = .preCheck ∧ s.locked = false ∧ s.mfe.flameOn = false ∧ s.bsq.coilZero =
      ⟨true, true⟩ ∧ s.mfe.fanSpeed < 300) :=
  ⟨⟨burning.inState .preCheck, by decide⟩,
   ⟨cold (burning.inState .preCheck) 299 0 ⟨true, false⟩, by decide⟩,
   ⟨cold (burning.inState .preCheck) 300 1 ⟨true, true⟩, by decide⟩,
   ⟨cold (burning.inState .preCheck) 300 2 ⟨true, true⟩, by decide⟩,
   ⟨cold (burning.inState .preCheck) 299 2 ⟨true, true⟩, by decide⟩⟩
theorem witness_TimedStatesLeadOn :
    (∃ (s : State) (c : Instr), s.powered = true ∧ (c = .prePurgeTimeReached ∧ s.bsq.state = .prePurge ∨ c =
      .interPurgeTimeReached ∧ s.bsq.state = .interPurge)) ∧
    (∃ (s : State) (c : Instr), s.powered = true ∧ (c = .prePurgeTimeReached ∧ s.bsq.state = .prePurge ∨ c =
      .interPurgeTimeReached ∧ s.bsq.state = .interPurge)) ∧
    (∃ (s : State), s.powered = true ∧ s.bsq.state = .stabilise ∧ s.dta.plan.mode ≠ .service) ∧
    (∃ (s : State), s.powered = true ∧ s.bsq.state = .postPurge ∧ s.bsq.purgeLeft = 0) :=
  ⟨⟨burning.inState .prePurge, .prePurgeTimeReached, by decide⟩,
   ⟨burning.inState .interPurge, .interPurgeTimeReached, by decide⟩,
   ⟨burning.inState .stabilise, by decide⟩,
   ⟨burning.inState .postPurge, by decide⟩⟩
theorem witness_TimedStatesLeadOn_begin :
    (∃ s : State, s.bsq.state = .idle ∧ s.dta.plan.request = true ∧ s.ocu.lines = ⟨false, false, false⟩) ∧
    (∃ s : State, s.bsq.state = .idle ∧ s.dta.plan.request = true ∧ s.ocu.lines ≠ ⟨false, false, false⟩) ∧
    (∃ s : State, s.bsq.state = .preCheck ∧ s.bsq.sparkRearmed = true ∧ s.bsq.valveRearmed = ⟨true, true⟩
      ∧ s.mfe.flameOn = false ∧ s.mfe.fanSpeed = 299 ∧ s.bsq.coilZero = ⟨true, true⟩) ∧
    (∃ s : State, s.bsq.state = .preCheck ∧ s.bsq.sparkRearmed = true ∧ s.bsq.valveRearmed = ⟨true, true⟩
      ∧ s.mfe.flameOn = false ∧ s.mfe.fanSpeed = 300 ∧ s.bsq.coilZero = ⟨true, true⟩) :=
  ⟨⟨ready.asking true, by decide⟩,
   ⟨(tripped { ready with ocu := { ready.ocu with lines := ⟨true, false, false⟩ } }).asking true, by decide⟩,
   ⟨cold preChecked 299 0 ⟨true, true⟩, by decide⟩,
   ⟨cold preChecked 300 0 ⟨true, true⟩, by decide⟩⟩
theorem witness_FanProvingFailureCountsToThree :
    (∃ (s : State) (c : Instr) (dest : SeqState), s.powered = true ∧ s.locked = false ∧ (c = .fanProvingTimeout ∧ s.bsq.state
      = .prePurge ∧ dest = .idle ∨ c = .fanProvingTimeout ∧ s.bsq.state = .ignitionSpeed ∧ dest = (if s.bsq.gasOpened then
      .postPurge else .idle) ∨ c = .fanProvingTimeout ∧ s.bsq.state = .interPurge ∧ dest = .postPurge ∨ c =
      .outOfBandRunTimeout ∧ s.bsq.state.gasOpen = true ∧ dest = .postPurge) ∧ s.bsq.provingFailures < 2) ∧
    (∃ (s : State) (c : Instr) (dest : SeqState), s.powered = true ∧ s.locked = false ∧ (c = .fanProvingTimeout ∧ s.bsq.state
      = .prePurge ∧ dest = .idle ∨ c = .fanProvingTimeout ∧ s.bsq.state = .ignitionSpeed ∧ dest = (if s.bsq.gasOpened then
      .postPurge else .idle) ∨ c = .fanProvingTimeout ∧ s.bsq.state = .interPurge ∧ dest = .postPurge ∨ c =
      .outOfBandRunTimeout ∧ s.bsq.state.gasOpen = true ∧ dest = .postPurge)) ∧
    (∃ (s : State) (c : Instr) (dest : SeqState), s.powered = true ∧ s.locked = false ∧ (c = .fanProvingTimeout ∧ s.bsq.state
      = .prePurge ∧ dest = .idle ∨ c = .fanProvingTimeout ∧ s.bsq.state = .ignitionSpeed ∧ dest = (if s.bsq.gasOpened then
      .postPurge else .idle) ∨ c = .fanProvingTimeout ∧ s.bsq.state = .interPurge ∧ dest = .postPurge ∨ c =
      .outOfBandRunTimeout ∧ s.bsq.state.gasOpen = true ∧ dest = .postPurge)) ∧
    (∃ (s : State) (c : Instr) (dest : SeqState), s.powered = true ∧ s.locked = false ∧ (c = .fanProvingTimeout ∧ s.bsq.state
      = .prePurge ∧ dest = .idle ∨ c = .fanProvingTimeout ∧ s.bsq.state = .ignitionSpeed ∧ dest = (if s.bsq.gasOpened then
      .postPurge else .idle) ∨ c = .fanProvingTimeout ∧ s.bsq.state = .interPurge ∧ dest = .postPurge ∨ c =
      .outOfBandRunTimeout ∧ s.bsq.state.gasOpen = true ∧ dest = .postPurge) ∧ 2 ≤ s.bsq.provingFailures) :=
  ⟨⟨burning.inState .prePurge, .fanProvingTimeout, .idle, by decide⟩,
   ⟨burning.inState .ignitionSpeed, .fanProvingTimeout, .postPurge, by decide⟩,
   ⟨burning.inState .interPurge, .fanProvingTimeout, .postPurge, by decide⟩,
   ⟨cold burning 300 2 ⟨true, true⟩, .outOfBandRunTimeout, .postPurge, by decide⟩⟩
theorem witness_SafetyTimeOpensTheGas :
    (∃ (s : State), s.powered = true ∧ s.bsq.state = .ignitionSpeed ∧ s.mfe.flameOn = false ∧ s.ocu.gv1.state = .idle ∧
      s.ocu.gv2.state = .idle ∧ s.ocu.spark.state = .idle) ∧
    (∃ (s : State), s.powered = true ∧ s.bsq.state = .ignitionSpeed ∧ s.mfe.flameOn = false ∧ s.ocu.gv1.state = .tripped ∧
      s.ocu.gv2.state = .tripped ∧ s.ocu.spark.state = .tripped) ∧
    (∃ (s : State), s.powered = true ∧ s.bsq.state = .ignitionSpeed ∧ s.mfe.flameOn = false ∧ s.ocu.gv1.state = .tripped ∧
      s.ocu.gv2.state ≠ .tripped) :=
  ⟨⟨cold (burning.inState .ignitionSpeed) 0 0 ⟨true, true⟩, by decide⟩,
   ⟨tripped (cold (burning.inState .ignitionSpeed) 0 0 ⟨true, true⟩), by decide⟩,
   ⟨halfTripped (cold (burning.inState .ignitionSpeed) 0 0 ⟨true, true⟩), by decide⟩⟩
theorem witness_FlameProvedLeadsToStabilise :
    (∃ (s : State), s.powered = true ∧ s.mfe.flameOn = false ∧ s.bsq.state = .safetyTime) ∧
    (∃ (s : State), s.powered = true ∧ s.mfe.flameOn = false ∧ s.bsq.state ≠ .safetyTime) :=
  ⟨⟨cold (burning.inState .safetyTime) 0 0 ⟨true, true⟩, by decide⟩,
   ⟨ready, by decide⟩⟩
theorem witness_FlameLossInRunningIsRecycledOnce :
    (∃ (s : State), s.powered = true ∧ s.locked = false ∧ s.bsq.state = .running ∧ s.mfe.flameOn = true ∧ s.ocu.gv1.state ≠
      .tripped ∧ s.ocu.gv2.state ≠ .tripped ∧ s.bsq.recycleUsed = false ∧ s.dta.divState = .atCh ∧ 0 <
      s.sto.settings.chOverrunMin) ∧
    (∃ (s : State), s.powered = true ∧ s.locked = false ∧ s.bsq.state = .running ∧ s.mfe.flameOn = true ∧ s.ocu.gv1.state ≠
      .tripped ∧ s.ocu.gv2.state ≠ .tripped ∧ s.bsq.recycleUsed = true) :=
  ⟨⟨burning, by decide⟩,
   ⟨{ burning with bsq := { burning.bsq with recycleUsed := true } }, by decide⟩⟩
theorem witness_SequencerTimersAct :
    (∃ (s : State), s.powered = true ∧ s.locked = false ∧ s.mfe.flameOn = true ∧ s.bsq.state ∈ [.idle, .preCheck, .prePurge,
      .ignitionSpeed, .interPurge, SeqState.postPurge]) ∧
    (∃ (s : State) (c : Instr), s.powered = true ∧ (c = .lockoutPurgeEnd ∧ s.bsq.state = .lockout ∨ c =
      .lockoutPurgeRemainderEnd ∧ s.bsq.state = .idle)) ∧
    (∃ (s : State) (c : Instr), s.powered = true ∧ (c = .lockoutPurgeEnd ∧ s.bsq.state = .lockout ∨ c =
      .lockoutPurgeRemainderEnd ∧ s.bsq.state = .idle)) ∧
    (∃ (s : State), s.powered = true ∧ (s.bsq.state = .stabilise ∨ s.bsq.state = .running)) ∧
    (∃ (s : State), s.powered = true ∧ (s.bsq.state = .stabilise ∨ s.bsq.state = .running)) :=
  ⟨⟨burning.inState .postPurge, by decide⟩,
   ⟨burning.inState .lockout, .lockoutPurgeEnd, by decide⟩,
   ⟨ready, .lockoutPurgeRemainderEnd, by decide⟩,
   ⟨burning, by decide⟩,
   ⟨burning.inState .stabilise, by decide⟩⟩
theorem witness_TripLinesActOnTheThreeChannels :
    let waiting := fun (s : State) => [.spark, .gv1, Channel.gv2].filter fun ch => (s.ocu.get ch).rearmPending
    (∃ (s : State) (line : TripLine) (lowFor : Nat), s.powered = true ∧ lowFor = 20 ∧ s.ocu.lines.get line = false ∧
      line = .limit ∧ s.bsq.state ≠ .preCheck) ∧
    (∃ (s : State) (line : TripLine) (lowFor : Nat), s.powered = true ∧ lowFor = 20 ∧ s.ocu.lines.get line = false ∧
      line = .cond ∧ s.bsq.state = .preCheck ∧ waiting s ≠ []) ∧
    (∃ (s : State) (line : TripLine) (lowFor : Nat), s.powered = true ∧ lowFor = 20 ∧ s.ocu.lines.get line = false ∧
      line = .ext ∧ s.bsq.state = .preCheck ∧ waiting s = []) ∧
    (∀ line : TripLine, ∃ (s : State) (highFor : Nat), s.powered = true ∧ highFor = 20 ∧ s.ocu.lines.get line = true) ∧
    (∃ (s : State) (_line : TripLine) (n : Nat), s.powered = true ∧ n = 19) :=
  ⟨⟨ready, .limit, 20, by decide⟩,
   ⟨rearming, .cond, 20, by decide⟩,
   ⟨preChecked, .ext, 20, by decide⟩,
   fun line => ⟨{ ready with ocu := { ready.ocu with lines := ⟨true, true, true⟩ } }, 20, by cases line <;> decide⟩,
   ⟨ready, .limit, 19, by decide⟩⟩
theorem witness_PeriodStartsAndPullInEnds :
    (∃ (s : State) (ch : Channel), s.powered = true ∧ ch ∈ [.fan, .pump, .spark, .gv1, Channel.gv2] ∧ (s.ocu.get
      ch).rearmPending = false) ∧
    (∃ (s : State) (ch : Channel), s.powered = true ∧ ch ∈ [.fan, .pump, .spark, .gv1, Channel.gv2] ∧ (s.ocu.get
      ch).rearmPending = true) ∧
    (∃ (s : State) (v : GasValve), s.powered = true ∧ (s.ocu.get (valveChannel v)).state = .active ∧ (s.ocu.get (valveChannel
      v)).phase = some .pullIn) :=
  ⟨⟨ready, .spark, by decide⟩,
   ⟨{ ready with ocu := { ready.ocu with gv1 := { ready.ocu.gv1 with state := .tripped, rearmPending := true } } },
    .gv1,
    by decide⟩,
   ⟨{ ready with ocu := { ready.ocu with gv1 := { ready.ocu.gv1 with state := .active, phase := some .pullIn } } },
    .gv1,
    by decide⟩⟩
theorem witness_OutputLoopsStep :
    (∃ (s : State), s.powered = true) ∧
    (∃ (s : State), s.powered = true ∧ s.ocu.dtTimer.isSome = true) ∧
    (∃ (s : State), s.powered = true ∧ s.ocu.test.timer.isSome = true) :=
  ⟨⟨ready, by decide⟩,
   ⟨{ ready with ocu := { ready.ocu with dtTimer := some 0 } }, by decide⟩,
   ⟨{ ready with ocu := { ready.ocu with test := ⟨[(.pump, 300)], some 0, .none⟩ } }, by decide⟩⟩
theorem witness_CountersDecayAndAreWritten :
    (∃ (s : State), s.powered = true ∧ s.flt.decay.isSome = true ∧ 0 < s.flt.resetCounter) ∧
    (∃ (s : State), s.powered = true ∧ s.flt.decay.isSome = true ∧ 0 < s.flt.resetCounter) ∧
    (∃ (s : State), s.powered = true ∧ min 4294967294 (s.sto.counters.minutes + 1) % 60 = 0) ∧
    (∃ (s : State) (w : Write), s.powered = true ∧ s.sto.inFlight = some w ∧ s.sto.startup = none) ∧
    (∃ (s : State) (w : Write), s.powered = true ∧ s.sto.inFlight = some w) :=
  ⟨⟨{ ready with flt := { ready.flt with decay := some 0, resetCounter := 1 } }, by decide⟩,
   ⟨{ ready with flt := { ready.flt with decay := some 0, resetCounter := 5 } }, by decide⟩,
   ⟨{ ready with sto := { ready.sto with counters := ⟨59, 0, 0⟩ } }, by decide⟩,
   ⟨{ ready with sto := { ready.sto with inFlight := some ⟨.slot 0 none, 0⟩ } }, ⟨.slot 0 none, 0⟩, by decide⟩,
   ⟨{ ready with sto := { ready.sto with inFlight := some ⟨.counters ⟨0, 0, 0⟩, 0⟩ } }, ⟨.counters ⟨0, 0, 0⟩, 0⟩, by decide⟩⟩
theorem witness_PollsAreSentOrSkipped :
    (∃ (s : State) (n : RoomSlot), s.powered = true ∧ s.rlc.exchange = .none ∧ s.rlc.offTimer = none ∧ (slotsAfter
      s.rlc.pointer).find? (fun n => (s.rlc.slots.get n).enable) = some n) ∧
    (∃ (s : State) (n : RoomSlot) (since : Nat), s.powered = true ∧ s.rlc.exchange = .waiting n since ∧ s.isActive .a10 =
      false) ∧
    (∃ (s : State) (n : RoomSlot) (since : Nat), s.powered = true ∧ s.rlc.exchange = .waiting n since ∧ s.rlc.dropped = false) ∧
    (∃ (s : State) (n : RoomSlot) (left : Nat), s.powered = true ∧ s.rlc.exchange = .sending n left) ∧
    (∃ (s : State), s.powered = true) :=
  ⟨⟨{ ready with rlc := { ready.rlc with pointer := some .slot1, slots := { ready.rlc.slots with slot1 := bound } } },
    .slot1,
    by decide⟩,
   ⟨{ ready with rlc := { ready.rlc with exchange := .waiting .slot1 20 } }, .slot1, 20, by decide⟩,
   ⟨{ ready with rlc := { ready.rlc with exchange := .waiting .slot1 500 } }, .slot1, 500, by decide⟩,
   ⟨{ ready with rlc := { ready.rlc with exchange := .sending .slot1 0 } }, .slot1, 0, by decide⟩,
   ⟨ready, by decide⟩⟩
theorem witness_PollsAreSentOrSkipped_none :
    (∃ (s : State), s.powered = true ∧ s.rlc.exchange = .none ∧ ∀ n, (s.rlc.slots.get n).enable = false) ∧
    (∃ (s : State) (n : RoomSlot), s.powered = true ∧ s.rlc.exchange = .none ∧ s.rlc.offTimer.isSome = true
      ∧ (slotsAfter s.rlc.pointer).find? (fun n => (s.rlc.slots.get n).enable) = some n) :=
  ⟨⟨ready, by decide, by decide, fun n => by cases n <;> decide⟩,
   ⟨{ ready with rlc := { ready.rlc with offTimer := some 9000, slots := { ready.rlc.slots with slot4 := bound } } }, .slot4,
    by decide⟩⟩
theorem witness_ReceptionFillsTheFifo :
    (∃ (s : State) (n : RoomSlot) (left : Nat), s.powered = true ∧ s.rlc.exchange = .window n left ∧ s.rlc.receiving = none ∧
      s.rlc.offTimer = none ∧ s.rlc.dropped = false) ∧
    (∃ (s : State) (n m : RoomSlot) (left : Nat), s.powered = true ∧ s.rlc.exchange = .window n left ∧ s.rlc.receiving = some
      m) ∧
    (∃ (s : State), s.powered = true ∧ s.rlc.exchange = .none ∧ s.rlc.offTimer = none ∧ s.rlc.receiving = none) ∧
    (∃ (s : State) (n : RoomSlot) (_b : Byte), s.powered = true ∧ s.rlc.receiving = some n ∧ s.rlc.fifo.length < 24) ∧
    (∃ (s : State) (n : RoomSlot) (_b : Byte), s.powered = true ∧ s.rlc.receiving = some n ∧ s.rlc.fifo.length = 24 ∧
      s.rlc.dropped = false ∧ s.rlc.level = false ∧ s.rlc.exchange.answerable n = true) :=
  ⟨⟨{ ready with rlc := { ready.rlc with exchange := .window .slot1 1 } }, .slot1, 1, by decide⟩,
   ⟨{ ready with rlc := { ready.rlc with exchange := .window .slot1 0, receiving := some .slot1 } },
    .slot1,
    .slot1,
    0,
    by decide⟩,
   ⟨ready, by decide⟩,
   ⟨{ ready with rlc := { ready.rlc with receiving := some .slot1, fifo := List.replicate 23 0 } }, .slot1, 7, by decide⟩,
   ⟨{ ready with rlc := { ready.rlc with exchange := .window .slot1 1, receiving := some .slot1, fifo := List.replicate 24 0 } },
    .slot1,
    7,
    by decide⟩⟩
theorem witness_MissesSilenceAndLoseASlot :
    (∃ (s : State) (n : RoomSlot), s.powered = true ∧ (s.rlc.slots.get n).state = .bound) ∧
    (∃ (s : State) (n : RoomSlot), s.powered = true ∧ (s.rlc.slots.get n).state = .silent) :=
  ⟨⟨{ ready with rlc := { ready.rlc with slots := { ready.rlc.slots with slot1 := bound } } }, .slot1, by decide⟩,
   ⟨{ ready with rlc := { ready.rlc with slots := { ready.rlc.slots with slot1 := { bound with state := .silent } } } },
    .slot1,
    by decide⟩⟩
theorem witness_ValidReportBindsTheSlot :
    (∃ (s : State) (n : RoomSlot) (left : Nat) (rep : Report), s.powered = true ∧ s.rlc.exchange = .window n
      left ∧ s.rlc.receiving = some n ∧ s.rlc.dropped = false ∧ readReport n s.rlc.fifo = some rep ∧ (rep.reset = true →
      (s.rlc.slots.get n).lastReset = true)) ∧
    (∃ (s : State) (n : RoomSlot) (left : Nat), s.powered = true ∧ s.rlc.exchange = .window n left ∧ s.rlc.receiving = some n
      ∧ readReport n s.rlc.fifo = none) ∧
    (∃ (s : State) (n : RoomSlot) (left : Nat) (rep : Report), s.powered = true ∧ s.rlc.exchange = .window n left
      ∧ s.rlc.receiving = some n ∧ s.rlc.dropped = false ∧ readReport n s.rlc.fifo = some rep ∧ rep.reset = true
      ∧ (s.rlc.slots.get n).lastReset = false ∧ s.sto.settings.remoteReset = false) ∧
    (∃ (s : State) (n : RoomSlot) (left : Nat) (rep : Report), s.powered = true ∧ s.rlc.exchange = .window n left
      ∧ s.rlc.receiving = some n ∧ s.rlc.dropped = false ∧ readReport n s.rlc.fifo = some rep ∧ rep.reset = true
      ∧ (s.rlc.slots.get n).lastReset = false ∧ s.sto.settings.remoteReset = true ∧ s.locked = true
      ∧ s.bsq.state ≠ .startCheck ∧ s.flt.resetCounter = 4 ∧ s.flt.conditions = ⟨false, false, false, false, false⟩
      ∧ s.prt.notices.length < 10) :=
  ⟨⟨answering ready report3, .slot3, 100, ⟨true, 200, 185, 0, false⟩, by decide⟩,
   ⟨answering ready (report3.drop 1), .slot3, 100, by decide⟩,
   ⟨answering ready resetReport3, .slot3, 100, ⟨true, 200, 185, 0, true⟩, by decide⟩,
   ⟨remote, .slot3, 100, ⟨true, 200, 185, 0, true⟩, by decide⟩⟩
theorem witness_LoopShortCutsThePower :
    (∃ (s : State) (current lasted : Nat), s.powered = true ∧ 60 < current ∧ 5 ≤ lasted ∧ s.rlc.offTimer = none) ∧
    (∃ (s : State), s.powered = true ∧ s.rlc.offTimer.isSome = true) :=
  ⟨⟨ready, 61, 5, by decide⟩,
   ⟨{ ready with rlc := { ready.rlc with offTimer := some 0 } }, by decide⟩⟩
theorem witness_CollectIsAnsweredByTheFirstCase :
    (∃ (s : State) (clocked : Nat), s.powered = true ∧ 1 ≤ clocked ∧ s.prt.overrunFlag = true) ∧
    (∃ (s : State) (clocked : Nat), s.powered = true ∧ 1 ≤ clocked ∧ s.prt.overrunFlag = false ∧ s.prt.replyState =
      .processing ∧ 4 + s.prt.reply.length = clocked) ∧
    (∃ (s : State) (clocked : Nat), s.powered = true ∧ 1 ≤ clocked ∧ s.prt.overrunFlag = false ∧ s.prt.replyState = .empty ∧ 4
      + s.prt.reply.length = clocked) ∧
    (∃ (s : State) (clocked : Nat), s.powered = true ∧ 1 ≤ clocked ∧ s.prt.overrunFlag = false ∧ s.prt.replyState = .ready ∧ 4
      + s.prt.reply.length = clocked) ∧
    (∃ (s : State) (clocked : Nat), s.powered = true ∧ 1 ≤ clocked ∧ s.prt.overrunFlag = false ∧ s.prt.replyState = .collected
      ∧ 4 + s.prt.reply.length = clocked) :=
  ⟨⟨{ ready with prt := { ready.prt with overrunFlag := true } }, 1, by decide⟩,
   ⟨{ ready with prt := { ready.prt with replyState := .processing, reply := [0, 0] } }, 6, by decide⟩,
   ⟨{ ready with prt := { ready.prt with replyState := .empty, reply := [0, 0] } }, 6, by decide⟩,
   ⟨{ ready with prt := { ready.prt with replyState := .ready, reply := [0, 0] } }, 6, by decide⟩,
   ⟨{ ready with prt := { ready.prt with replyState := .collected, reply := [0, 0] } }, 6, by decide⟩⟩
theorem witness_FramesAreTakenOrCounted :
    (∃ (s : State) (bytes : List Byte), s.powered = true ∧ bytes.length ≤ 2080 ∧ s.prt.replyState ≠ .processing) ∧
    (∃ (s : State) (bytes : List Byte), s.powered = true ∧ bytes.length ≤ 2080 ∧ s.prt.replyState = .processing) ∧
    (∃ (s : State) (left : Nat), s.powered = true ∧ s.prt.serviceState = .sending left) ∧
    (∃ (s : State) (r : SoftReset) (hold : Nat), s.powered = true ∧ s.prt.softReset = some r ∧ r.port = .control ∧ r.reply =
      .ready hold) :=
  ⟨⟨ready, [0, 1], by decide⟩,
   ⟨{ ready with prt := { ready.prt with replyState := .processing } }, [], by decide⟩,
   ⟨{ ready with prt := { ready.prt with serviceState := .sending 0 } }, 0, by decide⟩,
   ⟨{ ready with prt := { ready.prt with softReset := some ⟨.control, .ready 0, []⟩ } },
    ⟨.control, .ready 0, []⟩,
    0,
    by decide⟩⟩
theorem witness_FrameEndCommitsTheTable :
    (∃ (s : State) (table : CombustionTable), s.powered = true ∧ s.prt.serviceState = .processing ∧ s.prt.service.frame.todo =
      [] ∧ s.prt.service.frame.badTail = false ∧ s.prt.service.frame.combustionWrite = true ∧ s.prt.service.frame.noUnlock =
      false ∧ s.prt.service.frame.valueRefused = false ∧ s.prt.staged = some table ∧ table.valid = true ∧ s.bsq.state = .idle) ∧
    (∃ (s : State) (table : CombustionTable), s.powered = true ∧ s.prt.serviceState = .processing ∧ s.prt.service.frame.todo =
      [] ∧ s.prt.service.frame.badTail = false ∧ s.prt.service.frame.combustionWrite = true ∧ s.prt.service.frame.noUnlock =
      false ∧ s.prt.service.frame.valueRefused = false ∧ s.prt.staged = some table ∧ table.valid = true ∧ s.bsq.state =
      .running) ∧
    (∃ (s : State), s.powered = true ∧ s.prt.replyState = .processing ∧ s.prt.control.frame.todo = [] ∧
      s.prt.control.frame.badTail = false ∧ s.prt.control.frame.combustionWrite = false) :=
  ⟨⟨staging, CombustionTable.default, by decide⟩,
   ⟨staging.inState .running, CombustionTable.default, by decide⟩,
   ⟨{ ready with prt := { ready.prt with replyState := .processing } }, by decide⟩⟩
theorem witness_FrameEndCommitsTheTable_discards :
    let ends := fun (s : State) => s.powered = true ∧ s.prt.serviceState = .processing ∧ s.prt.service.frame.todo = []
      ∧ s.prt.service.frame.badTail = false ∧ s.prt.service.frame.combustionWrite = true
    (∃ s, ends s ∧ s.prt.service.frame.noUnlock = true) ∧
    (∃ s, ends s ∧ s.prt.service.frame.noUnlock = false ∧ s.prt.service.frame.valueRefused = true) ∧
    (∃ s, ends s ∧ s.prt.service.frame.noUnlock = false ∧ s.prt.service.frame.valueRefused = false
      ∧ ∃ table, s.prt.staged = some table ∧ table.valid = false) ∧
    (∃ s, ends s ∧ s.prt.service.frame.noUnlock = false ∧ s.prt.service.frame.valueRefused = false ∧ s.prt.staged = none) :=
  ⟨⟨committing true false none, by decide⟩, ⟨committing false true none, by decide⟩,
   ⟨committing false false (some { CombustionTable.default with rmin := 900 }), by decide, by decide, by decide, _, rfl, by decide⟩,
   ⟨committing false false none, by decide⟩⟩
theorem witness_ReadsAndWritesAreAnswered :
    (∃ (s : State) (p : Port) (space : BitVec 3) (a : Word) (n : Nat), s.powered = true ∧ (s.prt.portRecord p).frame.Takes ∧
      space.toNat ≤ 4 ∧ mayRead p space = true ∧ 1 ≤ n ∧ n ≤ 63 ∧ a.toNat + n ≤ spaceSize space) ∧
    (∃ (s : State) (p : Port) (space : BitVec 3) (a : Word) (n : Nat), s.powered = true ∧ (s.prt.portRecord p).frame.Takes ∧
      space.toNat ≤ 4 ∧ mayRead p space = true ∧ 1 ≤ n ∧ n ≤ 63 ∧ a.toNat + n ≤ spaceSize space) ∧
    (∃ (s : State) (p : Port) (space : BitVec 3) (a : Word) (n : Nat), s.powered = true ∧ (s.prt.portRecord p).frame.Takes ∧
      space ≠ 7 ∧ mayRead p space = true ∧ 1 ≤ n ∧ n ≤ 63 ∧ spaceSize space ≤ a.toNat ∧ a.toNat < 0xFFF0) ∧
    (∃ (s : State) (p : Port) (space : BitVec 3) (a : Word) (_step : Bool) (n : Nat), s.powered = true ∧ (s.prt.portRecord
      p).frame.Takes ∧ 1 ≤ n ∧ n ≤ 63 ∧ a.toNat < 0xFFF0 ∧ (space = 7 ∨ mayRead p space = false)) ∧
    (∃ (s : State) (p : Port) (space : BitVec 3) (a : Word) (_step : Bool) (n : Nat), s.powered = true ∧ (s.prt.portRecord
      p).frame.Takes ∧ 1 ≤ n ∧ n ≤ 63 ∧ a.toNat < 0xFFF0 ∧ (space = 7 ∨ mayRead p space = false)) ∧
    (∃ (s : State), s.powered = true ∧ s.prt.control.frame.Takes ∧ s.prt.notices = [.raised .f01]) ∧
    (∃ (s : State), s.powered = true ∧ s.prt.control.frame.Takes ∧ s.prt.notices = []) ∧
    (∃ (s : State) (p : Port), s.powered = true ∧ (s.prt.portRecord p).frame.Takes) :=
  ⟨⟨ready, .control, 0, 0, 1, by unfold Frame.Takes; decide⟩,
   ⟨ready, .service, 4, 2, 63, by unfold Frame.Takes; decide⟩,
   ⟨ready, .control, 2, BitVec.ofNat 16 (spaceSize 2), 63, by unfold Frame.Takes; decide⟩,
   ⟨ready, .control, 7, 0, true, 1, by unfold Frame.Takes; decide⟩,
   ⟨ready, .service, 5, 0, true, 1, by unfold Frame.Takes; decide⟩,
   ⟨{ ready with prt := { ready.prt with notices := [.raised .f01] } }, by unfold Frame.Takes; decide⟩,
   ⟨ready, by unfold Frame.Takes; decide⟩,
   ⟨ready, .control, by unfold Frame.Takes; decide⟩⟩
theorem witness_BoardExpiredFlagClearsInTwoSteps :
    (∃ (s : State), s.powered = true ∧ s.prt.heartbeat.isSome = true) ∧
    (∃ (s : State), s.powered = true ∧ s.prt.control.frame.Takes) ∧
    (∃ (s : State) (value : Word), s.powered = true ∧ s.prt.control.frame.Takes ∧ value = 0 ∧ s.prt.expiredNote = true) ∧
    (∃ (s : State) (value : Word), s.powered = true ∧ s.prt.control.frame.Takes ∧ value = 0 ∧ s.prt.expiredNote = false) ∧
    (∃ (s : State) (value : Word), s.powered = true ∧ s.prt.control.frame.Takes ∧ value ≠ 0) ∧
    (∃ (s : State), s.powered = true ∧ s.softResetReady = true) ∧
    (∃ (s : State) (c : Instr), (c = .powerOnReset ∨ c = .pinReset ∧ s.powered = true)) :=
  ⟨⟨{ ready with prt := { ready.prt with heartbeat := some 0 } }, by decide⟩,
   ⟨ready, by unfold Frame.Takes; decide⟩,
   ⟨{ ready with prt := { ready.prt with expiredFlag := true, expiredNote := true } }, 0, by unfold Frame.Takes; decide⟩,
   ⟨ready, 0, by unfold Frame.Takes; decide⟩,
   ⟨ready, 1, by unfold Frame.Takes; decide⟩,
   ⟨waitingForReset, by decide⟩,
   ⟨ready, .pinReset, by decide⟩⟩
theorem witness_HeartbeatSupervisesTheBoard :
    (∃ (s : State) (value : Word), s.powered = true ∧ s.prt.control.frame.Takes ∧ (value.extractLsb' 8 8).toNat = 0x5A ∧
      s.prt.heartbeat = none) ∧
    (∃ (s : State) (value : Word), s.powered = true ∧ s.prt.control.frame.Takes ∧ (value.extractLsb' 8 8).toNat = 0x5A ∧
      s.prt.heartbeat.isSome = true) ∧
    (∃ (s : State) (value : Word), s.powered = true ∧ s.prt.control.frame.Takes ∧ (value.extractLsb' 8 8).toNat ≠ 0x5A) ∧
    (∃ (s : State), s.powered = true ∧ s.prt.heartbeat.isSome = true ∧ s.sto.settings.boardResetPulse = true) ∧
    (∃ (s : State), s.powered = true ∧ s.prt.heartbeat.isSome = true ∧ s.sto.settings.boardResetPulse = false) ∧
    (∃ (s : State), s.powered = true) :=
  ⟨⟨ready, 0x5A01, by unfold Frame.Takes; decide⟩,
   ⟨{ ready with prt := { ready.prt with heartbeat := some 9 } }, 0x5A3C, by unfold Frame.Takes; decide⟩,
   ⟨ready, 0x5B02, by unfold Frame.Takes; decide⟩,
   ⟨{ ready with prt := { ready.prt with heartbeat := some 0 } }, by decide⟩,
   ⟨{ pulsing with sto := { ready.sto with settings := { ready.sto.settings with boardResetPulse := false } } }, by decide⟩,
   ⟨{ ready with prt := { ready.prt with brst := some 0 } }, by decide⟩⟩
theorem witness_PortWordsActByTheirValues :
    (∃ (s : State) (p : Port) (_k : PortCounter) (value : Word), s.powered = true ∧ (s.prt.portRecord p).frame.Takes ∧ value =
      0) ∧
    (∃ (s : State) (p : Port) (_k : PortCounter) (value : Word), s.powered = true ∧ (s.prt.portRecord p).frame.Takes ∧ value ≠
      0) ∧
    (∃ (s : State) (_ch : NtcChannel) (value : Word), s.powered = true ∧ s.prt.service.frame.Takes ∧ clampInt (-20) 20
      value.toInt = value.toInt) ∧
    (∃ (s : State) (_ch : NtcChannel) (value : Word), s.powered = true ∧ s.prt.service.frame.Takes ∧ clampInt (-20) 20
      value.toInt ≠ value.toInt) ∧
    (∃ (s : State) (_value : Word), s.powered = true ∧ s.prt.service.frame.Takes) ∧
    (∃ (s : State) (_value : Word), s.powered = true ∧ s.prt.service.frame.Takes) ∧
    (∃ (s : State) (a value : Word), s.powered = true ∧ s.prt.service.frame.Takes ∧ a.toNat < 0x13 ∧
      s.prt.service.frame.unlock = true ∧ tableRanges[a.toNat]?.map (fun x => decide (x.1 ≤ (value.toNat : Int) ∧ (value.toNat
      : Int) ≤ x.2)) = some true) ∧
    (∃ (s : State) (a value : Word), s.powered = true ∧ s.prt.service.frame.Takes ∧ a.toNat < 0x13 ∧
      s.prt.service.frame.unlock = true ∧ tableRanges[a.toNat]?.map (fun x => decide (x.2 < (value.toNat : Int))) = some true) ∧
    (∃ (s : State) (value : Word), s.powered = true ∧ s.prt.service.frame.Takes ∧ s.prt.service.frame.unlock = true ∧ value =
      1) ∧
    (∃ (s : State) (value : Word), s.powered = true ∧ s.prt.service.frame.Takes ∧ s.prt.service.frame.unlock = true ∧ value ≠
      1) ∧
    (∃ (s : State) (a value : Word) (c : Instr), s.powered = true ∧ s.prt.service.frame.Takes ∧ s.prt.service.frame.unlock =
      false ∧ a.toNat < 0x13 ∧ (c = .combustionWrite .service (.address a) false [value] ∨ c = .restoreFactoryTable value)) ∧
    (∃ (s : State) (a value : Word) (c : Instr), s.powered = true ∧ s.prt.service.frame.Takes ∧ s.prt.service.frame.unlock =
      false ∧ a.toNat < 0x13 ∧ (c = .combustionWrite .service (.address a) false [value] ∨ c = .restoreFactoryTable value)) ∧
    (∃ (s : State) (p : Port) (_value : Word), s.powered = true ∧ (s.prt.portRecord p).frame.Takes ∧ s.bsq.state = .idle ∧
      s.prt.softReset = none) ∧
    (∃ (s : State) (p : Port) (value : Word), s.powered = true ∧ (s.prt.portRecord p).frame.Takes ∧ value = 1 ∧ s.bsq.state ≠
      .idle ∧ s.bsq.state ≠ .lockout) ∧
    (∃ (s : State) (p : Port) (value : Word), s.powered = true ∧ (s.prt.portRecord p).frame.Takes ∧ value ≠ 1) :=
  ⟨⟨ready, .service, .denied, 0, by unfold Frame.Takes; decide⟩,
   ⟨ready, .control, .frames, 1, by unfold Frame.Takes; decide⟩,
   ⟨ready, .flowA, 20, by unfold Frame.Takes; decide⟩,
   ⟨ready, .flowA, 21, by unfold Frame.Takes; decide⟩,
   ⟨ready, 1, by unfold Frame.Takes; decide⟩,
   ⟨ready, 0, by unfold Frame.Takes; decide⟩,
   ⟨unlocked, 5, 30, by unfold Frame.Takes; decide⟩,
   ⟨unlocked, 0x0F, 601, by unfold Frame.Takes; decide⟩,
   ⟨unlocked, 1, by unfold Frame.Takes; decide⟩,
   ⟨unlocked, 0, by unfold Frame.Takes; decide⟩,
   ⟨ready, 0x12, 5, .combustionWrite .service (.address 0x12) false [5], by unfold Frame.Takes; decide⟩,
   ⟨ready, 0, 1, .restoreFactoryTable 1, by unfold Frame.Takes; decide⟩,
   ⟨ready, .service, 1, by unfold Frame.Takes; decide⟩,
   ⟨burning, .control, 1, by unfold Frame.Takes; decide⟩,
   ⟨ready, .control, 0, by unfold Frame.Takes; decide⟩⟩
theorem witness_PortWordsActByTheirValues_processing :
    (∃ s : State, s.powered = true ∧ s.prt.service.frame.Takes ∧ s.prt.service.frame.unlock = true
      ∧ s.prt.serviceState = .processing) ∧
    (∃ s : State, s.powered = true ∧ s.prt.service.frame.Takes ∧ s.prt.service.frame.unlock = true
      ∧ s.prt.serviceState ≠ .processing) :=
  ⟨⟨{ unlocked with prt := { unlocked.prt with serviceState := .processing } }, by unfold Frame.Takes; decide⟩,
   ⟨unlocked, by unfold Frame.Takes; decide⟩⟩
theorem witness_ResetRequestsAreJudged :
    (∃ (s : State) (p : Port) (_value : Word) (l : Lockout), s.powered = true ∧ (s.prt.portRecord p).frame.Takes ∧
      s.flt.lockout = some l ∧ s.bsq.state ≠ .startCheck ∧ s.flt.resetCounter < 5 ∧ s.flt.conditions = ⟨false, false, false,
      false, false⟩) ∧
    (∃ (s : State) (p : Port) (_value : Word), s.powered = true ∧ (s.prt.portRecord p).frame.Takes ∧ s.bsq.state ≠ .startCheck
      ∧ s.locked = false) ∧
    (∃ (s : State) (p : Port) (_value : Word), s.powered = true ∧ (s.prt.portRecord p).frame.Takes ∧ s.locked = true ∧ 5 ≤
      s.flt.resetCounter) ∧
    (∃ (s : State) (p : Port) (_value : Word), s.powered = true ∧ (s.prt.portRecord p).frame.Takes ∧ s.locked = true ∧
      s.flt.resetCounter < 5 ∧ s.flt.conditions.any = true) ∧
    (∃ (s : State) (p : Port) (_value : Word), s.powered = true ∧ (s.prt.portRecord p).frame.Takes ∧ s.bsq.state =
      .startCheck) ∧
    (∃ (s : State) (_value : Word), s.powered = true ∧ s.prt.service.frame.Takes) ∧
    (∃ (s : State) (_value : Word), s.powered = true ∧ s.prt.control.frame.Takes) :=
  ⟨⟨lockedOut, .control, 0, ⟨.f02, .running, 0, 0⟩, by unfold Frame.Takes; decide⟩,
   ⟨ready, .control, 0, by unfold Frame.Takes; decide⟩,
   ⟨{ lockedOut with flt := { lockedOut.flt with resetCounter := 5 } }, .service, 0, by unfold Frame.Takes; decide⟩,
   ⟨{ lockedOut with flt := { lockedOut.flt with resetCounter := 4, conditions := ⟨true, false, false, false, false⟩ } },
    .service,
    0,
    by unfold Frame.Takes; decide⟩,
   ⟨State.reset, .service, 0, by unfold Frame.Takes; decide⟩,
   ⟨ready, 1, by unfold Frame.Takes; decide⟩,
   ⟨ready, 1, by unfold Frame.Takes; decide⟩⟩
theorem witness_DemandsSettingsAndTestsAreTaken :
    (∃ (s : State) (_asks _flow _setpoint _actual _zone : Word), s.powered = true ∧ s.prt.control.frame.Takes ∧
      s.prt.heartbeat.isSome = true) ∧
    (∃ (s : State) (_asks : Word), s.powered = true ∧ s.prt.control.frame.Takes ∧ s.prt.heartbeat = none) ∧
    (∃ (s : State) (p : Port) (selection : Word), s.powered = true ∧ (s.prt.portRecord p).frame.Takes ∧ s.locked = false ∧
      s.dta.table.service = none ∧ 1 ≤ selection.toNat ∧ selection.toNat ≤ 3) ∧
    (∃ (s : State) (p : Port) (selection : Word), s.powered = true ∧ (s.prt.portRecord p).frame.Takes ∧ s.locked = false ∧
      s.dta.table.service = none ∧ 1 ≤ selection.toNat ∧ selection.toNat ≤ 3) ∧
    (∃ (s : State) (p : Port) (value : Word), s.powered = true ∧ (s.prt.portRecord p).frame.Takes ∧ clampInt 350 600
      value.toInt = value.toInt) ∧
    (∃ (s : State) (p : Port) (value : Word), s.powered = true ∧ (s.prt.portRecord p).frame.Takes ∧ clampInt 350 600
      value.toInt ≠ value.toInt) ∧
    (∃ (s : State) (p : Port), s.powered = true ∧ (s.prt.portRecord p).frame.Takes ∧ s.rlc.slots.slot1.state = .disabled) ∧
    (∃ (s : State) (channel _level duration : Word) (c : TestChannel), s.powered = true ∧ s.prt.service.frame.Takes ∧
      testChannelOf channel = some c ∧ 1 ≤ duration.toNat ∧ s.bsq.state = .idle ∧ s.bsq.purgeLeft = 0 ∧ s.locked = false ∧
      s.dta.anyAsking = false ∧ s.dta.table.keepwarm = none ∧ s.keepwarmBegins = false) ∧
    (∃ (s : State) (channel _level duration : Word), s.powered = true ∧ s.prt.service.frame.Takes ∧ duration ≠ 0 ∧
      testChannelOf channel = none) ∧
    (∃ (s : State) (channel _level duration : Word), s.powered = true ∧ s.prt.service.frame.Takes ∧ duration ≠ 0 ∧
      testChannelOf channel ≠ none ∧ s.bsq.state ≠ .idle) :=
  ⟨⟨{ ready with prt := { ready.prt with heartbeat := some 9 } }, 1, 0, 0, 0, 0, by unfold Frame.Takes; decide⟩,
   ⟨ready, 1, by unfold Frame.Takes; decide⟩,
   ⟨ready, .control, 1, by unfold Frame.Takes; decide⟩,
   ⟨ready, .service, 3, by unfold Frame.Takes; decide⟩,
   ⟨ready, .service, 350, by unfold Frame.Takes; decide⟩,
   ⟨ready, .control, 601, by unfold Frame.Takes; decide⟩,
   ⟨ready, .service, by unfold Frame.Takes; decide⟩,
   ⟨ready, 0, 0, 60, .fan, by unfold Frame.Takes; decide⟩,
   ⟨ready, 2, 0, 1, by unfold Frame.Takes; decide⟩,
   ⟨burning, 1, 0, 1, by unfold Frame.Takes; decide⟩⟩

theorem seal_good {α : Type} (words : α → List Word) (c : α) : (Stored.seal words c).crcGood words = true := by
  simp [Stored.crcGood, Stored.seal]

theorem both_true {a b : Bool} (ha : a = true) (hb : b = true) : (a && b) = true := by simp [ha, hb]

theorem witness_StartupReadsLeadToIdleOrF09_0 :
    ∃ s : State, s.powered = true ∧ s.sto.startup.isSome = true ∧ s.bsq.state = .startCheck ∧ s.sto.nv.trimGood = true
      ∧ s.sto.nv.settingsGood = true ∧ s.sto.nv.countersGood = true ∧ s.sto.nv.lockoutGood = true
      ∧ s.sto.nv.combustionGood = true ∧ s.sto.nv.lockout.contents.lockout = none ∧ s.locked = false
      ∧ s.bsq.pendingCauses = [] ∧ s.ocu.lines.limit = false :=
  ⟨State.reset, by decide, by decide, by decide, both_true (seal_good _ _) (by decide), both_true (seal_good _ _) (by decide),
    both_true (seal_good _ _) (by decide), both_true (seal_good _ _) (by decide), both_true (seal_good _ _) (by decide),
    by decide, by decide, by decide, by decide⟩

theorem witness_StoreChangesOnlyByWrites : ∃ (c : Instr) (s t : State), exec c s = .next t :=
  ⟨.tapStop, ready, after .tapStop ready, rfl⟩
theorem witness_LockoutEndsOnlyByReset :
    ∃ (c : Instr) (s t : State), exec c s = .next t ∧ s.locked = true ∧ t.locked = false :=
  ⟨.resetRequestWord .control 0, lockedOut, after (.resetRequestWord .control 0) lockedOut, rfl, by decide,
    by decide +kernel⟩
theorem witness_EventsWithoutTheirCauseDoNothing :
    ∃ s : State, s.powered = true ∧ ∀ c ∈ [.channelOpenOrShort .outdoor .high, .fanProvingTimeout, .pullInEnd .gv2,
      .coilCheckHold .gv1 60, .tripLineActive .ext 19, .receiveByte 7, .loopShort 60 5, .loopShort 61 4, .collectFrame 0,
      .slotSilent .slot4, .slotLost .slot1, .serviceFrameGap, Instr.storeWriteEnd true], s.lacksCause c = true :=
  ⟨ready, by decide⟩
theorem witness_SensorFaultsFollowTheChannels_0a :
    ∃ (s : State) (c : Instr), s.powered = true ∧ ∃ readings polOut, c = .ntcConversionCycle readings polOut :=
  ⟨ready, .ntcConversionCycle readings 0, by decide, readings, 0, rfl⟩
theorem witness_SensorFaultsFollowTheChannels_0b :
    ∃ (s : State) (c : Instr), s.powered = true
      ∧ ∃ ch kind, c = .channelOpenOrShort ch kind ∧ (ntcGet s.mfe.ntc ch).status ≠ .notFitted :=
  ⟨ready, .channelOpenOrShort .dhwOut .high, by decide, .dhwOut, .high, rfl, by decide⟩
theorem witness_FailedAttemptPurgesOrLocksOut_a :
    ∃ s : State, s.powered = true ∧ s.locked = false ∧ s.ocu.gv1.state ≠ .tripped ∧ s.ocu.gv2.state ≠ .tripped
      ∧ s.bsq.state = .safetyTime ∧ (s.bsq.attempts : Int) + 1 < s.sto.table.attempts :=
  ⟨cold (burning.inState .safetyTime) 0 0 ⟨true, true⟩, by decide⟩
theorem witness_FailedAttemptPurgesOrLocksOut_b :
    ∃ s : State, s.powered = true ∧ s.locked = false ∧ s.ocu.gv1.state ≠ .tripped ∧ s.ocu.gv2.state ≠ .tripped
      ∧ s.bsq.state = .stabilise ∧ s.mfe.flameOn = true ∧ s.sto.table.attempts ≤ (s.bsq.attempts : Int) + 1 :=
  ⟨{ burning.inState .stabilise with bsq := { (burning.inState .stabilise).bsq with attempts := 2 } }, by decide⟩
theorem witness_TripReportsAreTaken_a :
    let waits := fun (s : State) (c : TripSet) => s.powered = true ∧ s.bsq.tripReports = [c] ∧ c.limit = true
    (∃ s c, waits s c ∧ s.locked = false ∧ s.bsq.state ≠ .startCheck ∧ s.bsq.state ≠ .lockout) ∧
    (∃ s c, waits s c ∧ s.bsq.state = .startCheck ∧ .f04 ∉ s.bsq.pendingCauses) ∧
    (∃ s c, waits s c ∧ s.bsq.state = .startCheck ∧ .f04 ∈ s.bsq.pendingCauses) ∧
    (∃ s c, waits s c ∧ s.bsq.state = .lockout ∧ s.locked = true ∧ s.isActive .f04 = true) ∧
    (∃ s c, waits s c ∧ s.bsq.state = .lockout ∧ s.locked = true ∧ s.isActive .f04 = false ∧ s.flt.ringBuilt = true
      ∧ newestSlot (fun r => r.raises .f04) s.flt.ring = none) :=
  ⟨⟨reported burning ⟨true, true, false⟩, ⟨true, true, false⟩, by decide⟩,
   ⟨reported State.reset ⟨true, false, false⟩, ⟨true, false, false⟩, by decide⟩,
   ⟨reported (after .tripReport (reported State.reset ⟨true, false, false⟩)) ⟨true, false, false⟩, ⟨true, false, false⟩, by decide⟩,
   ⟨reported (after .tripReport (reported burning ⟨true, false, false⟩)) ⟨true, false, false⟩, ⟨true, false, false⟩, by decide⟩,
   ⟨reported lockedOut ⟨true, false, false⟩, ⟨true, false, false⟩, by decide⟩⟩
theorem witness_TripReportsAreTaken_b :
    let waits := fun (s : State) (c : TripSet) => s.powered = true ∧ s.bsq.refusedOpens = [⟨[.gv1], c⟩] ∧ c.limit = false
    (∃ s c, waits s c ∧ s.bsq.state = .safetyTime) ∧
    (∃ s c, waits s c ∧ s.bsq.state = .interPurge) ∧
    (∃ s c, waits s c ∧ s.bsq.state = .preCheck) ∧
    (∃ s c, waits s c ∧ s.bsq.state = .ignitionSpeed ∧ s.bsq.gasOpened = true) ∧
    (∃ s c, waits s c ∧ s.bsq.state = .ignitionSpeed ∧ s.bsq.gasOpened = false) ∧
    (∃ s c, waits s c ∧ s.bsq.state = .startCheck) ∧
    (∃ s c, waits s c ∧ s.bsq.state = .lockout) :=
  ⟨⟨refused (burning.inState .safetyTime) ⟨false, true, false⟩, ⟨false, true, false⟩, by decide⟩,
   ⟨refused (burning.inState .interPurge) ⟨false, false, true⟩, ⟨false, false, true⟩, by decide⟩,
   ⟨refused (burning.inState .preCheck) ⟨false, true, true⟩, ⟨false, true, true⟩, by decide⟩,
   ⟨refused (burning.inState .ignitionSpeed) ⟨false, true, false⟩, ⟨false, true, false⟩, by decide⟩,
   ⟨refused (ready.inState .ignitionSpeed) ⟨false, true, false⟩, ⟨false, true, false⟩, by decide⟩,
   ⟨refused State.reset ⟨false, true, false⟩, ⟨false, true, false⟩, by decide⟩,
   ⟨refused lockedOut ⟨false, true, false⟩, ⟨false, true, false⟩, by decide⟩⟩
theorem witness_CoilChecksCountToThree_hold :
    let checked := fun (s : State) (valve : GasValve) => s.powered = true ∧ s.locked = false ∧ s.bsq.state ≠ .startCheck
      ∧ s.bsq.state ≠ .lockout ∧ (s.ocu.get (valveChannel valve)).state = .active
      ∧ (s.ocu.get (valveChannel valve)).phase = some .hold
    (∃ s valve current, checked s valve ∧ current = 60 ∧ decide (60 ≤ current ∧ current ≤ 400) = true) ∧
    (∃ s valve current, checked s valve ∧ current = 401 ∧ decide (60 ≤ current ∧ current ≤ 400) = false
      ∧ 2 ≤ (s.ocu.coils.get valve).checks ∧ (s.ocu.coils.get valve).faultFlag = false) :=
  ⟨⟨holding 0, .gv1, 60, by decide⟩, ⟨holding 2, .gv1, 401, by decide⟩⟩
theorem witness_CoilChecksCountToThree_idle :
    ∃ (s : State) (valve : GasValve) (current : Nat), s.powered = true ∧ s.locked = false ∧ s.bsq.state ≠ .startCheck
      ∧ s.bsq.state ≠ .lockout ∧ (s.ocu.get (valveChannel valve)).state ∈ [.idle, ChannelState.tripped] ∧ current = 10
      ∧ decide (current < 10) = false ∧ 2 ≤ (s.ocu.coils.get valve).checks ∧ (s.ocu.coils.get valve).faultFlag = false :=
  ⟨{ ready with ocu := { ready.ocu with coils := { ready.ocu.coils with gv2 := { CoilRecord.fresh with checks := 2 } } } },
    .gv2, 10, by decide⟩
theorem witness_CoilChecksCountToThree_states :
    let third := fun (s : State) => s.powered = true ∧ s.ocu.gv2.state ∈ [.idle, ChannelState.tripped]
      ∧ s.ocu.coils.gv2.checks = 2 ∧ s.ocu.coils.gv2.faultFlag = false
    (∃ s, third s ∧ s.bsq.state = .startCheck ∧ .f07 ∉ s.bsq.pendingCauses) ∧
    (∃ s, third s ∧ s.bsq.state = .lockout ∧ s.locked = true ∧ s.isActive .f07 = true) ∧
    (∃ s, third s ∧ s.bsq.state = .lockout ∧ s.locked = true ∧ s.isActive .f07 = false ∧ s.flt.ringBuilt = true
      ∧ newestSlot (fun r => r.raises .f07) s.flt.ring = none) :=
  ⟨⟨live State.reset, by decide⟩, ⟨live (after (.coilCheckIdle .gv2 10) (live ready)), by decide⟩, ⟨live lockedOut, by decide⟩⟩
theorem witness_ReceptionFillsTheFifo_broken :
    ∃ (s : State) (n : RoomSlot) (left : Nat), s.powered = true ∧ s.rlc.exchange = .window n left ∧ s.rlc.receiving = none
      ∧ s.rlc.offTimer = none ∧ s.rlc.broken = true :=
  ⟨{ ready with rlc := { ready.rlc with exchange := .window .slot1 9, broken := true } }, .slot1, 9, by decide⟩
theorem witness_ReceptionFillsTheFifo_5a :
    ∃ (s : State) (n : RoomSlot), s.powered = true ∧ s.rlc.receiving = some n ∧ s.rlc.fifo.length = 32 :=
  ⟨{ ready with rlc := { ready.rlc with receiving := some .slot1, fifo := List.replicate 32 0 } }, .slot1, by decide⟩
theorem witness_FramesAreTakenOrCounted_2a :
    ∃ (s : State) (bytes rest : List Byte) (b : Byte), s.powered = true ∧ bytes = b :: rest ∧ b ≠ 1 ∧ b ≠ 2 :=
  ⟨ready, [3], [], 3, by decide⟩
theorem witness_FramesAreTakenOrCounted_2b :
    ∃ (s : State) (bytes : List Byte), s.powered = true ∧ bytes.length = 2081 :=
  ⟨ready, List.replicate 2081 0, by decide, List.length_replicate⟩
theorem witness_FramesAreTakenOrCounted_3a :
    ∃ (s : State) (commands : List Byte) (check : Byte), s.powered = true ∧ 1 ≤ commands.length ∧ commands.length ≤ 255
      ∧ s.prt.receiver = .idle ∧ ([0xC3, BitVec.ofNat 8 commands.length] ++ commands ++ [check]).foldl (· + ·) 0 = 0
      ∧ s.prt.serviceState = .free :=
  ⟨ready, [0], 0x3C, by decide⟩
theorem witness_FramesAreTakenOrCounted_3b :
    ∃ (s : State) (commands : List Byte) (check : Byte), s.powered = true ∧ 1 ≤ commands.length ∧ commands.length ≤ 255
      ∧ s.prt.receiver = .discarding ∧ ([0xC3, BitVec.ofNat 8 commands.length] ++ commands ++ [check]).foldl (· + ·) 0 = 0
      ∧ s.prt.serviceState ≠ .free :=
  ⟨{ ready with prt := { ready.prt with serviceState := .processing, receiver := .discarding } }, [0x20, 0x01], 0x1A, by decide⟩
theorem witness_FramesAreTakenOrCounted_3c :
    ∃ (s : State) (commands : List Byte) (check : Byte), s.powered = true ∧ 1 ≤ commands.length ∧ commands.length ≤ 255
      ∧ s.prt.receiver = .idle ∧ ([0xC3, BitVec.ofNat 8 commands.length] ++ commands ++ [check]).foldl (· + ·) 0 ≠ 0 :=
  ⟨ready, [0], 0x3B, by decide⟩
theorem witness_FramesAreTakenOrCounted_4 :
    (∃ (s : State) (rest : List Byte), s.powered = true ∧ s.prt.receiver = .idle ∧ 0xC3 ∉ rest) ∧
    (∃ (s : State) (len : Byte) (rest : List Byte), s.powered = true ∧ s.prt.receiver = .idle ∧ len ≠ 0
      ∧ rest.length = len.toNat) ∧
    (∃ s : State, s.powered = true ∧ s.prt.receiver ≠ .idle) ∧
    (∃ s : State, s.powered = true ∧ s.prt.receiver = .discarding) :=
  ⟨⟨ready, [7], by decide⟩, ⟨ready, 2, [0, 0], by decide⟩, ⟨receiving ready, by decide⟩,
   ⟨{ ready with prt := { ready.prt with receiver := .discarding } }, by decide⟩⟩

/-! ### The clauses on start-up, the history, the tap detector, the trips, the writes in flight and the ports -/

theorem witness_HeatPlanFollowsTheTable_2 :
    ∃ (c : Instr) (s t : State) (src : Source) (e : Entry), s.powered = true ∧ c ≠ .supplyFailure ∧ c ≠ .softResetEffect
      ∧ exec c s = .next t ∧ src ∈ chSources ∧ t.dta.table.get src = some e :=
  ⟨.tapStop, burning, after .tapStop burning, .room .slot1, room1, by decide, by decide, by decide, rfl, by decide, by decide⟩
theorem witness_StartupReadsLeadToIdleOrF09_open :
    ∃ (s : State) (i : Nat) (x : Stored (Option HistoryRecord)) (r : HistoryRecord), s.powered = true
      ∧ s.sto.startup.isSome = true ∧ s.bsq.state = .startCheck ∧ s.flt.early = [] ∧ s.sto.nv.history[i]? = some x
      ∧ handedSlot x = some r ∧ r.kind = .raised ∧ keyClass r.key ≠ .locking ∧ r.clearedStamp = none :=
  ⟨{ State.reset with sto := { State.reset.sto with nv := { State.reset.sto.nv with
      history := State.reset.sto.nv.history.set 31 (Stored.seal historySlotWords (some (openRecord .b07 1))) } } },
    31, Stored.seal historySlotWords (some (openRecord .b07 1)), openRecord .b07 1, by decide +kernel⟩
theorem witness_StartupReadsLeadToIdleOrF09_settings :
    ∃ s : State, s.powered = true ∧ s.sto.startup.isSome = true ∧ s.bsq.state = .startCheck ∧ s.sto.nv.settingsGood = false
      ∧ s.isActive .a09 = false ∧ s.flt.ringBuilt = false ∧ s.flt.early = [] ∧ s.bsq.pendingCauses = []
      ∧ s.sto.nv.history.length = 32 ∧ s.sto.nv.records.length ≤ 28 ∧ s.flt.lockout = none :=
  ⟨badSettings, by decide +kernel⟩
theorem damaged_bad {α : Type} (words : α → List Word) (c : α) : (Stored.damaged words c).crcGood words = false := by
  have h : ~~~crc16 (words c) ≠ crc16 (words c) := fun h => by simpa using congrArg (·.getLsbD 0) h
  simp [Stored.crcGood, Stored.damaged, h]
theorem witness_StartupReadsLeadToIdleOrF09_blocks :
    let reads := fun (s : State) => s.powered = true ∧ s.sto.startup.isSome = true ∧ s.bsq.state = .startCheck
    (∃ s, reads s ∧ s.sto.reloadTrim = true ∧ s.sto.nv.trimGood = false) ∧
    (∃ s, reads s ∧ s.sto.reloadTrim = false) ∧
    (∃ s, reads s ∧ s.sto.nv.countersGood = false) ∧
    (∃ s, reads s ∧ s.sto.nv.countersGood = true ∧ s.sto.nv.counters.contents.minutes < s.sto.nv.latestStamp) :=
  ⟨⟨{ State.reset with sto := { State.reset.sto with nv := { State.reset.sto.nv with
      trim := Stored.damaged trimWords Trim.fallback } } }, by decide, by decide,
    by rw [Nv.trimGood, damaged_bad]; rfl⟩,
   ⟨{ State.reset with sto := { State.reset.sto with reloadTrim := false } }, by decide +kernel⟩,
   ⟨{ State.reset with sto := { State.reset.sto with nv := { State.reset.sto.nv with
      counters := Stored.damaged counterWords ⟨9, 9, 9⟩ } } }, by decide +kernel⟩,
   ⟨restoring (Stored.seal lockoutBlockWords ⟨some ⟨.f05, .running, 2, 9⟩, 3, 7⟩), by decide +kernel⟩⟩
theorem witness_StartupReadsLeadToIdleOrF09_lockout :
    let reads := fun (s : State) => s.powered = true ∧ s.sto.startup.isSome = true ∧ s.bsq.state = .startCheck
      ∧ s.locked = false ∧ s.sto.nv.combustionGood = true ∧ s.bsq.gasOpened = false ∧ s.bsq.pendingCauses = []
      ∧ s.ocu.lines.limit = false ∧ s.sto.nv.settingsGood = true ∧ s.flt.early = []
    (∃ (s : State) (l : Lockout), reads s ∧ s.sto.nv.lockoutGood = true ∧ s.sto.nv.lockout.contents.lockout = some l) ∧
    (∃ s : State, reads s ∧ s.sto.nv.lockoutGood = false ∧ s.isActive .f08 = false ∧ s.sto.nv.history.length = 32) :=
  ⟨⟨restoring (Stored.seal lockoutBlockWords ⟨some ⟨.f05, .running, 2, 9⟩, 3, 7⟩), ⟨.f05, .running, 2, 9⟩, by decide +kernel⟩,
   ⟨restoring (Stored.damaged lockoutBlockWords ⟨none, 0, 0⟩), by decide +kernel⟩⟩
theorem witness_StartupReadsLeadToIdleOrF09_pending :
    ∃ (s : State) (c d : PendingCause) (rest : List PendingCause), s.powered = true ∧ s.sto.startup.isSome = true
      ∧ s.bsq.state = .startCheck ∧ s.locked = false ∧ s.sto.nv.combustionGood = true ∧ s.sto.nv.lockoutGood = true
      ∧ s.sto.nv.lockout.contents.lockout = none
      ∧ (if s.ocu.lines.limit = true ∧ .f04 ∉ s.bsq.pendingCauses then s.bsq.pendingCauses ++ [.f04]
          else s.bsq.pendingCauses) = c :: rest
      ∧ rest = [d] ∧ d ≠ c ∧ s.isActive d.key = false ∧ s.flt.early = [] ∧ s.bsq.gasOpened = false
      ∧ s.sto.nv.history.length = 32 ∧ ∀ r ∈ s.sto.nv.records, r.key ≠ d.key :=
  ⟨pendingTwo, .f07, .f04, [.f04], by decide +kernel⟩
theorem witness_RaisesAreWrittenToTheHistory_full :
    ∃ (s : State) (k : FaultKey) (i : Nat) (x : HistorySlot) (r : HistoryRecord), s.isActive k = false ∧ s.flt.ringBuilt = true
      ∧ s.flt.lastCreation < 4294967295 ∧ (∀ y ∈ s.flt.ring, ∃ q, y.record = some q ∧ (q.kind = .raised → q.key ≠ k))
      ∧ s.flt.ring[i]? = some x ∧ x.record = some r
      ∧ ∀ j y q, s.flt.ring[j]? = some y → y.record = some q → j ≠ i → r.number < q.number :=
  ⟨fullRing, .b08, 0, ⟨some { clearedRecord with number := 1 }, some 7⟩, { clearedRecord with number := 1 }, by decide, by decide,
    by decide, fun y hy => by
      obtain ⟨i, -, rfl⟩ := List.mem_map.1 hy
      exact ⟨_, rfl, fun _ h => nomatch h⟩,
    by decide, by decide, fun j y q hy hq hj => by
      simp only [fullRing, List.getElem?_map, Option.map_eq_some_iff] at hy
      obtain ⟨i, hi, rfl⟩ := hy
      obtain ⟨_, rfl⟩ := List.getElem?_eq_some_iff.1 hi
      cases hq
      simp only [List.getElem_range]
      omega⟩
theorem witness_RaisesAreWrittenToTheHistory_clear :
    (∃ (s : State) (k : FaultKey) (i : Nat) (r : HistoryRecord), s.isActive k = true ∧ s.flt.ringBuilt = true
      ∧ newestSlot (fun r => r.raises k && r.clearedStamp.isNone) s.flt.ring = some (i, r)) ∧
    (∃ (s : State) (k : FaultKey), s.isActive k = true ∧ s.flt.ringBuilt = true
      ∧ newestSlot (fun r => r.raises k && r.clearedStamp.isNone) s.flt.ring = none) ∧
    (∃ (s : State) (l : Lockout) (i : Nat) (r : HistoryRecord), s.flt.lockout = some l ∧ l.cause ≠ .f09
      ∧ s.isActive l.cause = true ∧ s.isActive .f09 = false ∧ s.flt.ringBuilt = true
      ∧ newestSlot (fun r => r.raises l.cause && r.clearedStamp.isNone) s.flt.ring = some (i, r)
      ∧ newestSlot (fun r => r.raises .f09) s.flt.ring = none ∧ ∃ x ∈ s.flt.ring, x.record = none) :=
  ⟨⟨{ ready.recorded (openRecord .b07 5) with flt := { (ready.recorded (openRecord .b07 5)).flt with active := [.b07] } }, .b07, 0,
    openRecord .b07 5, by decide⟩,
   ⟨{ ready with flt := { ready.flt with active := [.b07] } }, .b07, by decide⟩,
   ⟨lockedOut.recorded (openRecord .f02 5), ⟨.f02, .running, 0, 0⟩, 0, openRecord .f02 5, by decide⟩⟩
theorem witness_GateEndTakesThePulses_tap :
    let meets := fun (s : State) (asks : Bool) => s.powered = true ∧ s.sto.settings.dhwEnable = true
      ∧ s.isActive .b11 = false ∧ s.dta.asks .tap = asks
    let flow := fun (s : State) (turbine : List Bool) => (after (.pulseGateEnd turbine []) s).mfe.tapFlow
    (∃ s turbine, meets s false ∧ 200 ≤ flow s turbine ∧ s.dta.startRun = 1) ∧
    (∃ s turbine, meets s false ∧ 200 ≤ flow s turbine ∧ s.dta.startRun = 0) ∧
    (∃ s turbine, meets s false ∧ flow s turbine < 200) ∧
    (∃ s turbine, meets s true ∧ flow s turbine < 150 ∧ s.dta.stopRun = 3) ∧
    (∃ s turbine, meets s true ∧ flow s turbine < 150 ∧ s.dta.stopRun = 2) ∧
    (∃ s turbine, meets s true ∧ 150 ≤ flow s turbine) ∧
    (∃ s : State, s.powered = true ∧ s.isActive .b11 = true ∧ s.dta.asks .tap = true) :=
  ⟨⟨detecting false 1 0, edges 20, by decide +kernel⟩, ⟨detecting false 0 2, edges 20, by decide +kernel⟩,
   ⟨detecting false 1 0, [], by decide +kernel⟩, ⟨detecting true 0 3, [], by decide +kernel⟩,
   ⟨detecting true 0 2, [], by decide +kernel⟩, ⟨detecting true 0 3, edges 20, by decide +kernel⟩,
   ⟨{ detecting true 0 0 with flt := { ready.flt with active := [.b11] } }, by decide⟩⟩
theorem witness_GateEndTakesThePulses_band :
    (∃ s : State, s.powered = true ∧ s.bsq.state = .running ∧ s.fre.served = .ch) ∧
    (∃ s : State, s.powered = true ∧ s.bsq.state = .stabilise ∧ s.fre.served = .dhw) ∧
    (∃ v : State, v.bsq.state = .prePurge ∧ ((v.mfe.fanSpeed : Int) - v.bsq.fanTarget).natAbs = v.sto.table.fanBand) ∧
    (∃ v : State, v.bsq.state = .running ∧ ((v.mfe.fanSpeed : Int) - v.bsq.fanTarget).natAbs = v.sto.table.fanBand + 1) ∧
    (∃ v : State, v.bsq.state = .postPurge) :=
  ⟨⟨burning, by decide⟩, ⟨drawing.inState .stabilise, by decide⟩,
   ⟨cold (burning.inState .prePurge) 150 0 ⟨true, true⟩, by decide⟩, ⟨cold burning 151 0 ⟨true, true⟩, by decide⟩,
   ⟨burning.inState .postPurge, by decide⟩⟩
theorem witness_ChComputationFormsTheRate_gate :
    let gate := fun (s : State) (turbine : List Bool) =>
      ((({ s with mfe := s.mfe.endGate turbine [] s.sto.trim.turbineK } : State).judgeA08 false).judgeTap).settle
    (∃ (s : State) (turbine : List Bool), s.powered = true ∧ s.bsq.state = .running ∧ s.fre.served = .dhw
      ∧ (overRange (s.mfe.turbineCount turbine) || overRange (s.mfe.tachoCount [])) = false
      ∧ (gate s turbine).bsq.state = .running ∧ (gate s turbine).fre.served = .dhw) ∧
    (∃ (s : State) (turbine : List Bool), s.powered = true ∧ s.bsq.state = .running ∧ s.fre.served = .dhw
      ∧ (overRange (s.mfe.turbineCount turbine) || overRange (s.mfe.tachoCount [])) = false
      ∧ (gate s turbine).fre.served ≠ .dhw) :=
  ⟨⟨drawing, edges 15, by decide +kernel⟩,
   ⟨{ drawing with
      mfe := { drawing.mfe with turbineGates := [0, 0, 0, 0] }, dta := { drawing.dta with stopRun := 3 } }, [], by decide +kernel⟩⟩
theorem witness_TimedStatesLeadOn_service :
    ∃ s : State, s.powered = true ∧ s.bsq.state = .stabilise ∧ s.dta.plan.mode = .service :=
  ⟨{ burning.inState .stabilise with dta := { burning.dta with plan := { burning.dta.plan with mode := .service } } }, by decide⟩
theorem witness_FailedAttemptPurgesOrLocksOut_tripped :
    let causesOf := fun (s : State) (causes : TripSet) =>
      s.ocu.gv1.state = .tripped ∧ s.ocu.gv2.state ≠ .tripped ∧ causes = s.ocu.gv1.tripCauses
        ∨ s.ocu.gv1.state = .tripped ∧ s.ocu.gv2.state = .tripped
          ∧ causes = s.ocu.gv1.tripCauses.union s.ocu.gv2.tripCauses
    (∃ s causes, s.powered = true ∧ s.locked = false ∧ causesOf s causes ∧ s.bsq.state = .safetyTime ∧ causes.limit = true) ∧
    (∃ s causes, s.powered = true ∧ s.locked = false ∧ causesOf s causes ∧ s.bsq.state = .stabilise ∧ s.mfe.flameOn = true
      ∧ causes.limit = false) :=
  ⟨⟨halfTripped (burning.inState .safetyTime), ⟨true, false, false⟩, by decide⟩,
   ⟨tripped2 (burning.inState .stabilise), ⟨false, true, false⟩, by decide⟩⟩
theorem witness_FlameLossInRunningIsRecycledOnce_tripped :
    let lost := fun (s : State) => s.powered = true ∧ s.locked = false ∧ s.bsq.state = .running ∧ s.mfe.flameOn = true
    (∃ s causes, lost s ∧ s.ocu.gv1.state = .tripped ∧ s.ocu.gv2.state ≠ .tripped ∧ causes = s.ocu.gv1.tripCauses
      ∧ causes.limit = true) ∧
    (∃ s causes, lost s ∧ s.ocu.gv1.state = .tripped ∧ s.ocu.gv2.state = .tripped
      ∧ causes = s.ocu.gv1.tripCauses.union s.ocu.gv2.tripCauses ∧ causes.limit = false) :=
  ⟨⟨halfTripped burning, ⟨true, false, false⟩, by decide⟩, ⟨tripped2 burning, ⟨false, true, false⟩, by decide⟩⟩
theorem witness_TripLinesActOnTheThreeChannels_coils :
    (∃ s : State, s.powered = true ∧ s.ocu.lines.get .limit = false ∧ s.ocu.gv1.state = .active) ∧
    (∃ s : State, s.powered = true ∧ s.ocu.lines.get .cond = false ∧ s.ocu.gv1.state ≠ .active
      ∧ s.bsq.state = .preCheck ∧ s.ocu.spark.rearmPending = true) :=
  ⟨⟨holding 0, by decide⟩, ⟨rearming, by decide⟩⟩
theorem witness_CountersDecayAndAreWritten_flight :
    (∃ s t : State, WriterLaw s ∧ s.sto.inFlight.isSome = true ∧ step s = .next t) ∧
    (∃ (s : State) (w : Write), s.powered = true ∧ s.sto.inFlight = some w ∧ w.image = .counters s.sto.counters
      ∧ s.bsq.state = .running ∧ s.sto.counters.burnerMinutes < 4294967295 ∧ s.sto.counters.minutes < 4294967294) ∧
    (∃ (s : State) (w : Write), s.powered = true ∧ s.sto.inFlight = some w ∧ w.image = .counters s.sto.counters
      ∧ s.bsq.state = .safetyTime ∧ s.mfe.flameOn = false ∧ s.sto.counters.burnerStarts < 4294967295) :=
  ⟨⟨{ ready.writingCounters with pending := [.tapStop] }, after .tapStop ready.writingCounters,
     by unfold WriterLaw; decide, by decide, rfl⟩,
   ⟨burning.writingCounters, ⟨.counters burning.sto.counters, 5⟩, by decide⟩,
   ⟨(cold (burning.inState .safetyTime) 0 0 ⟨true, true⟩).writingCounters, ⟨.counters burning.sto.counters, 5⟩, by decide⟩⟩
theorem witness_ValidReportBindsTheSlot_closing :
    (∃ (s : State) (n : RoomSlot) (rep : Report), s.powered = true ∧ s.rlc.exchange = .closing n ∧ s.rlc.receiving = some n
      ∧ s.rlc.dropped = false ∧ readReport n s.rlc.fifo = some rep ∧ rep.reset = false) ∧
    (∃ (s : State) (n : RoomSlot) (rep : Report), s.powered = true ∧ s.rlc.exchange = .closing n ∧ s.rlc.receiving = some n
      ∧ s.rlc.dropped = false ∧ readReport n s.rlc.fifo = some rep ∧ rep.reset = true ∧ (s.rlc.slots.get n).lastReset = false) ∧
    (∃ (s : State) (n : RoomSlot), s.powered = true ∧ s.rlc.exchange = .closing n ∧ s.rlc.receiving = some n
      ∧ s.rlc.dropped = false ∧ readReport n s.rlc.fifo = none) :=
  ⟨⟨closing report3, .slot3, ⟨true, 200, 185, 0, false⟩, by decide⟩, ⟨closing resetReport3, .slot3, ⟨true, 200, 185, 0, true⟩, by decide⟩,
   ⟨closing (report3.drop 1), .slot3, by decide⟩⟩
theorem witness_FramesAreTakenOrCounted_softReset :
    (∃ (s : State) (bytes : List Byte) (r : SoftReset) (hold : Nat), s.powered = true ∧ bytes.length ≤ 2080
      ∧ s.prt.replyState ≠ .processing ∧ s.prt.softReset = some r ∧ r.port = .control ∧ r.reply = .ready hold) ∧
    (∃ (s : State) (left : Nat) (r : SoftReset) (hold : Nat), s.powered = true ∧ s.prt.serviceState = .sending left
      ∧ s.prt.softReset = some r ∧ r.port = .service ∧ r.reply = .ready hold) ∧
    (∃ (s : State) (r : SoftReset) (clocked hold : Nat), s.powered = true ∧ s.prt.softReset = some r ∧ r.port = .control
      ∧ s.prt.overrunFlag = false ∧ s.prt.replyState = .ready ∧ 4 + s.prt.reply.length = clocked ∧ r.reply = .ready hold) ∧
    (∃ (s : State) (r : SoftReset) (clocked hold : Nat), s.powered = true ∧ s.prt.softReset = some r ∧ r.port = .control
      ∧ s.prt.overrunFlag = false ∧ s.prt.replyState = .ready ∧ 4 + s.prt.reply.length = clocked ∧ r.reply = .replaced hold) ∧
    (∃ (s : State) (r : SoftReset) (hold : Nat), s.powered = true ∧ s.prt.softReset = some r ∧ r.port = .control
      ∧ r.reply = .replaced hold) :=
  ⟨⟨replying (.ready 100), [0, 1], ⟨.control, .ready 100, []⟩, 100, by decide⟩,
   ⟨{ ready with prt := { ready.prt with serviceState := .sending 0, softReset := some ⟨.service, .ready 100, []⟩ } }, 0,
    ⟨.service, .ready 100, []⟩, 100, by decide⟩,
   ⟨replying (.ready 9), ⟨.control, .ready 9, []⟩, 6, 9, by decide⟩,
   ⟨replying (.replaced 9), ⟨.control, .replaced 9, []⟩, 6, 9, by decide⟩,
   ⟨replying (.replaced 0), ⟨.control, .replaced 0, []⟩, 0, by decide⟩⟩
theorem witness_FrameEndCommitsTheTable_service :
    ∃ s : State, s.powered = true ∧ s.prt.serviceState = .processing ∧ s.prt.service.frame.todo = []
      ∧ s.prt.service.frame.badTail = false ∧ s.prt.service.frame.combustionWrite = false :=
  ⟨{ ready with prt := { ready.prt with serviceState := .processing } }, by decide⟩
theorem witness_ResetRequestsAreJudged_records :
    ∃ (s : State) (p : Port) (l : Lockout) (r : HistoryRecord), s.powered = true ∧ (s.prt.portRecord p).frame.Takes
      ∧ s.flt.lockout = some l ∧ s.bsq.state ≠ .startCheck ∧ s.flt.resetCounter < 5
      ∧ s.flt.conditions = ⟨false, false, false, false, false⟩ ∧ s.prt.notices.length ≤ 14 ∧ s.flt.ringBuilt = true
      ∧ s.flt.lastCreation < 4294967295 ∧ newestSlot (fun q => q.raises l.cause && q.clearedStamp.isNone) s.flt.ring = some (0, r)
      ∧ s.flt.ring.any (fun x => x.record.any fun r => r.duringLockout && r.clearedStamp.isNone) = true :=
  ⟨recordedLockout, .service, ⟨.f02, .running, 0, 0⟩, openRecord .f02 1, by unfold Frame.Takes; decide⟩
theorem witness_DemandsSettingsAndTestsAreTaken_more :
    (∃ (s : State) (p : Port) (rate : Word), s.powered = true ∧ (s.prt.portRecord p).frame.Takes ∧ s.locked = false
      ∧ s.dta.table.service = none ∧ clampInt s.sto.table.rmin s.sto.table.dhwMax rate.toNat = rate.toNat) ∧
    (∃ (s : State) (p : Port) (rate : Word), s.powered = true ∧ (s.prt.portRecord p).frame.Takes ∧ s.locked = false
      ∧ s.dta.table.service = none ∧ clampInt s.sto.table.rmin s.sto.table.dhwMax rate.toNat ≠ rate.toNat) ∧
    (∃ s : State, s.powered = true ∧ s.prt.service.frame.Takes ∧ s.ocu.test.timer.isSome = true
      ∧ .diverter ∈ s.ocu.test.listed.map Prod.fst) ∧
    (∃ s : State, s.powered = true ∧ s.prt.service.frame.Takes ∧ s.ocu.test.timer = none) :=
  ⟨⟨ready, .control, 1000, by unfold Frame.Takes; decide⟩, ⟨ready, .service, 1001, by unfold Frame.Takes; decide⟩,
   ⟨testing, by unfold Frame.Takes; decide⟩, ⟨ready, by unfold Frame.Takes; decide⟩⟩

/-! ### The laws of a run hold in states with something in them -/

theorem witness_GasAndSparkOnlyInTheirStates : ∃ s t : State, BurnerLaw s ∧ step s = .next t :=
  ⟨{ burning with pending := [.tapStop] }, after .tapStop burning, by constructor <;> decide, rfl⟩
theorem witness_ActiveLineKeepsGasTripped : ∃ s t : State, TripLaw s ∧ s.ocu.lines.nonempty = true ∧ step s = .next t :=
  ⟨{ after (.tripLineActive .cond 20) ready with pending := [.tapStop] }, after .tapStop (after (.tripLineActive .cond 20) ready),
    by unfold TripLaw; decide, by decide, rfl⟩
theorem witness_LockoutAndActiveSetAgree_0 : ∃ s t : State, LockoutLaw s ∧ s.locked = true ∧ step s = .next t :=
  ⟨{ lockedOut with pending := [.tapStop] }, after .tapStop lockedOut, by constructor <;> decide, by decide, rfl⟩
theorem witness_LockoutAndActiveSetAgree_1 : ∃ s t : State, ActiveLaw s ∧ s.flt.active = [.f02] ∧ step s = .next t :=
  ⟨{ lockedOut with pending := [.tapStop] }, after .tapStop lockedOut,
    ⟨by decide, by decide, fun l h => by cases h; decide⟩, by decide, rfl⟩
theorem witness_NoRateOutsideRunning : ∃ s t : State, RateLaw s ∧ s.bsq.state ≠ .running ∧ step s = .next t :=
  ⟨{ ready with pending := [.tapStop] }, after .tapStop ready, by unfold RateLaw; decide, by decide, rfl⟩
theorem witness_NoRateOutsideRunning_1 :
    ∃ s t : State, (TableLaw s ∧ RateBoundLaw s) ∧ s.bsq.state = .running ∧ step s = .next t :=
  ⟨{ capped with pending := [.tapStop] }, after .tapStop capped,
    ⟨by constructor <;> decide +kernel, by constructor <;> decide +kernel⟩, by decide, rfl⟩
theorem witness_HeatPlanFollowsTheTable : ∃ s t : State, PlanLaw s ∧ s.dta.plan.mode = .dhw ∧ step s = .next t :=
  ⟨{ after .tapStart burning with pending := [.tapStop] }, after .tapStop (after .tapStart burning),
    by constructor <;> decide, by decide, rfl⟩
theorem witness_HeatPlanFollowsTheTable_1 : ∃ s t : State,
    (s.sto.settings.inRange = true ∧ RequestLaw s ∧ PumpLaw s) ∧ s.dta.plan.request = true ∧ step s = .next t :=
  ⟨{ after .tapStop burning with pending := [.tapStop] }, after .tapStop (after .tapStop burning),
    ⟨by decide,
     ⟨fun f x _ hf hx h => by
        cases hf; cases hx; exact absurd h (by decide),
      fun _ _ _ _ _ _ _ _ => by decide⟩,
     by constructor <;> decide⟩, by decide, rfl⟩
theorem witness_OutputsCarryOwnerCommands : ∃ s t : State, OwnerLaw s ∧ s.dta.divState.energised = true ∧ step s = .next t :=
  ⟨{ after .tapStart burning with pending := [.tapStop] }, after .tapStop (after .tapStart burning),
    ⟨by decide, by decide, by constructor <;> decide, by constructor <;> decide, by constructor <;> decide⟩, by decide, rfl⟩
theorem witness_AlarmFollowsTheLockout : ∃ s t : State, AlarmLaw s ∧ s.locked = true ∧ step s = .next t :=
  ⟨{ after .tapStop lockedOut with pending := [.tapStop] }, after .tapStop (after .tapStop lockedOut),
    by constructor <;> decide, by decide, rfl⟩
theorem witness_AttnFollowsTheNotices : ∃ s t : State, AttnLaw s ∧ s.prt.attn = true ∧ step s = .next t :=
  ⟨{ after (.loopShort 61 5) ready with pending := [.tapStop] }, after .tapStop (after (.loopShort 61 5) ready),
    by unfold AttnLaw; decide, by decide, rfl⟩
theorem witness_RecordsStaySoundAndInSize_0 : ∃ s t : State, MeasureLaw s ∧ s.flow = some 570 ∧ step s = .next t :=
  ⟨{ burning with pending := [.tapStop] }, after .tapStop burning,
    ⟨fun ch => by cases ch <;> constructor <;> decide, by decide, by decide, by decide⟩, by decide, rfl⟩
theorem witness_RecordsStaySoundAndInSize_1 : ∃ s t : State, SizeLaw s ∧ CounterLaw s ∧ step s = .next t :=
  ⟨{ burning with pending := [.tapStop] }, after .tapStop burning,
    by constructor <;> decide, ⟨by constructor <;> decide, by constructor <;> decide⟩, rfl⟩
theorem witness_RecordsStaySoundAndInSize_2 : ∃ s t : State, EntryLaw s ∧ s.dta.table.room.slot3.isSome = true ∧ step s = .next t :=
  ⟨{ occupied with pending := [.tapStop] }, after .tapStop occupied,
    ⟨by decide, fun n e h => by cases n <;> cases h; decide⟩, by decide, rfl⟩
theorem witness_RecordsStaySoundAndInSize_3 : ∃ s t : State, StagedLaw s ∧ s.prt.staged.isSome = true ∧ step s = .next t :=
  ⟨{ staging with pending := [.tapStop] }, after .tapStop staging, by unfold StagedLaw; decide, by decide, rfl⟩
end

/-! SUPPORT. Flow over-temperature (R10): what each stage of a conversion cycle leaves of the temperatures and of one fault
key, and from it the hysteresis of b05. -/

namespace Sys2Proof.Machine

/-! ### Stages that leave the channels and one fault key as they were -/

/-- Neither the channel records nor the presence of one key in the active fault set differs between two states. -/
structure KeepsKey (k : FaultKey) (s t : State) : Prop where
  ntc : t.mfe.ntc = s.mfe.ntc
  active : t.isActive k = s.isActive k

theorem KeepsKey.refl (k : FaultKey) (s : State) : KeepsKey k s s := ⟨rfl, rfl⟩

theorem KeepsKey.trans {k : FaultKey} {s t u : State} (h : KeepsKey k s t) (g : KeepsKey k t u) : KeepsKey k s u :=
  ⟨g.ntc.trans h.ntc, g.active.trans h.active⟩

theorem KeepsKey.ite {k : FaultKey} {c : Prop} [Decidable c] {s t u : State} (h : KeepsKey k s t) (g : KeepsKey k s u) :
    KeepsKey k s (if c then t else u) := by split <;> assumption

theorem KeepsKey.flow {k : FaultKey} {s t : State} (h : KeepsKey k s t) : t.flow = s.flow := by
  unfold State.flow; rw [h.ntc]

/-- A write of the measurement front end's record that is not one of its channels. -/
theorem mfe_keepsKey (s : State) (x : Mfe) (h : x.ntc = s.mfe.ntc) (k : FaultKey) : KeepsKey k s { s with mfe := x } :=
  ⟨h, rfl⟩

/-- The end of an event keeps every temperature. -/
theorem EndsFrom.ntc {s t : State} (h : EndsFrom s t) : t.mfe.ntc = s.mfe.ntc := by rw [h.mfe]

theorem EndsFrom.keepsKey {s t : State} (h : EndsFrom s t) (k : FaultKey) : KeepsKey k s t :=
  ⟨h.ntc, isActive_of_active (by rw [h.flt]) k⟩

theorem Touches.keepsKey {l : List Block} {s t : State} (h : Touches l s t) (mfe : .mfe ∉ l) (flt : .flt ∉ l)
    (k : FaultKey) : KeepsKey k s t :=
  ⟨by rw [h.mfe mfe], h.isActive flt k⟩

theorem KeepsKey.inTurn {k : FaultKey} {s : State} {f : State → State} (h : KeepsKey k s (f s)) :
    KeepsKey k s (s.inTurn f) := h.trans ((inTurn_endsFrom s f).keepsKey k)

section
variable {k j : FaultKey}

theorem enterKey_keepsKey (s : State) (h : k ≠ j) : KeepsKey k s (s.enterKey j) :=
  ⟨by rw [(enterKey_touches s j).mfe (by decide)], by simp [h]⟩

theorem follow_keepsKey (s : State) (present : Bool) (h : k ≠ j) : KeepsKey k s (s.follow j present) :=
  ⟨by rw [(follow_touches s j present).mfe (by decide)], by rw [follow_isActive, if_neg h]⟩

theorem followInTurn_keepsKey (s : State) (present : Bool) (h : k ≠ j) :
    KeepsKey k s (s.inTurn (·.follow j present)) := (follow_keepsKey s present h).inTurn

/-! ### A locking fault leaves every other key -/

theorem beginLockout_keepsKey (s : State) (h : k ≠ j) : KeepsKey k s (s.beginLockout j) := by
  refine ⟨by rw [(beginLockout_touches s j).mfe (by decide)], ?_⟩
  unfold State.beginLockout
  rw [(endTest_touches _ _).isActive (by decide)]
  exact (enterKey_keepsKey _ h).active

theorem raiseLocking_keepsKey (s : State) (h : k ≠ j) : KeepsKey k s (s.raiseLocking j) := by
  have record : KeepsKey k s (s.recordRaise j true) :=
    ⟨by rw [(recordRaise_touches s j true).mfe (by decide)], isActive_of_active (recordRaise_active s j true) k⟩
  exact .ite (.ite (.refl k s) record) (beginLockout_keepsKey s h)

theorem gotoLockout_keepsKey (s : State) (k : FaultKey) : KeepsKey k s s.gotoLockout :=
  .ite (.refl k s) ((goto_endsFrom s .lockout).keepsKey k)

theorem raiseForeign_keepsKey (s : State) (h : k ≠ j) : KeepsKey k s (s.raiseForeign j) := by
  have raised := raiseLocking_keepsKey s h
  exact .ite (raised.trans (gotoLockout_keepsKey _ k)) raised

end

/-! ### The checks of one cycle (R7, R9, R11, R12) and what follows them -/

section
variable {k : FaultKey}

theorem judgeSensors_keepsKey (s : State) (h : k ∉ [.b03, .b04, .b11, .a06, .b10, FaultKey.a01]) :
    KeepsKey k s s.judgeSensors := by
  simp only [List.mem_cons, List.not_mem_nil, or_false, not_or] at h
  obtain ⟨b03, b04, b11, a06, b10, a01⟩ := h
  unfold State.judgeSensors
  exact (((((followInTurn_keepsKey s _ b03).trans (followInTurn_keepsKey _ _ b04)).trans
    (followInTurn_keepsKey _ _ b11)).trans (followInTurn_keepsKey _ _ a06)).trans
    (followInTurn_keepsKey _ _ b10)).trans (followInTurn_keepsKey _ _ a01)

theorem pairExpiry_keepsKey (s : State) (h : k ≠ .f05) : KeepsKey k s s.pairExpiry :=
  (mfe_keepsKey s { s.mfe with pairCount := 0, pairArmed := false } rfl k).trans (raiseForeign_keepsKey _ h)

theorem judgePair_keepsKey (s : State) (h : k ≠ .f05) : KeepsKey k s s.judgePair := by
  unfold State.judgePair
  split
  · exact ⟨rfl, rfl⟩
  · exact ⟨rfl, rfl⟩
  · exact .ite (.ite (pairExpiry_keepsKey s h) ⟨rfl, rfl⟩) (.refl k s)

theorem circulationExpiry_keepsKey (s : State) (h : k ≠ .b09) : KeepsKey k s s.circulationExpiry :=
  (mfe_keepsKey s { s.mfe with circCount := 0, circTimer := some Config.b09Ms } rfl k).trans (enterKey_keepsKey _ h)

theorem judgeCirculation_keepsKey (s : State) (h : k ≠ .b09) : KeepsKey k s s.judgeCirculation := by
  unfold State.judgeCirculation
  split
  · exact .refl k s
  · exact .ite (.ite (circulationExpiry_keepsKey s h) ⟨rfl, rfl⟩) ⟨rfl, rfl⟩

theorem judgeFlue_keepsKey (s : State) (h : k ≠ .f06) : KeepsKey k s s.judgeFlue := by
  unfold State.judgeFlue
  split
  · exact .refl k s
  · have disarmed := mfe_keepsKey s { s.mfe with flueArmed := false } rfl k
    exact .ite (disarmed.trans (raiseForeign_keepsKey _ h)) (.ite ⟨rfl, rfl⟩ (.refl k s))

theorem reportTemperatures_keepsKey (s : State) (k : FaultKey) : KeepsKey k s s.reportTemperatures := ⟨rfl, rfl⟩

theorem judgeFrost_touches (s : State) : Touches [.dta] s s.judgeFrost := by
  unfold State.judgeFrost
  split
  · exact .refl _ s
  · exact touches_dta s _

theorem judgePause_keepsKey (s : State) (k : FaultKey) : KeepsKey k s s.judgePause := ⟨rfl, rfl⟩

/-- What a cycle does once its checks are made: the report of the locking conditions, the frost detector, the DHW pause. -/
theorem afterChecks_keepsKey (s : State) (k : FaultKey) :
    KeepsKey k s s.reportTemperatures.judgeFrost.judgePause :=
  ((reportTemperatures_keepsKey s k).trans ((judgeFrost_touches _).keepsKey (by decide) (by decide) k)).trans
    (judgePause_keepsKey _ k)

end

/-! ### Flow over-temperature (R10) -/

/-- R10: whether b05 is raised after it is judged on a flow value, given whether it was before. -/
def overTemperature (old : Bool) : Option Int → Bool
  | none => old
  | some f => if 950 ≤ f then true else if f ≤ 850 then false else old

theorem judgeOverTemperature_isActive (s : State) :
    s.judgeOverTemperature.isActive .b05 = overTemperature (s.isActive .b05) s.flow := by
  unfold State.judgeOverTemperature
  cases s.flow with
  | none => rfl
  | some f => simp [hysteresis_isActive, overTemperature]

theorem judgeOverTemperature_ntc (s : State) : s.judgeOverTemperature.mfe.ntc = s.mfe.ntc := by
  unfold State.judgeOverTemperature
  split
  · rfl
  · rw [(hysteresis_touches s _ _ _).mfe (by decide)]

/-- Of the checks of one cycle only R10's own judges b05, and none changes a temperature. -/
theorem judgeCycle_overTemperature (s : State) :
    s.judgeCycle.flow = s.flow ∧ s.judgeCycle.isActive .b05 = overTemperature (s.isActive .b05) s.flow := by
  have before : KeepsKey .b05 s (s.judgeSensors.inTurn State.judgePair) :=
    (judgeSensors_keepsKey s (by decide)).trans (judgePair_keepsKey _ (by decide)).inTurn
  unfold State.judgeCycle
  generalize s.judgeSensors.inTurn State.judgePair = u at before ⊢
  have after : KeepsKey .b05 u.judgeOverTemperature
      (((u.inTurn State.judgeOverTemperature).inTurn State.judgeCirculation).inTurn State.judgeFlue) :=
    (((inTurn_endsFrom u _).keepsKey .b05).trans (judgeCirculation_keepsKey _ (by decide)).inTurn).trans
      (judgeFlue_keepsKey _ (by decide)).inTurn
  constructor
  · exact after.flow.trans ((congrArg (·.flowA.value) (judgeOverTemperature_ntc u)).trans before.flow)
  · rw [after.active, judgeOverTemperature_isActive, before.active, before.flow]

/-- The part as the checks of a conversion cycle find it: the channels converted (R1) and the strap read (R6). -/
def State.converted (s : State) (readings : NtcSet Int) (polOut : Nat) : State :=
  { s with mfe := { s.mfe with
      ntc := convertAll s.mfe.ntc readings s.sto.trim.offsets s.sto.settings.outdoorFitted
      strapHigh := if s.sto.settings.outdoorFitted then s.mfe.strapHigh else 500 < polOut } }

/-- A conversion cycle in a powered part: the conversion, the checks, what follows them, and the end of the event. -/
theorem exec_ntcConversionCycle (s : State) (readings : NtcSet Int) (polOut : Nat) (h : s.powered = true) :
    exec (.ntcConversionCycle readings polOut) s =
      .next (s.converted readings polOut).judgeCycle.reportTemperatures.judgeFrost.judgePause.settle :=
  congrArg Host.Outcome.next (s.event_powered h _)

/-- R10 over a whole conversion cycle: b05 is judged on the flow value that the cycle publishes. -/
theorem exec_ntcConversionCycle_overTemperature (s : State) (readings : NtcSet Int) (polOut : Nat) (h : s.powered = true) :
    ∃ t, exec (.ntcConversionCycle readings polOut) s = .next t
      ∧ t.isActive .b05 = overTemperature (s.isActive .b05) t.flow := by
  obtain ⟨flow, active⟩ := judgeCycle_overTemperature (s.converted readings polOut)
  refine ⟨_, exec_ntcConversionCycle s readings polOut h, ?_⟩
  have rest := (afterChecks_keepsKey (s.converted readings polOut).judgeCycle .b05).trans
    ((settle_endsFrom _).keepsKey .b05)
  rw [rest.active, rest.flow, flow, active]
  rfl

/-- R10: after a reset no key is active, so neither is b05. -/
theorem afterReset_isActive (nv : Nv) (trim : Trim) (reload : Bool) (q : List Instr) (k : FaultKey) :
    (State.afterReset nv trim reload q).isActive k = false := rfl

theorem softReset_isActive (s : State) (k : FaultKey) : s.softReset.isActive k = false := rfl

/-- Settles O24, from the hysteresis of b05 over a conversion cycle and the empty active fault set after a reset. -/
theorem flowOverTemperatureHasHysteresis : Obligations.FlowOverTemperatureHasHysteresis := by
  refine ⟨fun s readings polOut h => ?cycle, fun s => ?powerOn, fun s h => ?pin, fun s h due => ?soft⟩
  case cycle =>
    obtain ⟨t, ht, active⟩ := exec_ntcConversionCycle_overTemperature s readings polOut h
    refine ⟨t, ht, fun f hf high => ?_, fun f hf low => ?_, fun f hf above below => ?_, fun hf => ?_⟩
    · rw [active, hf, overTemperature, if_pos high]
    · rw [active, hf, overTemperature, if_neg (by omega), if_pos low]
    · rw [active, hf, overTemperature, if_neg (by omega), if_neg (by omega)]
    · rw [active, hf, overTemperature]
  case powerOn => exact ⟨_, rfl, afterReset_isActive _ _ _ _ _⟩
  case pin => exact ⟨_, congrArg Host.Outcome.next (if_pos h), afterReset_isActive _ _ _ _ _⟩
  case soft =>
    have reset : s.live (fun s => if s.softResetReady then s.softReset else s) = s.softReset := by
      simp [State.live, h, due]
    exact ⟨_, congrArg Host.Outcome.next reset, softReset_isActive s _⟩

end Sys2Proof.Machine

/-! SUPPORT. The expiry of the PRE-CHECK timer (R76): what a change to a state without gas leaves of the burner, what a locking
fault records, and from them the lockout and the fan-proving failure that the expiry leads to. -/

namespace Sys2Proof.Machine

/-! ### The gas and the spark off (R70, R71) -/

/-- The gas is commanded closed and neither gas channel drives its coil. -/
def GasOff (s : State) : Prop := s.bsq.gasOpen = false ∧ s.ocu.gv1.state ≠ .active ∧ s.ocu.gv2.state ≠ .active

/-- The spark is stopped and its channel gives no train. -/
def SparkOff (s : State) : Prop := s.bsq.spark = false ∧ s.ocu.spark.state ≠ .active

theorem Ocu.closeValve_inactive (o : Ocu) (v : GasValve) :
    ((o.closeValve v).get (valveChannel v)).state ≠ .active := by
  unfold Ocu.closeValve
  dsimp only
  split
  · cases v <;> exact nofun
  · rwa [Ocu.get_set]

theorem Ocu.closeValve_get_other (o : Ocu) (v : GasValve) (ch : Channel) (h : ch ≠ valveChannel v) :
    (o.closeValve v).get ch = o.get ch := by
  unfold Ocu.closeValve
  dsimp only
  split
  · cases ch <;> exact Ocu.get_set_other o _ _ _ h
  · exact Ocu.get_set_other o _ _ _ h

@[simp] theorem Ocu.closeValve_test (o : Ocu) (v : GasValve) : (o.closeValve v).test = o.test := by
  unfold Ocu.closeValve
  dsimp only
  split <;> simp

theorem commandGas_gasOff (s : State) : GasOff (s.commandGas false) := by
  have gv1 := Ocu.closeValve_get_other (s.ocu.closeValve .gv1) .gv2 .gv1 nofun
  refine ⟨rfl, ?_, Ocu.closeValve_inactive _ .gv2⟩
  change (((s.ocu.closeValve .gv1).closeValve .gv2).get .gv1).state ≠ .active
  rw [gv1]
  exact Ocu.closeValve_inactive _ .gv1

theorem ChannelRecord.stop_inactive (r : ChannelRecord) : r.stop.state ≠ .active := by
  unfold ChannelRecord.stop
  dsimp only
  split
  · exact nofun
  · assumption

theorem commandSpark_sparkOff (s : State) : SparkOff (s.commandSpark false) := ⟨rfl, ChannelRecord.stop_inactive _⟩

/-- A new fan target moves neither the gas nor the spark, nor the lockout purge. -/
theorem setFanTarget_burner (s : State) (r : Nat) : (s.setFanTarget r).bsq.gasOpen = s.bsq.gasOpen
    ∧ (s.setFanTarget r).bsq.spark = s.bsq.spark ∧ (s.setFanTarget r).bsq.purgeLeft = s.bsq.purgeLeft := by
  unfold State.setFanTarget Bsq.judgeBand
  split <;> exact ⟨rfl, rfl, rfl⟩

theorem setFanTarget_gasOff {s : State} (h : GasOff s) (r : Nat) : GasOff (s.setFanTarget r) :=
  ⟨(setFanTarget_burner s r).1.trans h.1, h.2⟩

theorem setFanTarget_sparkOff {s : State} (h : SparkOff s) (r : Nat) : SparkOff (s.setFanTarget r) :=
  ⟨(setFanTarget_burner s r).2.1.trans h.1, h.2⟩

/-! ### A change to a state without gas -/

theorem goto_state (s : State) (q : SeqState) : (s.goto q).bsq.state = q := by
  unfold State.goto
  rw [State.setFanTarget_state]
  split <;> split <;> rfl

/-- The sequencer has entered `q`, with the gas closed, the spark stopped and the fan target still to come. -/
def State.shutFor (s : State) (q : SeqState) : State :=
  (({ s.leaveFor q with bsq := s.bsq.enter s.sto.table q } : State).commandGas false).commandSpark false

theorem goto_eq_shutFor (s : State) {q : SeqState} (h : q.gasOpen = false) : s.goto q = (s.shutFor q).setFanTarget
    (stateFanTarget s.sto.table (purgeOnEntry s.bsq s.sto.table q) (s.leaveFor q).fre.lastRate q) := by
  have notSafety : q ≠ .safetyTime := by rintro rfl; exact Bool.noConfusion h
  simp only [State.goto, h, notSafety, if_false, Bool.false_eq_true]
  rfl

theorem goto_gasOff (s : State) {q : SeqState} (h : q.gasOpen = false) : GasOff (s.goto q) := by
  have closed : GasOff (s.shutFor q) := commandGas_gasOff _
  exact goto_eq_shutFor s h ▸ setFanTarget_gasOff closed _

theorem goto_sparkOff (s : State) {q : SeqState} (h : q.gasOpen = false) : SparkOff (s.goto q) := by
  have stopped : SparkOff (s.shutFor q) := commandSpark_sparkOff _
  exact goto_eq_shutFor s h ▸ setFanTarget_sparkOff stopped _

theorem goto_test (s : State) {q : SeqState} (h : q.gasOpen = false) : (s.goto q).ocu.test = s.ocu.test := by
  rw [goto_eq_shutFor s h]
  change ((s.ocu.closeValve .gv1).closeValve .gv2).test = s.ocu.test
  simp

theorem goto_purgeLeft (s : State) {q : SeqState} (h : q.gasOpen = false) :
    (s.goto q).bsq.purgeLeft = purgeOnEntry s.bsq s.sto.table q := by
  rw [goto_eq_shutFor s h, (setFanTarget_burner _ _).2.2]
  rfl

/-- R95: the fan runs at the post-purge speed while LOCKOUT is entered with a purge, and stops otherwise. -/
theorem goto_lockout_fanTarget (s : State) : (s.goto .lockout).bsq.fanTarget =
    if (s.goto .lockout).bsq.purgeLeft = 0 then 0 else s.sto.table.postPurgeSpeed.toNat := by
  rw [goto_purgeLeft s rfl, goto_eq_shutFor s rfl, State.setFanTarget_target]
  rfl

/-! ### The dirty set grows with the history -/

theorem subset_markItem (d : List StoreItem) (i : StoreItem) : d ⊆ markItem d i := by
  unfold markItem
  split
  · exact List.Subset.refl d
  · exact List.subset_append_left _ _

theorem recordRaise_dirty (s : State) (k : FaultKey) (b : Bool) :
    s.sto.dirty ⊆ (s.recordRaise k b).sto.dirty := by
  unfold State.recordRaise
  split
  · split
    · split <;> exact subset_markItem _ _
    · exact subset_markItem _ _
  · exact List.Subset.refl _

theorem enterKey_dirty (s : State) (k : FaultKey) : s.sto.dirty ⊆ (s.enterKey k).sto.dirty := by
  unfold State.enterKey
  split
  · exact List.Subset.refl _
  · exact recordRaise_dirty { s with flt := { s.flt with active := addKey s.flt.active k } } k false

/-! ### The end of a running output test (R189) -/

theorem endTest_timer (s : State) (c : TestEnd) : (s.endTest c).ocu.test.timer = none := by
  unfold State.endTest
  split
  · rfl
  · rename_i h
    simpa [Ocu.testing] using h

/-- The homing move of an ended DIVERTER test leaves every demand entry. -/
theorem endTest_table (s : State) (c : TestEnd) : (s.endTest c).dta.table = s.dta.table := by
  unfold State.endTest
  split
  · dsimp only; split <;> rfl
  · rfl

/-! ### A lockout begins (R122) and LOCKOUT is entered (R93, R95) -/

/-- What a locking key records as it begins a lockout, before the sequencer acts on it. -/
structure BeginsLockout (k : FaultKey) (s t : State) : Prop where
  touches : Touches [.flt, .prt, .sto, .dta, .ocu] s t
  lockout : t.flt.lockout = some ⟨k, s.bsq.state, s.bsq.attempts, s.minute⟩
  active : t.isActive k = true
  conditions : t.flt.conditions = s.flt.conditions ∧ t.flt.resetCounter = s.flt.resetCounter ∧ t.flt.decay = s.flt.decay
  service : t.dta.table = { s.dta.table with service := none }
  test : t.ocu.test.timer = none
  lines : t.ocu.lines = s.ocu.lines
  sto : t.sto = { s.sto with dirty := t.sto.dirty }
  dirty : .lockout ∈ t.sto.dirty ∧ .counters ∈ t.sto.dirty

/-- The lockout record with both of its blocks marked, before its key enters the active fault set. -/
def State.recordLockout (s : State) (k : FaultKey) : State :=
  (({ s with flt := { s.flt with lockout := some ⟨k, s.bsq.state, s.bsq.attempts, s.minute⟩ } } : State).markDirty
    .lockout).markDirty .counters

theorem recordLockout_dirty (s : State) (k : FaultKey) :
    .lockout ∈ (s.recordLockout k).sto.dirty ∧ .counters ∈ (s.recordLockout k).sto.dirty :=
  ⟨subset_markItem _ _ (mem_markItem _ _), mem_markItem _ _⟩

/-- R122, R26, R189: the record is followed by its key, and then the SERVICE entry goes and a running test ends. -/
theorem beginLockout_eq (s : State) (k : FaultKey) :
    let m := (s.recordLockout k).enterKey k
    s.beginLockout k =
      State.endTest { m with dta := { m.dta with table := { m.dta.table with service := none } } } .lockout := rfl

theorem beginLockout_begins (s : State) (k : FaultKey) : BeginsLockout k s (s.beginLockout k) := by
  have marked := recordLockout_dirty s k
  have key := enterKey_enters (s.recordLockout k) k
  have grown := enterKey_dirty (s.recordLockout k) k
  have isIn : ((s.recordLockout k).enterKey k).isActive k = true := by simp
  have touches := beginLockout_touches s k
  rw [beginLockout_eq] at touches ⊢
  generalize (s.recordLockout k).enterKey k = m at key grown isIn touches ⊢
  have ended := endTest_touches { m with dta := { m.dta with table := { m.dta.table with service := none } } } .lockout
  have flt := ended.flt (by decide)
  have sto := ended.sto (by decide)
  exact {
    touches := touches
    lockout := by rw [flt, key.flt]; rfl
    active := by rw [ended.isActive (by decide)]; exact isIn
    conditions := by rw [flt, key.flt]; exact ⟨rfl, rfl, rfl⟩
    service := by rw [endTest_table, key.touches.dta (by decide)]; rfl
    test := endTest_timer _ _
    lines := by rw [(endTest_endsFrom _ _).lines, key.touches.ocu (by decide)]; rfl
    sto := by rw [sto, key.sto]; rfl
    dirty := by rw [sto]; exact ⟨grown marked.1, grown marked.2⟩ }

/-- R93, R95: the sequencer leaves its state for LOCKOUT as the lockout has been recorded. -/
theorem BeginsLockout.goto {k : FaultKey} {s m : State} (h : BeginsLockout k s m) : LocksOut k s (m.goto .lockout) := by
  have entered := goto_touches m .lockout
  have ends := goto_endsFrom m .lockout
  have bsq := h.touches.bsq (by decide)
  have flt := entered.flt (by decide)
  have sto := entered.sto (by decide)
  have table : m.sto.table = s.sto.table := by rw [h.sto]
  exact {
    touches := (h.touches.mono (by simp)).trans (entered.mono (by simp))
    lockout := by rw [flt, h.lockout]
    active := by rw [entered.isActive (by decide), h.active]
    conditions := by rw [flt]; exact h.conditions
    state := goto_state m .lockout
    purge := by rw [goto_purgeLeft m rfl, bsq, table]; rfl
    fan := by rw [goto_lockout_fanTarget, table]
    gas := goto_gasOff m rfl
    spark := goto_sparkOff m rfl
    service := by rw [(goto_samePlan m .lockout).table, h.service]
    test := by rw [goto_test m rfl, h.test]
    lines := by rw [ends.lines, h.lines]
    mfe := by rw [← h.touches.mfe (by decide)]; exact ends.mfe
    sto := by rw [sto]; exact h.sto
    dirty := by rw [sto]; exact h.dirty }

/-- R93: a locking cause of the sequencer's own, with no lockout held, in any state but LOCKOUT. -/
theorem lockWith_locksOut (s : State) (k : FaultKey) (free : s.locked = false) (state : s.bsq.state ≠ .lockout) :
    LocksOut k s (s.lockWith k) := by
  have begun := beginLockout_begins s k
  have raised : s.raiseLocking k = s.beginLockout k := if_neg (by simp [free])
  have leaves : (s.beginLockout k).bsq.state ≠ .lockout := by rwa [begun.touches.bsq (by decide)]
  have entered : s.lockWith k = (s.beginLockout k).goto .lockout := by
    rw [State.lockWith, raised, State.gotoLockout, if_neg leaves]
  exact entered ▸ begun.goto

/-! ### A fan-proving failure (R81) -/

/-- The first and the second failure raise b06, start its timer and lead on; a lockout is neither begun nor ended. -/
theorem provingFailure_leads (s : State) (dest : SeqState) (h : s.bsq.provingFailures < 2) :
    (s.provingFailure dest).bsq.state = dest
      ∧ (s.provingFailure dest).bsq.provingFailures = s.bsq.provingFailures + 1
      ∧ (s.provingFailure dest).isActive .b06 = true ∧ (s.provingFailure dest).bsq.b06Timer = some 60000
      ∧ (s.provingFailure dest).locked = s.locked := by
  have below : s.bsq.provingFailures + 1 < 3 := by omega
  simp only [State.provingFailure, below, if_true]
  generalize raised : State.enterKey _ FaultKey.b06 = m
  have key : EntersKey .b06 _ m := raised ▸ enterKey_enters _ .b06
  have isIn : m.isActive .b06 = true := by simp [← raised]
  obtain ⟨failures, timer, -⟩ := (goto_endsFrom { m with bsq := { m.bsq with b06Timer := some Config.b06Ms } } dest).bsq
  refine ⟨goto_state _ _, ?_, ?_, timer, ?_⟩
  · rw [failures, key.touches.bsq (by decide)]
  · rw [(goto_touches _ dest).isActive (by decide)]; exact isIn
  · rw [State.locked, (goto_touches _ dest).flt (by decide), key.flt]; rfl

/-- The third failure locks out with F10. -/
theorem provingFailure_locks (s : State) (dest : SeqState) (h : 2 ≤ s.bsq.provingFailures) :
    s.provingFailure dest =
      State.lockWith { s with bsq := { s.bsq with provingFailures := s.bsq.provingFailures + 1 } } .f10 :=
  if_neg (show ¬ s.bsq.provingFailures + 1 < 3 by omega)

/-! ### The expiry (R76) -/

theorem preCheckExpiry_flame (s : State) (flame : s.mfe.flameOn = true) : s.preCheckExpiry = s.lockWith .f03 := if_pos flame

theorem preCheckExpiry_coil (s : State) (flame : s.mfe.flameOn = false)
    (coil : s.bsq.coilZero.gv1 = false ∨ s.bsq.coilZero.gv2 = false) :
    s.preCheckExpiry = s.lockWith .f07 := by
  simp only [State.preCheckExpiry, flame, Bool.false_eq_true, if_false]
  exact if_pos (by simpa using coil)

theorem preCheckExpiry_noCurrent (s : State) (flame : s.mfe.flameOn = false) (coil : s.bsq.coilZero = ⟨true, true⟩) :
    s.preCheckExpiry = if 300 ≤ s.mfe.fanSpeed then s.provingFailure .idle else s := by
  simp [State.preCheckExpiry, flame, coil]

/-- The expiry in a powered part in PRE-CHECK: the timer is stopped, the first case is taken, and the event ends. -/
theorem exec_preCheckTimerExpiry (s : State) (power : s.powered = true) (state : s.bsq.state = .preCheck) :
    exec .preCheckTimerExpiry s =
      .next (State.preCheckExpiry { s with bsq := { s.bsq with timer := none } }).settle :=
  congrArg Host.Outcome.next ((s.event_powered power _).trans (congrArg State.settle (if_pos state)))

/-- Settles O33, from the cases of R76, each with what its lockout or its fan-proving failure leaves. -/
theorem preCheckExpiryTakesTheFirstCase : Obligations.PreCheckExpiryTakesTheFirstCase := by
  intro s power state free v
  have notLockout : v.bsq.state ≠ .lockout := fun e => nomatch state.symm.trans e
  refine ⟨v.preCheckExpiry, _, exec_preCheckTimerExpiry s power state, ⟨rfl, settle_endsFrom _⟩, fun flame => ?flame,
    fun flame coil => ?coil, fun flame coil fast few => ?failure, fun flame coil fast many => ?third,
    fun flame coil slow => ?none⟩
  case flame =>
    rw [preCheckExpiry_flame v flame]
    exact lockWith_locksOut v .f03 free notLockout
  case coil =>
    rw [preCheckExpiry_coil v flame coil]
    exact lockWith_locksOut v .f07 free notLockout
  case failure =>
    rw [preCheckExpiry_noCurrent v flame coil, if_pos fast]
    exact free ▸ provingFailure_leads v .idle few
  case third =>
    rw [preCheckExpiry_noCurrent v flame coil, if_pos fast, provingFailure_locks v .idle many]
    exact lockWith_locksOut _ .f10 free notLockout
  case none => rw [preCheckExpiry_noCurrent v flame coil, if_neg (Nat.not_le.2 slow)]

end Sys2Proof.Machine

/-! SUPPORT. The ATTN line (R171): what 1 ms of time and the four commands of the supply and the resets leave of it; every
other command ends with `State.settle`, which drives it. -/

namespace Sys2Proof.Machine

theorem countdown_eq_none (t : Option Nat) : countdown t = none ↔ t = none := by
  cases t <;> simp [countdown]

/-- R171: 1 ms of time leaves the notices, the lockout and the level setting, and hands over no start-up reads. -/
theorem pass_attn (s : State) : AttnLaw s.pass ↔ AttnLaw s := by
  have startup : s.pass.sto.startup = none ↔ s.sto.startup = none := countdown_eq_none _
  unfold AttnLaw
  rw [startup]
  rfl

theorem tick_attn {s : State} (h : AttnLaw s) : AttnLaw s.tick := by
  rcases tick_cases s with pass | fails
  · exact pass ▸ (pass_attn s).2 h
  · exact fails ▸ settle_attn _

/-- R171, R175: a reset leaves ATTN low, with the start-up reads still to be handed over. -/
theorem attn_of_low {s : State} (low : s.prt.attn = false) (waits : s.sto.startup ≠ none) : AttnLaw s :=
  ⟨fun high => absurd (low.symm.trans high) nofun, fun ⟨done, _⟩ => absurd done waits⟩

theorem afterReset_attn (nv : Nv) (trim : Trim) (reload : Bool) (q : List Instr) :
    AttnLaw (State.afterReset nv trim reload q) := attn_of_low rfl nofun

theorem softReset_attn (s : State) : AttnLaw s.softReset := attn_of_low rfl nofun

/-- What holds with the effect of a command and without it holds after the command, be the part powered or not. -/
theorem State.live_induction {P : State → Prop} {s : State} {f : State → State} (effect : P (f s)) (unpowered : P s) :
    P (s.live f) := by
  unfold State.live
  split <;> assumption

theorem isReset_cases {c : Instr} (h : isReset c = true) :
    c = .powerOnReset ∨ c = .pinReset ∨ c = .softResetEffect ∨ c = .supplyFailure := by
  unfold isReset at h
  split at h <;> simp_all

theorem reset_attn {c : Instr} {s t : State} (reset : isReset c = true) (h : AttnLaw s) (run : exec c s = .next t) :
    AttnLaw t := by
  rcases isReset_cases reset with rfl | rfl | rfl | rfl <;> cases run
  · exact afterReset_attn _ _ _ _
  · exact State.live_induction (afterReset_attn _ _ _ _) h
  · refine State.live_induction ?_ h
    split
    · exact softReset_attn s
    · exact h
  · exact State.live_induction (h.congr rfl rfl rfl rfl) h

theorem exec_attn {c : Instr} {s t : State} (h : AttnLaw s) (run : exec c s = .next t) : AttnLaw t := by
  rcases exec_cases run with reset | same | ⟨u, settled⟩
  · exact reset_attn reset h run
  · rwa [same]
  · exact settled ▸ settle_attn u

/-- Settles O11, from what each command and 1 ms of time leave of ATTN. -/
theorem attnFollowsTheNotices : Obligations.AttnFollowsTheNotices :=
  KeptByStep.of_exec (fun _ _ h => h.congr rfl rfl rfl rfl) (fun _ _ _ => exec_attn) (fun _ => tick_attn)

end Sys2Proof.Machine

/-! SUPPORT. Commands of one word on a port (R160 to R162): what their frame, their pointer and their answer come to, and from
it the board-expired flag (R169). -/

namespace Sys2Proof.Machine

/-! ### The records of the ports -/

@[simp] theorem State.setPort_portRecord (s : State) (p : Port) (r : PortRecord) : (s.setPort p r).prt.portRecord p = r := by
  cases p <;> rfl

theorem State.setPort_portRecord_other (s : State) (p : Port) (r : PortRecord) {q : Port} (h : q ≠ p) :
    (s.setPort p r).prt.portRecord q = s.prt.portRecord q := by
  match p, q, h with
  | .control, .service, _ => rfl
  | .service, .control, _ => rfl
  | .control, .control, h => exact absurd rfl h
  | .service, .service, h => exact absurd rfl h

theorem State.setPort_self (s : State) (p : Port) : s.setPort p (s.prt.portRecord p) = s := by
  cases p <;> rfl

theorem EndsFrom.portRecord {s t : State} (h : EndsFrom s t) (p : Port) : t.prt.portRecord p = s.prt.portRecord p := by
  rw [h.prt]
  cases p <;> rfl

/-! ### A command is taken from its frame and answered (R160, R161) -/

/-- The part as a command that its frame takes is carried out: it has been taken, and its pointer moved to `next`. -/
def State.opened (s : State) (p : Port) (c : PortCommand) (next : Nat) : State :=
  (s.onFrame p fun f => f.take c).setPointer p c.space next

theorem opened_portRecord (s : State) (p : Port) (c : PortCommand) (next : Nat) :
    (s.opened p c next).prt.portRecord p =
      { s.prt.portRecord p with
        pointers := (s.prt.portRecord p).pointers.set c.space.toNat (BitVec.ofNat 16 next)
        frame := (s.prt.portRecord p).frame.take c } := by
  simp [State.opened, State.setPointer, State.onFrame]

theorem opened_portRecord_other (s : State) (p : Port) (c : PortCommand) (next : Nat) {q : Port} (h : q ≠ p) :
    (s.opened p c next).prt.portRecord q = s.prt.portRecord q :=
  (State.setPort_portRecord_other _ p _ h).trans (State.setPort_portRecord_other s p _ h)

/-- R160: a command with a count in its range, of a frame that takes it, is executed. -/
theorem portCommand_executes (s : State) (p : Port) (c : PortCommand) (takes : (s.prt.portRecord p).frame.Takes)
    (count : countOk c = true) : s.portCommand p c = (s.onFrame p fun f => f.take c).execute p c := by
  obtain ⟨goesOn, room⟩ := takes
  have few : ¬ maxCommands ≤ (s.prt.portRecord p).frame.taken := Nat.not_le.2 room
  simp [State.portCommand, goesOn, few, count]

theorem execute_write {c : PortCommand} {data : List Word} (s : State) (p : Port) (body : c.body = .inr data)
    (exist : c.space ≠ 7) (right : mayWrite p c.space = true) : s.execute p c = s.runWrite p c data := by
  rw [State.execute, if_neg exist, body]
  exact if_pos right

theorem execute_read {c : PortCommand} {n : Nat} (s : State) (p : Port) (body : c.body = .inl n)
    (exist : c.space ≠ 7) (right : mayRead p c.space = true) : s.execute p c = s.runRead p c n := by
  rw [State.execute, if_neg exist, body]
  exact if_pos (by rw [right, Bool.true_or])

/-- A command that leaves the ports as it found them, but for counters of its own, is answered by its reply. -/
theorem answers_of_reply {s u : State} {p : Port} {c : PortCommand} {next : Nat} {k : PortCounters}
    (own : u.prt.portRecord p = { (s.opened p c next).prt.portRecord p with counters := k })
    (other : ∀ q, q ≠ p → u.prt.portRecord q = s.prt.portRecord q) (status : Status) (bytes : List Byte) :
    Answers p c.space next status bytes s (u.reply p (status.code :: bytes)) := by
  rw [opened_portRecord] at own
  exact {
    body := by simp [State.reply, State.onFrame, own, Frame.take]
    pointers := by simp [State.reply, State.onFrame, own]
    taken := by simp [State.reply, State.onFrame, own, Frame.take]
    other := fun q h => (State.setPort_portRecord_other u p _ h).trans (other q h) }

/-- The end of the event leaves the answer, and what it counts. -/
theorem Answers.ends {p : Port} {space : BitVec 3} {next : Nat} {status : Status} {bytes : List Byte} {s t u : State}
    (h : Answers p space next status bytes s t) (e : EndsFrom t u) : Answers p space next status bytes s u where
  body := by rw [e.portRecord, h.body]
  pointers := by rw [e.portRecord, h.pointers]
  taken := by rw [e.portRecord, h.taken]
  other := fun q hq => by rw [e.portRecord, h.other q hq]

theorem Counts.ends {p : Port} {status : Status} {s t u : State} (h : Counts p status s t) (e : EndsFrom t u) :
    Counts p status s u := by
  unfold Counts
  rw [e.portRecord]
  exact h

/-! ### One word written (R162) -/

/-- R161: a command of one word handles its own address, where its pointer then stands. -/
theorem walk_one {space : BitVec 3} {a : Nat} (inside : inSpace space a = true) :
    walk space false 1 a = ([a], a, false) := by
  simp [walk, inside, nextAddress]

/-- R162, R172: what a command of one word with this status counts. -/
def PortCounters.tally (c : PortCounters) (status : Status) : PortCounters :=
  { c with
    denied := if status = .denied ∨ status = .noUnlock then min 65535 (c.denied + 1) else c.denied
    writeErrors := if status = .value then min 65535 (c.writeErrors + 1) else c.writeErrors }

/-- R162: the value error as the word is handled, then the command's own status. -/
theorem countValues_count (s : State) (p : Port) (status : Status) :
    (s.countValues p [status]).onCounters p (·.count status) = s.onCounters p (·.tally status) := by
  by_cases value : status = .value
  · subst value
    cases p <;> rfl
  · have noneCounted : s.countValues p [status] = s := by
      simp [State.countValues, Ne.symm value]
    simp [noneCounted, State.onCounters, PortCounters.count, PortCounters.tally, value, count16]

/-- R187: one word does not make an output test request. -/
theorem coveredTest_single (a : Nat) (w : Word) : coveredTest [(a, w)] = none := by
  unfold coveredTest carried
  by_cases h : a = 0x60 <;> simp [h]

theorem writeAll_single (s : State) (p : Port) {space : BitVec 3} (notDemand : space ≠ 1) (a : Nat) (w : Word) :
    let x := s.writeWord p space none (a, w)
    s.writeAll p space [(a, w)] = (x.state.countValues p [x.status], [x.status], x.outcomes) := by
  rw [State.writeAll, if_neg notDemand, coveredTest_single]
  simp [State.writeWords]

section
variable {s u : State} {p : Port} {space : BitVec 3} {a w : Word} {status : Status} {outcomes : List Byte}

/-- A write of one word within its space: the word is written, counted and answered. -/
theorem runWrite_wordWrite (notDemand : space ≠ 1) (inside : inSpace space a.toNat = true)
    (written : (s.setPointer p space a.toNat).writeWord p space none (a.toNat, w) = ⟨u, status, outcomes⟩)
    (single : statusOf [status] = status) (unlocked : status ≠ .noUnlock) :
    s.runWrite p (wordWrite space a w) [w] = (u.onCounters p (·.tally status)).reply p (status.code :: outcomes) := by
  have one : walk space false [w].length (s.startOf p space (.address a)) = ([a.toNat], a.toNat, false) := walk_one inside
  have all : (s.setPointer p space a.toNat).writeAll p space [(a.toNat, w)]
      = (u.countValues p [status], [status], outcomes) := by rw [writeAll_single _ _ notDemand, written]
  simp only [State.runWrite, wordWrite, one, List.zip_cons_cons, List.zip_nil_right, all, single, Bool.false_eq_true,
    if_false, State.noteNoUnlock, if_neg unlocked, countValues_count]

/-- The same of a command that its frame takes, within the rights of its port. -/
theorem portCommand_wordWrite (takes : (s.prt.portRecord p).frame.Takes) (notDemand : space ≠ 1) (exist : space ≠ 7)
    (right : mayWrite p space = true) (inside : inSpace space a.toNat = true)
    (written : (s.opened p (wordWrite space a w) a.toNat).writeWord p space none (a.toNat, w) = ⟨u, status, outcomes⟩)
    (single : statusOf [status] = status) (unlocked : status ≠ .noUnlock) :
    s.portCommand p (wordWrite space a w) = (u.onCounters p (·.tally status)).reply p (status.code :: outcomes) := by
  rw [portCommand_executes s p _ takes rfl, execute_write _ p rfl exist right]
  exact runWrite_wordWrite notDemand inside written single unlocked

/-- A word that leaves both ports as it found them is answered by its status, which the port counts. -/
theorem wordWrite_answers {c : PortCommand} {next : Nat}
    (ports : ∀ q, u.prt.portRecord q = (s.opened p c next).prt.portRecord q) :
    let t := (u.onCounters p (·.tally status)).reply p (status.code :: outcomes)
    Answers p c.space next status outcomes s t ∧ Counts p status s t := by
  have counted : (u.onCounters p (·.tally status)).prt.portRecord p = { (s.opened p c next).prt.portRecord p with
      counters := (s.prt.portRecord p).counters.tally status } := by
    rw [State.onCounters, State.setPort_portRecord, ports, opened_portRecord]
  have other : ∀ q, q ≠ p → (u.onCounters p (·.tally status)).prt.portRecord q = s.prt.portRecord q := fun q h =>
    ((State.setPort_portRecord_other u p _ h).trans (ports q)).trans (opened_portRecord_other s p c next h)
  refine ⟨answers_of_reply counted other status outcomes, ?_⟩
  rw [Counts, State.reply, State.onFrame, State.setPort_portRecord, counted]
  rfl

end

/-! ### One word read (R161) -/

section
variable {s : State} {p : Port} {space : BitVec 3} {a : Word}

/-- A read of one word within its space: the word is read and answered. -/
theorem runRead_wordRead (inside : inSpace space a.toNat = true) :
    let r := s.setPointer p space a.toNat
    s.runRead p (wordRead space a) 1 =
      (r.readEffect p space a.toNat).reply p (Status.ok.code :: 1 :: wordBytes (r.readValue p space a.toNat)) := by
  have one : walk space false 1 (s.startOf p space (.address a)) = ([a.toNat], a.toNat, false) := walk_one inside
  simp [State.runRead, wordRead, one, State.readAll]

/-- The same of a command that its frame takes, within the rights of its port. -/
theorem portCommand_wordRead (takes : (s.prt.portRecord p).frame.Takes) (exist : space ≠ 7)
    (right : mayRead p space = true) (inside : inSpace space a.toNat = true) :
    let r := s.opened p (wordRead space a) a.toNat
    s.portCommand p (wordRead space a) =
      (r.readEffect p space a.toNat).reply p (Status.ok.code :: 1 :: wordBytes (r.readValue p space a.toNat)) := by
  intro r
  rw [portCommand_executes s p _ takes rfl, execute_read _ p rfl exist right]
  exact runRead_wordRead inside

end

/-! ### The board-expired flag (R169) -/

/-- The board-expired flag, and the note of a read of it while it is set. -/
def Prt.expiry (p : Prt) : Bool × Bool := (p.expiredFlag, p.expiredNote)

theorem Prt.expiry_iff (p : Prt) (flag note : Bool) :
    p.expiry = (flag, note) ↔ p.expiredFlag = flag ∧ p.expiredNote = note := Prod.mk.injEq _ _ _ _ ▸ Iff.rfl

@[simp] theorem setPort_expiry (s : State) (p : Port) (r : PortRecord) : (s.setPort p r).prt.expiry = s.prt.expiry := by
  cases p <;> rfl

@[simp] theorem onFrame_expiry (s : State) (p : Port) (f : Frame → Frame) : (s.onFrame p f).prt.expiry = s.prt.expiry :=
  setPort_expiry _ _ _

@[simp] theorem onCounters_expiry (s : State) (p : Port) (f : PortCounters → PortCounters) :
    (s.onCounters p f).prt.expiry = s.prt.expiry := setPort_expiry _ _ _

@[simp] theorem reply_expiry (s : State) (p : Port) (l : List Byte) : (s.reply p l).prt.expiry = s.prt.expiry :=
  setPort_expiry _ _ _

@[simp] theorem opened_expiry (s : State) (p : Port) (c : PortCommand) (next : Nat) :
    (s.opened p c next).prt.expiry = s.prt.expiry := (setPort_expiry _ _ _).trans (setPort_expiry _ _ _)

theorem EndsFrom.expiry {s t : State} (h : EndsFrom s t) : t.prt.expiry = s.prt.expiry := by rw [h.prt]; rfl

/-- What the expiry of the heartbeat timer makes of the flag: set, with its note cleared. -/
theorem heartbeatExpiry_expiry (s : State) : s.heartbeatExpiry.prt.expiry = (true, false) := rfl

theorem readEffect_flag (s : State) : s.readEffect .control 6 0x23 =
    if s.prt.expiredFlag = true then { s with prt := { s.prt with expiredNote := true } } else s := by
  unfold State.readEffect
  simp

theorem readEffect_flag_portRecord (s : State) (q : Port) :
    (s.readEffect .control 6 0x23).prt.portRecord q = s.prt.portRecord q := by
  rw [readEffect_flag]
  split
  · cases q <;> rfl
  · rfl

theorem readEffect_flag_expiry (s : State) :
    (s.readEffect .control 6 0x23).prt.expiry = (s.prt.expiredFlag, s.prt.expiredNote || s.prt.expiredFlag) := by
  rw [readEffect_flag]
  cases flag : s.prt.expiredFlag <;> simp [Prt.expiry, flag]

theorem wordBytes_boolWord (b : Bool) : wordBytes (boolWord b) = [0, if b then 1 else 0] := by
  cases b <;> rfl

theorem readValue_flag (s : State) : s.readValue .control 6 0x23 = boolWord s.prt.expiredFlag := rfl

theorem writeFlag_value (s : State) {w : Word} (h : w ≠ 0) : s.writeFlag w = ⟨s, .value, []⟩ := if_pos h

theorem writeFlag_noted (s : State) (h : s.prt.expiredNote = true) :
    s.writeFlag 0 = ⟨{ s with prt := { s.prt with expiredFlag := false, expiredNote := false } }, .ok, []⟩ := if_pos h

theorem writeFlag_unnoted (s : State) (h : s.prt.expiredNote = false) : s.writeFlag 0 = ⟨s, .denied, []⟩ := by
  simp [State.writeFlag, h, refuse]

/-- A write to the flag in a powered part: the command, and the end of the event. -/
theorem exec_boardExpiredFlagWrite (s : State) (w : Word) (power : s.powered = true) :
    exec (.boardExpiredFlagWrite w) s = .next (s.portCommand .control (wordWrite 6 0x23 w)).settle :=
  congrArg Host.Outcome.next (s.event_powered power _)

theorem exec_boardExpiredFlagRead (s : State) (power : s.powered = true) :
    exec .boardExpiredFlagRead s = .next (s.portCommand .control (wordRead 6 0x23)).settle :=
  congrArg Host.Outcome.next (s.event_powered power _)

theorem exec_heartbeatTimerExpiry (s : State) (power : s.powered = true) (runs : s.prt.heartbeat.isSome = true) :
    exec .heartbeatTimerExpiry s = .next s.heartbeatExpiry.settle :=
  congrArg Host.Outcome.next ((s.event_powered power _).trans (congrArg State.settle (if_pos runs)))

theorem exec_softResetEffect (s : State) (power : s.powered = true) (due : s.softResetReady = true) :
    exec .softResetEffect s = .next s.softReset :=
  congrArg Host.Outcome.next ((if_pos power).trans (if_pos due))

/-- A write to the flag, from what the word's own meaning makes of it. -/
theorem flagWrite_outcome {s u : State} {w : Word} {status : Status} (takes : s.prt.control.frame.Takes)
    (written : (s.opened .control (wordWrite 6 0x23 w) 0x23).writeFlag w = ⟨u, status, []⟩)
    (ports : ∀ q, u.prt.portRecord q = (s.opened .control (wordWrite 6 0x23 w) 0x23).prt.portRecord q)
    (single : statusOf [status] = status) (unlocked : status ≠ .noUnlock) :
    let t := (s.portCommand .control (wordWrite 6 0x23 w)).settle
    t.prt.expiry = u.prt.expiry ∧ Answers .control 6 0x23 status [] s t ∧ Counts .control status s t := by
  have run := portCommand_wordWrite (p := .control) (space := 6) (a := 0x23) takes (by decide) (by decide) (by decide)
    (by decide) written single unlocked
  obtain ⟨answers, counts⟩ := wordWrite_answers (status := status) (outcomes := []) ports
  have ends := settle_endsFrom (s.portCommand .control (wordWrite 6 0x23 w))
  rw [← run] at answers counts
  refine ⟨?_, answers.ends ends, counts.ends ends⟩
  rw [ends.expiry, run, reply_expiry, onCounters_expiry]

/-- A read of the flag: its value, and the note of a read while it is set. -/
theorem flagRead_outcome {s : State} (takes : s.prt.control.frame.Takes) :
    let t := (s.portCommand .control (wordRead 6 0x23)).settle
    t.prt.expiry = (s.prt.expiredFlag, s.prt.expiredNote || s.prt.expiredFlag)
      ∧ Answers .control 6 0x23 .ok [1, 0, if s.prt.expiredFlag then 1 else 0] s t := by
  let r := s.opened .control (wordRead 6 0x23) 0x23
  have run : s.portCommand .control (wordRead 6 0x23) =
      (r.readEffect .control 6 0x23).reply .control (Status.ok.code :: 1 :: wordBytes (boolWord s.prt.expiredFlag)) :=
    portCommand_wordRead (p := .control) (space := 6) (a := 0x23) takes (by decide) (by decide) (by decide)
  have ends := settle_endsFrom (s.portCommand .control (wordRead 6 0x23))
  have own : (r.readEffect .control 6 0x23).prt.portRecord .control =
      { r.prt.portRecord .control with counters := (r.prt.portRecord .control).counters } :=
    readEffect_flag_portRecord r .control
  have other : ∀ q, q ≠ .control → (r.readEffect .control 6 0x23).prt.portRecord q = s.prt.portRecord q := fun q h =>
    (readEffect_flag_portRecord r q).trans (opened_portRecord_other s _ _ _ h)
  have answers := answers_of_reply own other .ok (1 :: wordBytes (boolWord s.prt.expiredFlag))
  rw [← run, wordBytes_boolWord] at answers
  refine ⟨?_, answers.ends ends⟩
  rw [ends.expiry, run, reply_expiry, readEffect_flag_expiry]
  rfl

/-- Settles O56, clause by clause: the expiry, the read, the three writes, the soft reset and the two other resets. -/
theorem boardExpiredFlagClearsInTwoSteps : Obligations.BoardExpiredFlagClearsInTwoSteps := by
  refine ⟨fun s power runs => ?expiry, fun s power takes => ?read, fun s w power takes => ?write,
    fun s power due => ?soft, fun s c reset => ?reset⟩
  case expiry =>
    exact ⟨_, exec_heartbeatTimerExpiry s power runs,
      (Prt.expiry_iff _ _ _).1 ((settle_endsFrom _).expiry.trans (heartbeatExpiry_expiry s))⟩
  case read =>
    obtain ⟨expiry, answers⟩ := flagRead_outcome takes
    obtain ⟨flag, note⟩ := (Prt.expiry_iff _ _ _).1 expiry
    exact ⟨_, exec_boardExpiredFlagRead s power, flag, note, answers⟩
  case write =>
    have kept := opened_expiry s .control (wordWrite 6 0x23 w) 0x23
    obtain ⟨openedFlag, openedNote⟩ := (Prt.expiry_iff _ _ _).1 kept
    refine ⟨_, exec_boardExpiredFlagWrite s w power, fun zero noted => ?_, fun zero unnoted => ?_, fun other => ?_⟩
    · subst zero
      obtain ⟨expiry, outcome⟩ := flagWrite_outcome takes (writeFlag_noted _ (openedNote.trans noted))
        (fun q => by cases q <;> rfl) rfl nofun
      obtain ⟨flag, note⟩ := (Prt.expiry_iff _ _ _).1 expiry
      exact ⟨flag, note, outcome⟩
    · subst zero
      obtain ⟨expiry, outcome⟩ := flagWrite_outcome takes (writeFlag_unnoted _ (openedNote.trans unnoted))
        (fun _ => rfl) rfl nofun
      obtain ⟨flag, note⟩ := (Prt.expiry_iff _ _ _).1 (expiry.trans kept)
      exact ⟨flag, note.trans unnoted, outcome⟩
    · obtain ⟨expiry, outcome⟩ := flagWrite_outcome takes (writeFlag_value _ other) (fun _ => rfl) rfl nofun
      obtain ⟨flag, note⟩ := (Prt.expiry_iff _ _ _).1 (expiry.trans kept)
      exact ⟨flag, note, outcome⟩
  case soft => exact ⟨_, exec_softResetEffect s power due, rfl, rfl⟩
  case reset =>
    rcases reset with rfl | ⟨rfl, power⟩
    · exact ⟨_, rfl, rfl, rfl⟩
    · exact ⟨_, congrArg Host.Outcome.next (if_pos power), rfl, rfl⟩

end Sys2Proof.Machine

/-! SUPPORT. ALARM with the room loop's hand-over (R137, R140) over every step, the plain facts of a step, and the laws right
after the first power-on. -/

namespace Sys2Proof.Machine

/-! ### ALARM (R137, R140) -/

theorem countdown_isNone (t : Option Nat) : (countdown t).isNone = t.isNone := by
  cases t <;> rfl

/-- R140: 1 ms of time leaves the lockout, the sequencer's state and what the room loop has been handed. -/
theorem pass_alarm {s : State} (h : AlarmLaw s) : AlarmLaw s.pass :=
  have waits : s.pass.sto.startup.isNone = s.sto.startup.isNone := countdown_isNone _
  ⟨h.alarm, waits ▸ h.present, waits ▸ h.displayed⟩

theorem tick_alarm {s : State} (h : AlarmLaw s) : AlarmLaw s.tick := by
  rcases tick_cases s with pass | fails
  · exact pass ▸ pass_alarm h
  · exact fails ▸ settle_alarm _

/-- R137, R140: a reset leaves ALARM active in START-CHECK and hands nothing to the room loop yet. -/
theorem afterReset_alarm (nv : Nv) (trim : Trim) (reload : Bool) (q : List Instr) :
    AlarmLaw (State.afterReset nv trim reload q) := ⟨⟨fun _ => .inr rfl, fun _ => rfl⟩, rfl, rfl⟩

theorem softReset_alarm (s : State) : AlarmLaw s.softReset := ⟨⟨fun _ => .inr rfl, fun _ => rfl⟩, rfl, rfl⟩

theorem reset_alarm {c : Instr} {s t : State} (reset : isReset c = true) (h : AlarmLaw s) (run : exec c s = .next t) :
    AlarmLaw t := by
  rcases isReset_cases reset with rfl | rfl | rfl | rfl <;> cases run
  · exact afterReset_alarm _ _ _ _
  · exact State.live_induction (afterReset_alarm _ _ _ _) h
  · refine State.live_induction ?_ h
    split
    · exact softReset_alarm s
    · exact h
  · exact State.live_induction ⟨h.alarm, h.present, h.displayed⟩ h

theorem exec_alarm {c : Instr} {s t : State} (h : AlarmLaw s) (run : exec c s = .next t) : AlarmLaw t := by
  rcases exec_cases run with reset | same | ⟨u, settled⟩
  · exact reset_alarm reset h run
  · rwa [same]
  · exact settled ▸ settle_alarm u

/-- Settles O10, from what each command and 1 ms of time leave of ALARM and of the room loop's hand-over. -/
theorem alarmFollowsTheLockout : Obligations.AlarmFollowsTheLockout :=
  KeptByStep.of_exec (fun _ _ h => ⟨h.alarm, h.present, h.displayed⟩) (fun _ _ _ => exec_alarm) (fun _ => tick_alarm)

/-! ### One step -/

/-- Settles O1: `step` runs the command that its queue begins with. -/
theorem stepRunsTheFrontCommand : Obligations.StepRunsTheFrontCommand := fun _ _ _ => rfl

theorem step_idle {s : State} (empty : s.pending = []) : step s = s.idleStep := by
  simp [step, empty]

/-- A failing pressure record takes b02 into the active fault set and leaves clock, sequencer, settings and lockout. -/
theorem pressureFails_frame (s : State) :
    s.pressureFails.clock = s.clock ∧ s.pressureFails.pending = s.pending ∧ s.pressureFails.bsq = s.bsq
      ∧ s.pressureFails.sto.nv = s.sto.nv ∧ s.pressureFails.sto.settings = s.sto.settings
      ∧ s.pressureFails.flt.lockout = s.flt.lockout := by
  have key := enterKey_enters { s with mfe := { s.mfe with pressWindow := [], pressValue := none } } .b02
  exact ⟨key.touches.clock (by decide), key.touches.pending, key.touches.bsq (by decide),
    (congrArg Sto.nv key.sto).trans rfl,
    (congrArg Sto.settings key.sto).trans rfl, (congrArg Flt.lockout key.flt).trans rfl⟩

/-! ### The stages of an event's end -/

/-- A relation that every stage of an event's end obeys. -/
structure StageKept (R : State → State → Prop) : Prop where
  refl : ∀ s, R s s
  trans : ∀ {s t u}, R s t → R t u → R s u
  guardTap : ∀ s, R s s.guardTap
  judgeKeepwarm : ∀ s, R s s.judgeKeepwarm
  endTest : ∀ s cause, R s (s.endTest cause)
  formTargets : ∀ s, R s s.formTargets
  evaluate : ∀ s, R s s.evaluate
  serveMode : ∀ s, R s s.serveMode
  applyCaps : ∀ s, R s s.applyCaps
  judgeRequest : ∀ s, R s s.judgeRequest
  judgePreCheck : ∀ s, R s s.judgePreCheck
  driveOutputs : ∀ s, R s s.driveOutputs
  drivePins : ∀ s, R s s.drivePins
  remark : ∀ s, R s s.remark
  startWrite : ∀ s, R s s.startWrite

namespace StageKept
variable {R : State → State → Prop}

theorem replan (k : StageKept R) (s : State) : R s s.replan := by
  have met : R s.guardTap.judgeKeepwarm s.guardTap.judgeKeepwarm.testMeetsDemand := by
    unfold State.testMeetsDemand
    split
    · exact k.endTest _ _
    · exact k.refl _
  exact k.trans (k.trans (k.trans (k.trans (k.guardTap s) (k.judgeKeepwarm _)) met) (k.formTargets _)) (k.evaluate _)

theorem round (k : StageKept R) (s : State) : R s s.round :=
  k.trans (k.trans (k.trans (k.trans (k.trans (k.replan s) (k.serveMode _)) (k.applyCaps _)) (k.judgeRequest _))
    (k.judgePreCheck _)) (k.driveOutputs _)

theorem settle (k : StageKept R) (s : State) : R s s.settle :=
  k.trans (k.trans (k.trans (k.trans (k.round s) (k.round _)) (k.drivePins _)) (k.remark _)) (k.startWrite _)

theorem inTurn (k : StageKept R) {s : State} {f : State → State} (h : R s (f s)) : R s (s.inTurn f) := by
  rcases inTurn_cases s f with same | handed
  · exact same ▸ h
  · exact handed ▸ k.trans h (k.trans (k.round _) (k.drivePins _))

end StageKept

/-! ### The time in the sequencer's state -/

@[simp] theorem setFanTarget_timeIn (s : State) (r : Nat) : (s.setFanTarget r).bsq.timeIn = s.bsq.timeIn := by
  unfold State.setFanTarget Bsq.judgeBand
  split <;> rfl

@[simp] theorem handRate_timeIn (s : State) (r : Int) : (s.handRate r).bsq.timeIn = s.bsq.timeIn := by
  unfold State.handRate
  dsimp only
  split
  · rfl
  · split <;> simp

@[simp] theorem applyCaps_timeIn (s : State) : s.applyCaps.bsq.timeIn = s.bsq.timeIn := by
  unfold State.applyCaps State.takeRate
  dsimp only
  split <;> simp

@[simp] theorem serveMode_timeIn (s : State) : s.serveMode.bsq.timeIn = s.bsq.timeIn := by
  unfold State.serveMode State.serviceForm State.takeRate State.bumplessLoad
  split
  · cases s.dta.plan.mode <;> simp
  · rfl

theorem goto_timeIn (s : State) (q : SeqState) : (s.goto q).bsq.timeIn = 0 := by
  unfold State.goto
  rw [setFanTarget_timeIn]
  split <;> split <;> rfl

theorem startBurn_timeIn (s : State) : s.startBurn.bsq.timeIn = 0 := by
  unfold State.startBurn
  dsimp only
  split
  · exact goto_timeIn _ _
  · exact goto_timeIn _ _

theorem judgeRequest_timeIn (s : State) : s.judgeRequest.bsq.timeIn ≤ s.bsq.timeIn := by
  have change : ∀ q, (s.goto q).bsq.timeIn ≤ s.bsq.timeIn := fun q => goto_timeIn s q ▸ Nat.zero_le _
  unfold State.judgeRequest
  split
  · split
    · exact startBurn_timeIn s ▸ Nat.zero_le _
    · exact Nat.le_refl _
  · split <;> first | exact change _ | exact Nat.le_refl _

theorem judgePreCheck_timeIn (s : State) : s.judgePreCheck.bsq.timeIn ≤ s.bsq.timeIn := by
  unfold State.judgePreCheck
  split
  · exact goto_timeIn s _ ▸ Nat.zero_le _
  · exact Nat.le_refl _

/-- The end of an event leaves the time in the sequencer's state, or begins a state with 0. -/
theorem timeIn_stageKept : StageKept fun s t => t.bsq.timeIn ≤ s.bsq.timeIn where
  refl _ := Nat.le_refl _
  trans h k := Nat.le_trans k h
  guardTap _ := Nat.le_refl _
  judgeKeepwarm _ := Nat.le_refl _
  endTest s c := by rw [(endTest_touches s c).bsq (by decide)]
  formTargets _ := Nat.le_refl _
  evaluate _ := Nat.le_refl _
  serveMode s := Nat.le_of_eq (serveMode_timeIn s)
  applyCaps s := Nat.le_of_eq (applyCaps_timeIn s)
  judgeRequest := judgeRequest_timeIn
  judgePreCheck := judgePreCheck_timeIn
  driveOutputs _ := Nat.le_refl _
  drivePins _ := Nat.le_refl _
  remark s := by rw [(remark_touches s).bsq (by decide)]
  startWrite s := by rw [(startWrite_touches s).bsq (by decide)]

/-- What 1 ms of time leaves of the part (log entry 4). -/
theorem tick_frame (s : State) :
    s.tick.clock.now = s.clock.now + 1 ∧ s.tick.pending = s.pending ∧ s.tick.bsq.timeIn ≤ s.bsq.timeIn + 1
      ∧ s.tick.sto.nv = s.sto.nv ∧ s.tick.sto.settings = s.sto.settings ∧ s.tick.flt.lockout = s.flt.lockout := by
  rcases tick_cases s with pass | fails
  · rw [pass]
    exact ⟨rfl, rfl, Nat.le_refl _, rfl, rfl, rfl⟩
  · obtain ⟨clock, pending, bsq, nv, settings, lockout⟩ := pressureFails_frame s.pass
    have ends := settle_endsFrom s.pass.pressureFails
    have time := timeIn_stageKept.settle s.pass.pressureFails
    rw [fails]
    refine ⟨?_, ?_, ?_, ?_, ?_, ?_⟩
    · rw [ends.clock, clock]; rfl
    · rw [ends.pending, pending]; rfl
    · rw [bsq] at time; exact time
    · rw [ends.sto]; exact nv
    · rw [ends.sto]; exact settings
    · rw [ends.flt]; exact lockout

/-- Settles O2, from the three cases of a step on an empty queue. -/
theorem emptyQueueFollowsOwnTime : Obligations.EmptyQueueFollowsOwnTime := by
  intro s empty
  rw [step_idle empty]
  refine ⟨fun off => ?_, fun on c due => ?_, fun on none => ?_⟩
  · simp [State.idleStep, off]
  · simp [State.idleStep, on, due]
  · obtain ⟨clock, pending, rest⟩ := tick_frame s
    exact ⟨s.tick, by simp [State.idleStep, on, none], clock, pending.trans empty, rest⟩

end Sys2Proof.Machine

/-! SUPPORT. The laws of a run right after the first power-on. -/

namespace Sys2Proof.Machine

theorem reset_burner : BurnerLaw State.reset := by constructor <;> decide

theorem reset_room (n : RoomSlot) : State.reset.dta.table.room.get n = none := by cases n <;> rfl

theorem reset_channel (ch : NtcChannel) : (ntcGet State.reset.mfe.ntc ch).window = []
    ∧ (ntcGet State.reset.mfe.ntc ch).value = none := by cases ch <;> exact ⟨rfl, rfl⟩

theorem reset_measure : MeasureLaw State.reset := by
  refine ⟨fun ch => ?_, by decide, fun _ => rfl, fun _ => rfl⟩
  obtain ⟨window, value⟩ := reset_channel ch
  exact ⟨by rw [window]; decide, fun _ => value, fun _ => value⟩

theorem reset_size : SizeLaw State.reset := by
  refine ⟨by decide, ?_, ?_, by decide, by decide⟩ <;> exact List.length_replicate

/-- Settles O3, law by law, from the reset values of the nine blocks. -/
theorem everyLawHoldsAtReset : Obligations.EveryLawHoldsAtReset := by
  refine ⟨reset_burner, fun h => absurd h (by decide), ?lockout, ?active, fun _ => ⟨rfl, rfl, rfl, rfl⟩, ?table, ?rate,
    ?plan, by decide, ?request, ?pump, ?owner, afterReset_alarm _ _ _ _, afterReset_attn _ _ _ _, reset_measure, reset_size,
    ⟨by constructor <;> decide, by constructor <;> decide⟩, ⟨fun h => absurd h (by decide), fun n e h => ?room⟩,
    fun h => absurd h (by decide), fun w h => absurd h nofun⟩
  case lockout => exact ⟨rfl, fun h => absurd h (by decide), fun h => absurd h (by decide)⟩
  case active => exact ⟨List.nil_sublist _, fun k h => absurd h List.not_mem_nil, fun l h => absurd h nofun⟩
  case table => exact ⟨fun _ => by decide, fun h => absurd h (by decide)⟩
  case rate => constructor <;> exact fun h => absurd h (by decide)
  case plan => constructor <;> decide
  case request => exact ⟨fun f x h => absurd h (by decide), fun f x h => absurd h (by decide)⟩
  case pump => constructor <;> decide
  case owner => constructor <;> first | rfl | (constructor <;> first | rfl | exact fun _ => rfl)
  case room => exact absurd h (by rw [reset_room]; exact nofun)

end Sys2Proof.Machine

/-! SUPPORT. The laws that an operation of the part carries from the state before it to the state after it, said once for each
operation: `KeepsLaws`, with the writes of one block. Every command is a chain of such operations, so that each law of a run
follows from one walk over the commands. -/

namespace Sys2Proof.Machine

/-! ### The laws of one operation -/

/-- R70, R71: the part of `BurnerLaw` that every operation obeys; the rest is left by the end of an event. -/
structure GasLaw (s : State) : Prop where
  gasFlag : s.bsq.gasOpen = s.bsq.state.gasOpen
  sparkFlag : s.bsq.spark = (s.bsq.state == .safetyTime)
  gv1 : s.ocu.gv1.state = .active → s.bsq.state.gasOpen = true
  gv2 : s.ocu.gv2.state = .active → s.bsq.state.gasOpen = true
  spark : s.ocu.spark.state = .active → s.bsq.state = .safetyTime
  flame : s.bsq.state = .safetyTime → s.mfe.flameOn = false

/-- R62: in RUNNING the last rate lies from rmin up. -/
def FloorLaw (s : State) : Prop := s.bsq.state = .running → s.sto.table.rmin ≤ s.fre.lastRate

/-- R127, R153, R165: the commands that can carry a lockout reset request. -/
def CarriesReset (c : Instr) : Prop :=
  (∃ p v, c = .resetRequestWord p v) ∨ (∃ p x a b d, c = .genericWrite p x a b d) ∨ (∃ p, c = .frameProcessingEnd p)
    ∨ c = .inboundFrameEnd

/-- What an operation of the command `c` carries over, but for the lockout, the active fault set and the table in use. A law
that the operation's writes do not reach is carried over field by field. -/
structure KeepsMost (c : Instr) (s t : State) : Prop where
  powered : t.powered = s.powered := by rfl
  pending : t.pending = s.pending := by rfl
  gas : GasLaw s → GasLaw t := by exact fun h => ⟨h.gasFlag, h.sparkFlag, h.gv1, h.gv2, h.spark, h.flame⟩
  trip : TripLaw s → TripLaw t := by exact id
  rate : RateLaw s → RateLaw t := by exact id
  fan : FanFollows s → FanFollows t := by exact id
  measure : MeasureLaw s → MeasureLaw t := by exact fun h => ⟨h.ntc, h.window, h.short, h.b02⟩
  size : SizeLaw s → SizeLaw t := by exact fun h => ⟨h.notices, h.ring, h.history, h.fifo, h.counter⟩
  counter : CounterLaw s → CounterLaw t := by exact id
  entry : EntryLaw s → EntryLaw t := by exact fun h => ⟨h.board, h.room⟩
  staged : StagedLaw s → StagedLaw t := by exact id
  settings : s.sto.settings.inRange = true → t.sto.settings.inRange = true := by exact id
  trim : t.sto.nv.trim = s.sto.nv.trim := by rfl
  nv : (∀ b, c ≠ .storeWriteEnd b) → t.sto.nv = s.sto.nv := by exact fun _ => rfl

/-- What an operation of the command `c` carries over. -/
structure KeepsLaws (c : Instr) (s t : State) : Prop extends KeepsMost c s t where
  lockout : LockoutLaw s → LockoutLaw t := by exact fun h => ⟨h.startup, h.held, h.only⟩
  active : ActiveLaw s → ActiveLaw t := by exact fun h => ⟨h.order, h.cause, h.held⟩
  table : TableLaw s → TableLaw t := by exact fun h => ⟨h.valid, h.invalid⟩
  floor : TableLaw s → FloorLaw s → FloorLaw t := by exact fun _ => id
  held : s.locked = true → t.locked = true ∨ CarriesReset c := by exact .inl

section
variable {c : Instr} {s t u : State}

theorem KeepsMost.trans (h : KeepsMost c s t) (k : KeepsMost c t u) : KeepsMost c s u where
  powered := k.powered.trans h.powered
  pending := k.pending.trans h.pending
  gas x := k.gas (h.gas x)
  trip x := k.trip (h.trip x)
  rate x := k.rate (h.rate x)
  fan x := k.fan (h.fan x)
  measure x := k.measure (h.measure x)
  size x := k.size (h.size x)
  counter x := k.counter (h.counter x)
  entry x := k.entry (h.entry x)
  staged x := k.staged (h.staged x)
  settings x := k.settings (h.settings x)
  trim := k.trim.trans h.trim
  nv x := (k.nv x).trans (h.nv x)

theorem KeepsLaws.refl (c : Instr) (s : State) : KeepsLaws c s s := {}

theorem KeepsLaws.trans (h : KeepsLaws c s t) (k : KeepsLaws c t u) : KeepsLaws c s u where
  toKeepsMost := h.toKeepsMost.trans k.toKeepsMost
  lockout x := k.lockout (h.lockout x)
  active x := k.active (h.active x)
  table x := k.table (h.table x)
  floor x y := k.floor (h.table x) (h.floor x y)
  held x := (h.held x).elim k.held .inr

theorem KeepsLaws.ite {p : Prop} [Decidable p] (h : KeepsLaws c s t) (k : KeepsLaws c s u) :
    KeepsLaws c s (if p then t else u) := by split <;> assumption

/-! ### The writes of one block -/

/-- A write of the measurement front end. -/
theorem keeps_mfe (x : Mfe) (measure : MeasureLaw s → MeasureLaw { s with mfe := x })
    (flame : s.bsq.state = .safetyTime → s.mfe.flameOn = false → x.flameOn = false) :
    KeepsLaws c s { s with mfe := x } where
  gas h := ⟨h.gasFlag, h.sparkFlag, h.gv1, h.gv2, h.spark, fun e => flame e (h.flame e)⟩
  measure := measure

/-- One that leaves the channels, the pressure and the flame. -/
theorem keeps_mfe_quiet (x : Mfe) (ntc : x.ntc = s.mfe.ntc) (window : x.pressWindow = s.mfe.pressWindow)
    (value : x.pressValue = s.mfe.pressValue) (flame : x.flameOn = s.mfe.flameOn) : KeepsLaws c s { s with mfe := x } :=
  keeps_mfe x
    (fun h => ⟨fun ch => by rw [ntc]; exact h.ntc ch, by rw [window]; exact h.window,
      by rw [window, value]; exact h.short, by rw [value]; exact h.b02⟩)
    (fun _ off => flame.trans off)

/-- A write of the arbiter's record that leaves the ROOM entries, and makes a BOARD entry under supervision alone. -/
theorem keeps_dta (x : Dta)
    (board : x.table.board.isSome = true → s.dta.table.board.isSome = true ∨ s.prt.heartbeat.isSome = true)
    (room : x.table.room = s.dta.table.room) : KeepsLaws c s { s with dta := x } where
  entry h := ⟨fun e => (board e).elim h.board id, by rw [room]; exact h.room⟩

/-- A write of the arbiter's record that leaves both. -/
theorem keeps_dta_quiet (x : Dta) (board : x.table.board = s.dta.table.board) (room : x.table.room = s.dta.table.room) :
    KeepsLaws c s { s with dta := x } := keeps_dta x (by rw [board]; exact .inl) room

/-- A write of the firing-rate engine. -/
theorem keeps_fre (x : Fre) (rate : RateLaw s → RateLaw { s with fre := x })
    (floor : s.bsq.state = .running → s.sto.table.rmin ≤ s.fre.lastRate → s.sto.table.rmin ≤ x.lastRate) :
    KeepsLaws c s { s with fre := x } where
  rate := rate
  floor _ h e := floor e (h e)

/-- One that leaves what RUNNING alone has. -/
theorem keeps_fre_quiet (x : Fre) (lastRate : x.lastRate = s.fre.lastRate) (served : x.served = s.fre.served)
    (chTimer : x.chTimer = s.fre.chTimer) (reason : x.reason = s.fre.reason) : KeepsLaws c s { s with fre := x } :=
  keeps_fre x (fun h e => by rw [lastRate, served, chTimer, reason]; exact h e) (fun _ h => by rw [lastRate]; exact h)

/-- A write of the sequencer's record that leaves its state and its commands. -/
theorem keeps_bsq (x : Bsq) (state : x.state = s.bsq.state) (gasOpen : x.gasOpen = s.bsq.gasOpen)
    (spark : x.spark = s.bsq.spark) (fan : x.fanTarget = s.bsq.fanTarget) : KeepsLaws c s { s with bsq := x } where
  gas h := by
    refine ⟨?_, ?_, ?_, ?_, ?_, ?_⟩ <;> dsimp only <;> rw [state]
    · rw [gasOpen]; exact h.gasFlag
    · rw [spark]; exact h.sparkFlag
    · exact h.gv1
    · exact h.gv2
    · exact h.spark
    · exact h.flame
  rate h e := h (state ▸ e)
  fan h := by unfold FanFollows at h ⊢; rw [fan]; exact h
  lockout h := ⟨by dsimp only; rw [state]; exact h.startup, by dsimp only; rw [state]; exact h.held,
    by dsimp only; rw [state]; exact h.only⟩
  table h := ⟨h.valid, by dsimp only; rw [state]; exact h.invalid⟩
  floor _ h e := h (state ▸ e)

/-- A write of the output channel unit that opens no gas channel, starts no train and leaves FAN's owner command. -/
theorem keeps_ocu (x : Ocu) (trip : TripLaw s → TripLaw { s with ocu := x })
    (gv1 : x.gv1.state = .active → s.ocu.gv1.state = .active) (gv2 : x.gv2.state = .active → s.ocu.gv2.state = .active)
    (spark : x.spark.state = .active → s.ocu.spark.state = .active) (fan : x.fan.owner = s.ocu.fan.owner) :
    KeepsLaws c s { s with ocu := x } where
  gas h := ⟨h.gasFlag, h.sparkFlag, fun e => h.gv1 (gv1 e), fun e => h.gv2 (gv2 e), fun e => h.spark (spark e), h.flame⟩
  trip := trip
  fan h := fan.trans h

/-- One that leaves the lines, and the states and re-arms of the three channels. -/
theorem keeps_ocu_quiet (x : Ocu) (lines : x.lines = s.ocu.lines)
    (gv1 : x.gv1.state = s.ocu.gv1.state ∧ x.gv1.rearmPending = s.ocu.gv1.rearmPending)
    (gv2 : x.gv2.state = s.ocu.gv2.state ∧ x.gv2.rearmPending = s.ocu.gv2.rearmPending)
    (spark : x.spark.state = s.ocu.spark.state ∧ x.spark.rearmPending = s.ocu.spark.rearmPending)
    (fan : x.fan.owner = s.ocu.fan.owner) : KeepsLaws c s { s with ocu := x } :=
  keeps_ocu x
    (fun h => by unfold TripLaw at h ⊢; dsimp only; rw [lines, gv1.1, gv1.2, gv2.1, gv2.2, spark.1, spark.2]; exact h)
    (gv1.1 ▸ id) (gv2.1 ▸ id) (spark.1 ▸ id) fan

/-- A write of the fault unit: the laws that do not speak of the lockout and the active fault set. -/
theorem keepsMost_flt (x : Flt) (b02 : .b02 ∈ x.active → .b02 ∈ s.flt.active)
    (ring : s.flt.ring.length = 32 → x.ring.length = 32) (counter : s.flt.resetCounter ≤ 5 → x.resetCounter ≤ 5) :
    KeepsMost c s { s with flt := x } where
  measure h := ⟨h.ntc, h.window, h.short, fun e => h.b02 ((s.isActive_iff _).2 (b02 ((State.isActive_iff _ _).1 e)))⟩
  size h := ⟨h.notices, ring h.ring, h.history, h.fifo, counter h.counter⟩

/-- A write of the fault unit that leaves the lockout and does not end the table's locking condition: the other laws. -/
theorem keeps_faults (x : Flt) (most : KeepsMost c s { s with flt := x }) (lockout : x.lockout = s.flt.lockout)
    (active : ActiveLaw s → ActiveLaw { s with flt := x })
    (table : s.sto.tableValid = false → s.flt.conditions.table = true → x.conditions.table = true) :
    KeepsLaws c s { s with flt := x } where
  toKeepsMost := most
  lockout h := ⟨h.startup, by unfold State.locked; rw [lockout]; exact h.held, by unfold State.locked; rw [lockout]; exact h.only⟩
  active := active
  table h := ⟨h.valid, fun e => (h.invalid e).imp id fun ⟨state, cause, cond⟩ =>
    ⟨state, by dsimp only; rw [lockout]; exact cause, table e cond⟩⟩
  held h := .inl (by unfold State.locked; rw [lockout]; exact h)

/-- One that b02 does not enter by. -/
theorem keeps_flt (x : Flt) (b02 : .b02 ∈ x.active → .b02 ∈ s.flt.active) (ring : s.flt.ring.length = 32 → x.ring.length = 32)
    (counter : s.flt.resetCounter ≤ 5 → x.resetCounter ≤ 5) (lockout : x.lockout = s.flt.lockout)
    (active : ActiveLaw s → ActiveLaw { s with flt := x })
    (table : s.sto.tableValid = false → s.flt.conditions.table = true → x.conditions.table = true) :
    KeepsLaws c s { s with flt := x } := keeps_faults x (keepsMost_flt x b02 ring counter) lockout active table

/-- A write of the history and of what no law speaks of. -/
theorem keeps_flt_quiet (x : Flt) (active : x.active = s.flt.active) (ring : s.flt.ring.length = 32 → x.ring.length = 32)
    (counter : s.flt.resetCounter ≤ 5 → x.resetCounter ≤ 5) (lockout : x.lockout = s.flt.lockout)
    (table : s.sto.tableValid = false → s.flt.conditions.table = true → x.conditions.table = true) :
    KeepsLaws c s { s with flt := x } :=
  keeps_flt x (active ▸ id) ring counter lockout
    (fun h => ⟨by dsimp only; rw [active]; exact h.order, by dsimp only; rw [active, lockout]; exact h.cause,
      by dsimp only; rw [active, lockout]; exact h.held⟩) table

/-- A write of the room loop that leaves the states of the slots. -/
theorem keeps_rlc (x : Rlc) (fifo : s.rlc.fifo.length ≤ 32 → x.fifo.length ≤ 32)
    (slots : ∀ n, (x.slots.get n).state = (s.rlc.slots.get n).state) : KeepsLaws c s { s with rlc := x } where
  size h := ⟨h.notices, h.ring, h.history, fifo h.fifo, h.counter⟩
  entry h := ⟨h.board, fun n e he => by dsimp only; rw [slots n]; exact h.room n e he⟩

/-- A write of the port unit. -/
theorem keeps_prt (x : Prt) (notices : s.prt.notices.length ≤ 16 → x.notices.length ≤ 16)
    (counters : CounterLaw s → CounterLaw { s with prt := x })
    (heartbeat : s.prt.heartbeat.isSome = true → x.heartbeat.isSome = true)
    (staged : StagedLaw s → StagedLaw { s with prt := x }) : KeepsLaws c s { s with prt := x } where
  size h := ⟨notices h.notices, h.ring, h.history, h.fifo, h.counter⟩
  counter := counters
  entry h := ⟨fun e => heartbeat (h.board e), h.room⟩
  staged := staged

/-- One that leaves the counters, the heartbeat and the staged copy. -/
theorem keeps_prt_quiet (x : Prt) (notices : s.prt.notices.length ≤ 16 → x.notices.length ≤ 16)
    (control : x.control.counters = s.prt.control.counters) (service : x.service.counters = s.prt.service.counters)
    (heartbeat : x.heartbeat = s.prt.heartbeat) (staged : x.staged = s.prt.staged)
    (serviceState : x.serviceState = s.prt.serviceState) : KeepsLaws c s { s with prt := x } :=
  keeps_prt x notices (fun h => by unfold CounterLaw; dsimp only; rw [control, service]; exact h) (heartbeat ▸ id)
    (fun h => by unfold StagedLaw; dsimp only; rw [staged, serviceState]; exact h)

/-- A write of the store that leaves the blocks, the table in use and the start-up reads. -/
theorem keeps_sto (x : Sto) (settings : s.sto.settings.inRange = true → x.settings.inRange = true)
    (table : x.table = s.sto.table) (valid : x.tableValid = s.sto.tableValid)
    (startup : x.startup.isSome = s.sto.startup.isSome) (nv : x.nv = s.sto.nv) : KeepsLaws c s { s with sto := x } where
  size h := ⟨h.notices, h.ring, by dsimp only; rw [nv]; exact h.history, h.fifo, h.counter⟩
  settings := settings
  trim := congrArg Nv.trim nv
  nv _ := nv
  lockout h := ⟨startup.trans h.startup, h.held, h.only⟩
  table h := ⟨by dsimp only; rw [table, valid]; exact h.valid, by dsimp only; rw [valid]; exact h.invalid⟩
  floor _ h e := by dsimp only; rw [table]; exact h e

/-- A write of the dirty set and of what no law speaks of. -/
theorem keeps_sto_quiet (x : Sto) (settings : x.settings = s.sto.settings) (table : x.table = s.sto.table)
    (valid : x.tableValid = s.sto.tableValid) (startup : x.startup = s.sto.startup) (nv : x.nv = s.sto.nv) :
    KeepsLaws c s { s with sto := x } := keeps_sto x (settings ▸ id) table valid (startup ▸ rfl) nv

theorem keeps_clock (x : Clock) : KeepsLaws c s { s with clock := x } := {}

end

end Sys2Proof.Machine

/-! SUPPORT. The operations of the fault unit keep the laws of a run: the history, keys that enter and leave the active fault
set, notices, and the end of an output test. -/

namespace Sys2Proof.Machine

variable {c : Instr} {s t : State}

/-! ### The history ring keeps its slots (R131) -/

@[simp] theorem putSlot_ring_length (s : State) (i : Nat) (x : HistorySlot) :
    (s.putSlot i x).flt.ring.length = s.flt.ring.length := by simp

@[simp] theorem createRecord_ring_length (s : State) (r : HistoryRecord) :
    (s.createRecord r).flt.ring.length = s.flt.ring.length := List.length_set

@[simp] theorem recordRaise_ring_length (s : State) (k : FaultKey) (b : Bool) :
    (s.recordRaise k b).flt.ring.length = s.flt.ring.length := by
  unfold State.recordRaise
  split
  · split
    · split <;> simp
    · simp
  · rfl

@[simp] theorem fillCleared_ring_length (s : State) (k : FaultKey) :
    (s.fillCleared k).flt.ring.length = s.flt.ring.length := by
  unfold State.fillCleared
  split
  · split
    · exact putSlot_ring_length _ _ _
    · rfl
  · rfl

@[simp] theorem enterKey_ring_length (s : State) (k : FaultKey) :
    (s.enterKey k).flt.ring.length = s.flt.ring.length := by
  unfold State.enterKey
  split <;> simp

@[simp] theorem leaveKey_ring_length (s : State) (k : FaultKey) :
    (s.leaveKey k).flt.ring.length = s.flt.ring.length := by
  unfold State.leaveKey
  split <;> simp

/-! ### Plain marks and notices -/

theorem keeps_markDirty (s : State) (i : StoreItem) : KeepsLaws c s (s.markDirty i) :=
  keeps_sto_quiet _ rfl rfl rfl rfl rfl

theorem keeps_postPrt (s : State) (n : Notice) : KeepsLaws c s { s with prt := s.prt.post n } := by
  have frame := Prt.post_frame s.prt n
  exact keeps_prt_quiet _ (s.prt.post_length n) (by rw [frame]) (by rw [frame]) (by rw [frame]) (by rw [frame]) (by rw [frame])

theorem keeps_post (s : State) (n : Notice) : KeepsLaws c s (s.post n) := keeps_postPrt s n

/-! ### The history -/

/-- A write of the history and the dirty set alone. -/
theorem keeps_history (touches : Touches [.flt, .sto] s t) (kept : t.flt.kept = s.flt.kept)
    (ring : t.flt.ring.length = s.flt.ring.length) (sto : t.sto = { s.sto with dirty := t.sto.dirty }) : KeepsLaws c s t := by
  have frame : t = { s with flt := t.flt, sto := t.sto } := by
    change State.mk t.powered t.mfe t.dta t.fre t.bsq t.ocu t.flt t.rlc t.prt t.sto t.clock t.pending = _
    rw [touches.powered, touches.pending, touches.mfe (by decide), touches.dta (by decide), touches.fre (by decide),
      touches.bsq (by decide), touches.ocu (by decide), touches.rlc (by decide), touches.prt (by decide),
      touches.clock (by decide)]
  simp only [Flt.kept, Prod.mk.injEq] at kept
  obtain ⟨active, lockout, counter, -, conditions, -⟩ := kept
  rw [frame]
  refine (keeps_flt_quiet (s := s) t.flt active (ring.trans ·) (counter ▸ id) lockout (fun _ => conditions ▸ id)).trans
    (keeps_sto_quiet _ ?_ ?_ ?_ ?_ ?_) <;> rw [sto]

theorem keeps_putSlot (s : State) (i : Nat) (x : HistorySlot) : KeepsLaws c s (s.putSlot i x) :=
  keeps_history (putSlot_touches s i x) rfl (putSlot_ring_length s i x) rfl

theorem keeps_createRecord (s : State) (r : HistoryRecord) : KeepsLaws c s (s.createRecord r) :=
  keeps_history (createRecord_touches s r) rfl (createRecord_ring_length s r) rfl

theorem keeps_recordRaise (s : State) (k : FaultKey) (b : Bool) : KeepsLaws c s (s.recordRaise k b) :=
  keeps_history (recordRaise_touches s k b) (recordRaise_kept s k b) (recordRaise_ring_length s k b) (recordRaise_sto s k b)

theorem keeps_fillCleared (s : State) (k : FaultKey) : KeepsLaws c s (s.fillCleared k) :=
  keeps_history (fillCleared_touches s k) (fillCleared_kept s k).1 (fillCleared_ring_length s k) (fillCleared_sto s k)

/-- A fold of operations of one kind. -/
theorem keeps_foldl {α : Type} {f : State → α → State} (step : ∀ u x, KeepsLaws c u (f u x)) (l : List α) (s : State) :
    KeepsLaws c s (l.foldl f s) := by
  induction l generalizing s with
  | nil => exact .refl c s
  | cons x rest ih => exact (step s x).trans (ih _)

theorem keeps_fillDuringLockout (s : State) : KeepsLaws c s s.fillDuringLockout :=
  keeps_foldl (fun u _ => keeps_putSlot u _ _) _ s

theorem keeps_clearHistory (s : State) : KeepsLaws c s s.clearHistory := by
  have emptied : KeepsLaws c s { s with flt := { s.flt with ring := List.replicate 32 ⟨none, none⟩ } } :=
    keeps_flt_quiet _ rfl (fun _ => List.length_replicate) id rfl (fun _ => id)
  have marked := fun u => keeps_foldl (c := c) (f := fun (v : State) i => v.markDirty (.slot i))
    (fun v _ => keeps_markDirty v _) (List.range 32) u
  unfold State.clearHistory
  exact (emptied.trans (marked _)).trans (keeps_markDirty _ _)

/-! ### Keys of the active fault set (R120, R121) -/

/-- R120: a blocking or advisory key more leaves the order of the set and its one locking key. -/
theorem ActiveLaw.addKey (h : ActiveLaw s) {k : FaultKey} (notLocking : keyClass k ≠ .locking) {x : Flt}
    (active : x.active = addKey s.flt.active k) (lockout : x.lockout = s.flt.lockout) : ActiveLaw { s with flt := x } where
  order := by dsimp only; rw [active]; exact addKey_sublist _ _
  cause j m locking := by
    dsimp only at m ⊢
    rw [active, mem_addKey] at m
    rw [lockout]
    exact h.cause j (m.resolve_right fun e => notLocking (e ▸ locking)) locking
  held l e := by
    dsimp only at e ⊢
    rw [active, mem_addKey]
    exact ⟨(h.held l (lockout ▸ e)).1, .inl (h.held l (lockout ▸ e)).2⟩

theorem ActiveLaw.dropKey (h : ActiveLaw s) {k : FaultKey} (notLocking : keyClass k ≠ .locking) {x : Flt}
    (active : x.active = dropKey s.flt.active k) (lockout : x.lockout = s.flt.lockout) : ActiveLaw { s with flt := x } where
  order := by dsimp only; rw [active]; exact dropKey_sublist k h.order
  cause j m locking := by
    dsimp only at m ⊢
    rw [active, mem_dropKey] at m
    rw [lockout]
    exact h.cause j m.1 locking
  held l e := by
    dsimp only at e ⊢
    obtain ⟨locking, isIn⟩ := h.held l (lockout ▸ e)
    rw [active, mem_dropKey]
    exact ⟨locking, isIn, fun e => notLocking (e ▸ locking)⟩

theorem faultUnit_frame (touches : Touches [.flt, .prt, .sto] s t) :
    t = { s with flt := t.flt, prt := t.prt, sto := t.sto } := by
  change State.mk t.powered t.mfe t.dta t.fre t.bsq t.ocu t.flt t.rlc t.prt t.sto t.clock t.pending = _
  rw [touches.powered, touches.pending, touches.mfe (by decide), touches.dta (by decide), touches.fre (by decide),
    touches.bsq (by decide), touches.ocu (by decide), touches.rlc (by decide), touches.clock (by decide)]

/-- A notice and marks of the dirty set, as they follow a write of the fault unit's record. -/
theorem keeps_noticeAndMarks (touches : Touches [.flt, .prt, .sto] s t) (prt : t.prt = s.prt ∨ ∃ n, t.prt = s.prt.post n)
    (sto : t.sto = { s.sto with dirty := t.sto.dirty }) : KeepsLaws c { s with flt := t.flt } t := by
  have notices : KeepsLaws c { s with flt := t.flt } { s with flt := t.flt, prt := t.prt } := by
    rcases prt with same | ⟨n, posted⟩
    · rw [same]; exact .refl c _
    · rw [posted]; exact keeps_postPrt _ n
  have marks : KeepsLaws c { s with flt := t.flt, prt := t.prt } { s with flt := t.flt, prt := t.prt, sto := t.sto } := by
    refine keeps_sto_quiet _ ?_ ?_ ?_ ?_ ?_ <;> rw [sto]
  exact faultUnit_frame touches ▸ notices.trans marks

theorem EntersKey.posts {k : FaultKey} (h : EntersKey k s t) : t.prt = s.prt ∨ ∃ n, t.prt = s.prt.post n := by
  rw [h.notice]
  split
  · exact .inl rfl
  · exact .inr ⟨_, rfl⟩

theorem LeavesKey.posts {k : FaultKey} (h : LeavesKey k s t) : t.prt = s.prt ∨ ∃ n, t.prt = s.prt.post n := by
  rw [h.notice]
  split
  · exact .inr ⟨_, rfl⟩
  · exact .inl rfl

theorem enterKey_b02 (s : State) {k : FaultKey} (notB02 : k ≠ .b02) :
    .b02 ∈ (s.enterKey k).flt.active → .b02 ∈ s.flt.active := by
  rw [← State.isActive_iff, ← State.isActive_iff, enterKey_isActive]
  simp [notB02.symm]

/-- Any key but b02 enters: the laws that do not speak of the lockout and the set. -/
theorem keepsMost_enterKey (s : State) {k : FaultKey} (notB02 : k ≠ .b02) : KeepsMost c s (s.enterKey k) := by
  have key := enterKey_enters s k
  have flt : KeepsMost c s { s with flt := (s.enterKey k).flt } :=
    keepsMost_flt _ (enterKey_b02 s notB02) ((enterKey_ring_length s k).trans ·) (by rw [key.flt]; exact id)
  exact flt.trans (keeps_noticeAndMarks key.touches key.posts key.sto).toKeepsMost

/-- A blocking or advisory key enters, once the laws that do not speak of the lockout and the set are kept. -/
theorem keeps_entered (s : State) {k : FaultKey} (notLocking : keyClass k ≠ .locking)
    (most : KeepsMost c s { s with flt := (s.enterKey k).flt }) : KeepsLaws c s (s.enterKey k) := by
  have key := enterKey_enters s k
  by_cases h : s.isActive k = true
  · rw [key.ignored h]; exact .refl c s
  · have active := key.active
    rw [if_neg h] at active
    refine (keeps_faults _ most ?_ ?_ ?_).trans (keeps_noticeAndMarks key.touches key.posts key.sto)
    · rw [key.flt]
    · exact fun law => law.addKey notLocking active (by rw [key.flt])
    · rw [key.flt]; exact fun _ => id

theorem keeps_enterKey (s : State) {k : FaultKey} (notLocking : keyClass k ≠ .locking) (notB02 : k ≠ .b02) :
    KeepsLaws c s (s.enterKey k) :=
  keeps_entered s notLocking (keepsMost_flt _ (enterKey_b02 s notB02) ((enterKey_ring_length s k).trans ·)
    (by rw [(enterKey_enters s k).flt]; exact id))

theorem keeps_leaveKey (s : State) {k : FaultKey} (notLocking : keyClass k ≠ .locking) : KeepsLaws c s (s.leaveKey k) := by
  have key := leaveKey_leaves s k
  refine (keeps_flt _ ?_ ((leaveKey_ring_length s k).trans ·) ?_ ?_ ?_ ?_).trans
    (keeps_noticeAndMarks key.touches key.posts key.sto)
  · rw [key.active, mem_dropKey]; exact And.left
  · rw [key.flt]; exact id
  · rw [key.flt]
  · exact fun law => law.dropKey notLocking key.active (by rw [key.flt])
  · rw [key.flt]; exact fun _ => id

theorem keeps_follow (s : State) {k : FaultKey} (notLocking : keyClass k ≠ .locking) (notB02 : k ≠ .b02) (b : Bool) :
    KeepsLaws c s (s.follow k b) := .ite (keeps_enterKey s notLocking notB02) (keeps_leaveKey s notLocking)

theorem keeps_hysteresis (s : State) {k : FaultKey} (notLocking : keyClass k ≠ .locking) (notB02 : k ≠ .b02) (x y : Bool) :
    KeepsLaws c s (s.hysteresis k x y) :=
  .ite (keeps_enterKey s notLocking notB02) (.ite (keeps_leaveKey s notLocking) (.refl c s))

end Sys2Proof.Machine

/-! SUPPORT. The operations of the firing-rate engine, the sequencer and the output channel unit keep the laws of a run, and so
does every stage of the end of an event. -/

namespace Sys2Proof.Machine

variable {c : Instr} {s t : State}

/-! ### What the end of an event may write -/

/-- An operation that may follow within the end of an event leaves most laws by its frame alone. -/
theorem EndsFrom.keepsMost (h : EndsFrom s t) (gas : GasLaw s → GasLaw t) (trip : TripLaw s → TripLaw t)
    (rate : RateLaw s → RateLaw t) (fan : FanFollows s → FanFollows t) : KeepsMost c s t where
  powered := h.powered
  pending := h.pending
  gas := gas
  trip := trip
  rate := rate
  fan := fan
  measure law := ⟨by rw [h.mfe]; exact law.ntc, by rw [h.mfe]; exact law.window, by rw [h.mfe]; exact law.short,
    by rw [isActive_of_active (s := s) (by rw [h.flt]), h.mfe]; exact law.b02⟩
  size law := ⟨by rw [h.prt]; exact law.notices, by rw [h.flt]; exact law.ring, by rw [h.sto]; exact law.history,
    by rw [h.rlc]; exact law.fifo, by rw [h.flt]; exact law.counter⟩
  counter law := by unfold CounterLaw; rw [h.prt]; exact law
  entry law := ⟨by rw [h.table, h.prt]; exact law.board, by rw [h.table, h.rlc]; exact law.room⟩
  staged law := by unfold StagedLaw; rw [h.prt]; exact law
  settings law := by rw [h.sto]; exact law
  trim := by rw [h.sto]
  nv _ := by rw [h.sto]

theorem EndsFrom.locked (h : EndsFrom s t) : t.locked = s.locked := by unfold State.locked; rw [h.flt]

theorem EndsFrom.activeLaw (h : EndsFrom s t) (law : ActiveLaw s) : ActiveLaw t :=
  ⟨by rw [h.flt]; exact law.order, by rw [h.flt]; exact law.cause, by rw [h.flt]; exact law.held⟩

/-- One that leaves the sequencer's state as well. -/
theorem EndsFrom.keeps (h : EndsFrom s t) (state : t.bsq.state = s.bsq.state) (gas : GasLaw s → GasLaw t)
    (trip : TripLaw s → TripLaw t) (rate : RateLaw s → RateLaw t) (fan : FanFollows s → FanFollows t)
    (floor : FloorLaw s → FloorLaw t) : KeepsLaws c s t where
  toKeepsMost := h.keepsMost gas trip rate fan
  lockout law := ⟨by rw [h.sto, state]; exact law.startup, by rw [h.locked, state]; exact law.held,
    by rw [h.locked, state]; exact law.only⟩
  active := h.activeLaw
  table law := ⟨by rw [h.sto]; exact law.valid, by rw [h.sto, h.flt, state]; exact law.invalid⟩
  floor _ := floor
  held locked := .inl (h.locked.trans locked)

/-! ### The output channel unit -/

theorem Ocu.unforce_guarded (o : Ocu) (x : TestChannel) :
    (o.unforce x).gv1 = o.gv1 ∧ (o.unforce x).gv2 = o.gv2 ∧ (o.unforce x).spark = o.spark := by
  cases x <;> exact ⟨rfl, rfl, rfl⟩

theorem Ocu.endTest_guarded (o : Ocu) (cause : TestEnd) :
    (o.endTest cause).gv1 = o.gv1 ∧ (o.endTest cause).gv2 = o.gv2 ∧ (o.endTest cause).spark = o.spark := by
  have all : ∀ (l : List (TestChannel × Nat)) (o : Ocu), (l.foldl (fun o x => o.unforce x.1) o).gv1 = o.gv1
      ∧ (l.foldl (fun o x => o.unforce x.1) o).gv2 = o.gv2 ∧ (l.foldl (fun o x => o.unforce x.1) o).spark = o.spark := by
    intro l
    induction l with
    | nil => exact fun o => ⟨rfl, rfl, rfl⟩
    | cons x rest ih =>
      intro o
      obtain ⟨gv1, gv2, spark⟩ := ih (o.unforce x.1)
      obtain ⟨gv1', gv2', spark'⟩ := o.unforce_guarded x.1
      exact ⟨gv1.trans gv1', gv2.trans gv2', spark.trans spark'⟩
  exact all o.test.listed o

/-- A write of channels that have no trip lines. -/
theorem keeps_ocu_unguarded (x : Ocu) (lines : x.lines = s.ocu.lines) (gv1 : x.gv1 = s.ocu.gv1) (gv2 : x.gv2 = s.ocu.gv2)
    (spark : x.spark = s.ocu.spark) (fan : x.fan.owner = s.ocu.fan.owner) : KeepsLaws c s { s with ocu := x } :=
  keeps_ocu_quiet x lines (by rw [gv1]; exact ⟨rfl, rfl⟩) (by rw [gv2]; exact ⟨rfl, rfl⟩) (by rw [spark]; exact ⟨rfl, rfl⟩) fan

theorem keeps_endTest (s : State) (cause : TestEnd) : KeepsLaws c s (s.endTest cause) := by
  unfold State.endTest
  refine .ite ?_ (.refl c s)
  split
  · obtain ⟨gv1, gv2, spark⟩ := Ocu.endTest_guarded
      { s.ocu with diverter := { s.ocu.diverter with owner := .steady false } } cause
    exact (keeps_dta_quiet s.dta.home rfl rfl).trans
      (keeps_ocu_unguarded _ (Ocu.endTest_lines _ _) gv1 gv2 spark (endTest_fanOwner _ _))
  · obtain ⟨gv1, gv2, spark⟩ := s.ocu.endTest_guarded cause
    exact keeps_ocu_unguarded _ (Ocu.endTest_lines _ _) gv1 gv2 spark (endTest_fanOwner _ _)

theorem Ocu.commandPump_guarded (o : Ocu) (r : PumpRequest) :
    (o.commandPump r).gv1 = o.gv1 ∧ (o.commandPump r).gv2 = o.gv2 ∧ (o.commandPump r).spark = o.spark := by
  unfold Ocu.commandPump
  split
  · exact ⟨rfl, rfl, rfl⟩
  · dsimp only
    split <;> exact ⟨rfl, rfl, rfl⟩

theorem keeps_driveOutputs (s : State) : KeepsLaws c s s.driveOutputs := by
  obtain ⟨gv1, gv2, spark⟩ := s.ocu.commandPump_guarded s.dta.plan.pump
  exact keeps_ocu_unguarded _ (Ocu.commandPump_lines _ _) gv1 gv2 spark (congrArg ChannelRecord.owner (commandPump_fan _ _))

/-! ### The fan target (R72) -/

theorem keeps_setFanTarget (s : State) (r : Nat) : KeepsLaws c s (s.setFanTarget r) := by
  have state := State.setFanTarget_state s r
  obtain ⟨gasOpen, spark, -⟩ := setFanTarget_burner s r
  refine (setFanTarget_endsFrom s r).keeps state (fun h => ⟨?_, ?_, ?_, ?_, ?_, ?_⟩) id (fun h e => h (state ▸ e))
    (fun _ => setFanTarget_fan s r) (fun h e => h (state ▸ e)) <;> rw [state]
  · rw [gasOpen]; exact h.gasFlag
  · rw [spark]; exact h.sparkFlag
  · exact h.gv1
  · exact h.gv2
  · exact h.spark
  · exact h.flame

/-! ### The firing-rate engine -/

theorem boundedRate_floor (caps : Caps) (a : ActiveCaps) (rmin wanted : Int) (ramp : Option Int) (own : LimitReason) :
    rmin ≤ (boundedRate caps a rmin wanted ramp own).1 := by
  unfold boundedRate
  cases ramp <;> dsimp only <;> split <;> dsimp only <;> omega

/-- R65: a new rate with its reason, and in RUNNING the fan target that follows a change of it. -/
theorem takeRate_eq (s : State) (r : Int × LimitReason) :
    let u := { s with fre := { s.fre with lastRate := r.1, reason := r.2 } }
    s.takeRate r = if r.1 = s.fre.lastRate then u else
      if s.bsq.state = .running then u.setFanTarget (s.sto.table.speedFor r.1) else u := by
  unfold State.takeRate State.handRate
  dsimp only
  split
  · rfl
  · split <;> rfl

/-- R62, R65: a rate from rmin up is taken, which the rate's law allows in RUNNING alone. -/
theorem keeps_takeRate (s : State) (r : Int × LimitReason) (running : RateLaw s → s.bsq.state = .running)
    (floor : s.sto.table.rmin ≤ r.1) : KeepsLaws c s (s.takeRate r) := by
  have written : KeepsLaws c s { s with fre := { s.fre with lastRate := r.1, reason := r.2 } } :=
    keeps_fre _ (fun h e => absurd (running h) e) (fun _ _ => floor)
  rw [takeRate_eq]
  exact .ite written (.ite (written.trans (keeps_setFanTarget _ _)) written)

@[simp] theorem takeRate_state (s : State) (r : Int × LimitReason) : (s.takeRate r).bsq.state = s.bsq.state := by
  rw [takeRate_eq]
  dsimp only
  split
  · rfl
  · split <;> simp

/-- R62: the least cap, or rmin where it is lower, is taken in RUNNING alone. -/
theorem keeps_applyCaps (s : State) : KeepsLaws c s s.applyCaps := by
  have formed : KeepsLaws c s { s with fre := { s.fre with caps := s.formedCaps } } := keeps_fre_quiet _ rfl rfl rfl rfl
  unfold State.applyCaps
  dsimp only
  split
  · next high => exact formed.trans (keeps_takeRate _ _ (fun _ => high.1) (boundedRate_floor _ _ _ _ _ _))
  · exact formed

theorem keeps_serviceForm (s : State) (running : RateLaw s → s.bsq.state = .running) : KeepsLaws c s s.serviceForm :=
  keeps_takeRate s _ running (boundedRate_floor _ _ _ _ _ _)

/-- A write of the firing-rate engine in RUNNING that leaves the last rate. -/
theorem keeps_fre_running (x : Fre) (running : s.bsq.state = .running) (lastRate : x.lastRate = s.fre.lastRate) :
    KeepsLaws c s { s with fre := x } :=
  keeps_fre x (fun _ e => absurd running e) (fun _ h => by rw [lastRate]; exact h)

theorem keeps_bumplessLoad (s : State) : KeepsLaws c s s.bumplessLoad := keeps_fre_quiet _ rfl rfl rfl rfl

@[simp] theorem applyCaps_state (s : State) : s.applyCaps.bsq.state = s.bsq.state := by
  unfold State.applyCaps
  dsimp only
  split <;> simp

theorem keeps_serveMode (s : State) : KeepsLaws c s s.serveMode := by
  unfold State.serveMode
  split
  · next run =>
    obtain ⟨running, -⟩ := run
    have served := fun m => keeps_fre_running (c := c) (s := s) (s.fre.serve m) running rfl
    cases s.dta.plan.mode <;> dsimp only
    · exact (served .none).trans (keeps_fre_running _ running rfl)
    · refine (((served .ch).trans (keeps_applyCaps _)).trans (keeps_bumplessLoad _)).trans (keeps_fre_running _ ?_ rfl)
      exact (applyCaps_state _).trans running
    · exact (served .dhw).trans (keeps_fre_running _ running rfl)
    · refine ((served .service).trans (keeps_serviceForm _ fun _ => running)).trans (keeps_fre_running _ ?_ rfl)
      exact (takeRate_state _ _).trans running
  · exact .refl c s

theorem keeps_chCompute (s : State) (running : RateLaw s → s.bsq.state = .running) : KeepsLaws c s s.chCompute := by
  unfold State.chCompute
  split
  · exact (keeps_takeRate s _ running (boundedRate_floor _ _ _ _ _ _)).trans (keeps_fre_quiet _ rfl rfl rfl rfl)
  · exact .refl c s

theorem keeps_dhwCompute (s : State) (running : RateLaw s → s.bsq.state = .running) : KeepsLaws c s s.dhwCompute := by
  unfold State.dhwCompute
  split
  · exact (keeps_takeRate s _ running (boundedRate_floor _ _ _ _ _ _)).trans (keeps_fre_quiet _ rfl rfl rfl rfl)
  · exact .refl c s

/-! ### A change of the sequencer's state -/

/-- R106, R108: what `TripLaw` says of the output channel unit. -/
def Ocu.HoldsTrip (o : Ocu) : Prop :=
  o.lines.nonempty = true →
    (o.spark.state = .tripped ∧ o.spark.rearmPending = false)
    ∧ (o.gv1.state = .tripped ∧ o.gv1.rearmPending = false)
    ∧ (o.gv2.state = .tripped ∧ o.gv2.rearmPending = false)

/-- R103: a TRIPPED channel stays TRIPPED at a close command. -/
theorem Ocu.HoldsTrip.closeValve {o : Ocu} (h : o.HoldsTrip) (v : GasValve) : (o.closeValve v).HoldsTrip := by
  intro on
  rw [Ocu.closeValve_lines] at on
  obtain ⟨spark, gv1, gv2⟩ := h on
  cases v <;> simp [Ocu.closeValve, Ocu.get, Ocu.set, valveChannel, spark, gv1, gv2]

theorem Ocu.HoldsTrip.openValve {o : Ocu} (h : o.HoldsTrip) (v : GasValve) (t : CombustionTable) :
    (o.openValve v t).HoldsTrip := by
  intro on
  rw [Ocu.openValve_lines] at on
  obtain ⟨spark, gv1, gv2⟩ := h on
  cases v <;> simp [Ocu.openValve, Ocu.get, valveChannel, spark, gv1, gv2]

theorem commandGas_trip (h : TripLaw s) (b : Bool) : TripLaw (s.commandGas b) := by
  cases b
  · exact Ocu.HoldsTrip.closeValve (Ocu.HoldsTrip.closeValve (o := s.ocu) h .gv1) .gv2
  · exact Ocu.HoldsTrip.openValve (Ocu.HoldsTrip.openValve (o := s.ocu) h .gv1 _) .gv2 _

theorem commandSpark_trip (h : TripLaw s) (b : Bool) : TripLaw (s.commandSpark b) := by
  intro on
  obtain ⟨spark, gv1, gv2⟩ := h on
  refine ⟨?_, gv1, gv2⟩
  cases b <;> simp [State.commandSpark, ChannelRecord.trigger, ChannelRecord.stop, spark]

theorem goto_trip (h : TripLaw s) (q : SeqState) : TripLaw (s.goto q) := by
  have left : TripLaw { s.leaveFor q with bsq := (s.leaveFor q).bsq.enter (s.leaveFor q).sto.table q } := h
  unfold State.goto
  dsimp only
  split <;> split
  · exact left
  · exact commandGas_trip left false
  · exact commandSpark_trip left false
  · exact commandSpark_trip (commandGas_trip left false) false

theorem goto_fre (s : State) (q : SeqState) : (s.goto q).fre = (s.leaveFor q).fre := by
  unfold State.goto
  dsimp only
  split <;> split <;> simp [State.commandGas, State.commandSpark]

/-- R51: a change to another state than RUNNING leaves no rate. -/
theorem goto_rate (h : RateLaw s) {q : SeqState} (leaves : q ≠ .running) : RateLaw (s.goto q) := by
  intro _
  rw [goto_fre]
  by_cases run : s.bsq.state = .running
  · simp [State.leaveFor, run, leaves, Fre.stop]
  · simpa [State.leaveFor, run] using h run

theorem goto_gas (s : State) {q : SeqState} (shut : q.gasOpen = false) : GasLaw (s.goto q) := by
  have notSafety : q ≠ .safetyTime := by rintro rfl; exact Bool.noConfusion shut
  obtain ⟨gasOpen, gv1, gv2⟩ := goto_gasOff s shut
  obtain ⟨spark, train⟩ := goto_sparkOff s shut
  have state := goto_state s q
  exact {
    gasFlag := by rw [gasOpen, state, shut]
    sparkFlag := by rw [spark, state]; simp [notSafety]
    gv1 := fun e => absurd e gv1
    gv2 := fun e => absurd e gv2
    spark := fun e => absurd e train
    flame := fun e => absurd (state.symm.trans e) notSafety }

/-- A change to a state without gas: the laws that do not speak of the state and the lockout. -/
theorem keepsMost_goto (s : State) {q : SeqState} (shut : q.gasOpen = false) : KeepsMost c s (s.goto q) :=
  (goto_endsFrom s q).keepsMost (fun _ => goto_gas s shut) (fun h => goto_trip h q)
    (fun h => goto_rate h (by rintro rfl; exact Bool.noConfusion shut)) (fun _ => goto_fan s q)

/-- The states that no lockout law singles out. -/
abbrev SeqState.plain (q : SeqState) : Prop := q ≠ .startCheck ∧ q ≠ .lockout

/-- A change between plain states of which the new one has no gas. -/
theorem keeps_goto (s : State) {q : SeqState} (old : s.bsq.state.plain) (new : q.plain) (shut : q.gasOpen = false) :
    KeepsLaws c s (s.goto q) := by
  have ends := goto_endsFrom s q
  have state := goto_state s q
  exact {
    toKeepsMost := keepsMost_goto s shut
    lockout := fun h => {
      startup := by rw [ends.sto, state]; exact h.startup.trans (by simp [old.1, new.1])
      held := fun e => absurd (state.symm.trans e) new.2
      only := fun e => absurd (h.only (ends.locked ▸ e)) (by simp [old.1, old.2]) }
    active := ends.activeLaw
    table := fun h => {
      valid := by rw [ends.sto]; exact h.valid
      invalid := fun e => absurd (h.invalid (by rw [ends.sto] at e; exact e)) (by simp [old.1, old.2]) }
    floor := fun _ _ e => by rw [state] at e; subst e; exact Bool.noConfusion shut
    held := fun e => .inl (ends.locked.trans e) }

end Sys2Proof.Machine

/-! SUPPORT. Every stage of the end of an event keeps the laws of a run, and so do a lockout that begins, the trips and the
flame's changes. -/

namespace Sys2Proof.Machine

variable {c : Instr} {s t : State}

/-! ### The stages of the end of an event -/

theorem keeps_guardTap (s : State) : KeepsLaws c s s.guardTap := by
  unfold State.guardTap
  refine keeps_dta_quiet _ ?_ ?_ <;> dsimp only <;> split <;> first | rfl | (split <;> rfl)

theorem keeps_judgeKeepwarm (s : State) : KeepsLaws c s s.judgeKeepwarm := by
  unfold State.judgeKeepwarm
  refine keeps_dta_quiet _ ?_ ?_ <;> dsimp only <;> split <;> split <;> rfl

theorem keeps_evaluate (s : State) : KeepsLaws c s s.evaluate :=
  (keeps_dta_quiet (s := s) s.evaluated rfl rfl).trans (keeps_rlc s.evaluate.rlc id fun _ => rfl)

theorem keeps_drivePins (s : State) : KeepsLaws c s s.drivePins :=
  ((keeps_flt_quiet (s := s) s.drivePins.flt rfl id id rfl fun _ => id).trans (keeps_rlc s.drivePins.rlc id fun _ => rfl)).trans
    (keeps_prt_quiet s.drivePins.prt id rfl rfl rfl rfl rfl)

theorem keeps_remark (s : State) : KeepsLaws c s s.remark := by
  unfold State.remark
  split
  · exact .refl c s
  · exact .ite (.refl c s) (keeps_markDirty s _)

theorem keeps_startWrite (s : State) : KeepsLaws c s s.startWrite := by
  unfold State.startWrite
  refine .ite ?_ (.refl c s)
  split
  · exact .refl c s
  · exact keeps_sto_quiet _ rfl rfl rfl rfl rfl

/-- R108: a re-arm asked for moves no channel, and none is set pending while a line is active. -/
theorem ChannelRecord.askRearm_state (r : ChannelRecord) (lines : TripSet) : (r.askRearm lines).state = r.state := by
  unfold ChannelRecord.askRearm
  split <;> rfl

theorem ChannelRecord.askRearm_tripped {r : ChannelRecord} {lines : TripSet} (on : lines.nonempty = true)
    (h : r.state = .tripped ∧ r.rearmPending = false) :
    (r.askRearm lines).state = .tripped ∧ (r.askRearm lines).rearmPending = false := by
  have refused : r.askRearm lines = r := by simp [ChannelRecord.askRearm, ChannelRecord.rearmResult, h.1, on]
  rwa [refused]

theorem keeps_askRearm (s : State) : KeepsLaws c s s.askRearm := by
  have armed : KeepsLaws c s { s with ocu := s.askRearm.ocu } := by
    refine keeps_ocu _ (fun h on => ?_) ?_ ?_ ?_ rfl
    · obtain ⟨spark, gv1, gv2⟩ := h on
      exact ⟨ChannelRecord.askRearm_tripped on spark, ChannelRecord.askRearm_tripped on gv1,
        ChannelRecord.askRearm_tripped on gv2⟩
    · exact fun e => (ChannelRecord.askRearm_state _ _).symm.trans e
    · exact fun e => (ChannelRecord.askRearm_state _ _).symm.trans e
    · exact fun e => (ChannelRecord.askRearm_state _ _).symm.trans e
  exact armed.trans (keeps_bsq s.askRearm.bsq rfl rfl rfl rfl)

theorem plain_of {q : SeqState} (h : s.bsq.state = q) (p : q.plain) : s.bsq.state.plain := h ▸ p

theorem keeps_startBurn (s : State) (idle : s.bsq.state = .idle) : KeepsLaws c s s.startBurn := by
  have begun : KeepsLaws c s { s with bsq := s.bsq.beginBurn } := keeps_bsq _ rfl rfl rfl rfl
  have entered : KeepsLaws c s (State.goto { s with bsq := s.bsq.beginBurn } .preCheck) :=
    begun.trans (keeps_goto _ (plain_of (s := { s with bsq := s.bsq.beginBurn }) idle (by decide)) (by decide) rfl)
  have asked := entered.trans (keeps_askRearm _)
  unfold State.startBurn
  exact .ite (asked.trans (keeps_goto _ (plain_of (goto_state _ _) (by decide)) (by decide) rfl)) asked

theorem keeps_judgeRequest (s : State) : KeepsLaws c s s.judgeRequest := by
  have leads : ∀ {p q : SeqState}, s.bsq.state = p → p.plain → q.plain → q.gasOpen = false → KeepsLaws c s (s.goto q) :=
    fun e old new shut => keeps_goto s (plain_of e old) new shut
  unfold State.judgeRequest
  split
  · split
    · exact keeps_startBurn s ‹_›
    · exact .refl c s
  · split
    · exact leads ‹_› (by decide) (by decide) rfl
    · exact leads ‹_› (by decide) (by decide) rfl
    · split <;> exact leads ‹_› (by decide) (by decide) rfl
    · exact leads ‹_› (by decide) (by decide) rfl
    · exact leads ‹_› (by decide) (by decide) rfl
    · exact leads ‹_› (by decide) (by decide) rfl
    · exact leads ‹_› (by decide) (by decide) rfl
    · exact .refl c s

theorem keeps_judgePreCheck (s : State) : KeepsLaws c s s.judgePreCheck := by
  unfold State.judgePreCheck
  split
  · next done => exact keeps_goto s (plain_of done.1 (by decide)) (by decide) rfl
  · exact .refl c s

/-- The end of an event keeps the laws, stage by stage. -/
theorem keeps_stageKept (c : Instr) : StageKept (KeepsLaws c) where
  refl := .refl c
  trans := .trans
  guardTap := keeps_guardTap
  judgeKeepwarm := keeps_judgeKeepwarm
  endTest := keeps_endTest
  formTargets _ := keeps_fre_quiet _ rfl rfl rfl rfl
  evaluate := keeps_evaluate
  serveMode := keeps_serveMode
  applyCaps := keeps_applyCaps
  judgeRequest := keeps_judgeRequest
  judgePreCheck := keeps_judgePreCheck
  driveOutputs := keeps_driveOutputs
  drivePins := keeps_drivePins
  remark := keeps_remark
  startWrite := keeps_startWrite

theorem keeps_settle (s : State) : KeepsLaws c s s.settle := (keeps_stageKept c).settle s

/-! ### A lockout begins (R122) -/

theorem locking_ne_b02 {k : FaultKey} (locking : keyClass k = .locking) : k ≠ .b02 := by
  rintro rfl
  exact absurd locking (by decide)

theorem beginLockout_isActive (s : State) (k j : FaultKey) :
    (s.beginLockout k).isActive j = (s.isActive j || j == k) := by
  rw [beginLockout_eq, (endTest_touches _ _).isActive (by decide)]
  exact enterKey_isActive (s.recordLockout k) k j

theorem beginLockout_order (s : State) (k : FaultKey) (h : s.flt.active.Sublist allKeys) :
    (s.beginLockout k).flt.active.Sublist allKeys := by
  rw [beginLockout_eq, (endTest_touches _ _).flt (by decide)]
  change ((s.recordLockout k).enterKey k).flt.active.Sublist allKeys
  rw [(enterKey_enters _ _).active]
  split
  · exact h
  · exact addKey_sublist _ _

/-- R120, R122: a lockout begun from none leaves its cause the one locking key of the set. -/
theorem ActiveLaw.begin (h : ActiveLaw s) (free : s.flt.lockout = none) {l : Lockout} (lockout : t.flt.lockout = some l)
    (locking : keyClass l.cause = .locking) (order : t.flt.active.Sublist allKeys)
    (active : ∀ j, t.isActive j = (s.isActive j || j == l.cause)) : ActiveLaw t where
  order := order
  cause j m e := by
    have isIn := active j ▸ (t.isActive_iff j).2 m
    rw [lockout]
    rcases Bool.or_eq_true _ _ ▸ isIn with old | same
    · exact absurd (h.cause j ((s.isActive_iff j).1 old) e) (by rw [free]; exact nofun)
    · rw [beq_iff_eq.1 same]; rfl
  held m e := by
    obtain rfl : l = m := Option.some.inj (lockout.symm.trans e)
    exact ⟨locking, (t.isActive_iff _).1 (by rw [active]; simp)⟩

theorem free_of_unlocked (free : s.locked = false) : s.flt.lockout = none := by
  simpa [State.locked] using free

theorem keepsMost_beginLockout (s : State) {k : FaultKey} (notB02 : k ≠ .b02) : KeepsMost c s (s.beginLockout k) := by
  have recorded : KeepsMost c s (s.recordLockout k) :=
    (keepsMost_flt (s := s) { s.flt with lockout := some ⟨k, s.bsq.state, s.bsq.attempts, s.minute⟩ } id id id).trans
      ((keeps_markDirty _ _).trans (keeps_markDirty _ _)).toKeepsMost
  have entered := recorded.trans (keepsMost_enterKey (c := c) (s.recordLockout k) notB02)
  rw [beginLockout_eq]
  generalize (s.recordLockout k).enterKey k = m at entered
  have service : KeepsLaws c m { m with dta := { m.dta with table := { m.dta.table with service := none } } } :=
    keeps_dta_quiet _ rfl rfl
  exact entered.trans (service.trans (keeps_endTest _ _)).toKeepsMost

/-- A lockout that begins in START-CHECK, or where LOCKOUT stands already. -/
theorem keeps_beginLockout (s : State) {k : FaultKey} (locking : keyClass k = .locking) (free : s.locked = false)
    (state : s.bsq.state = .lockout ∨ s.bsq.state = .startCheck) : KeepsLaws c s (s.beginLockout k) := by
  have begun := beginLockout_begins s k
  have bsq := begun.touches.bsq (by decide)
  exact {
    toKeepsMost := keepsMost_beginLockout s (locking_ne_b02 locking)
    lockout := fun h => {
      startup := by rw [begun.sto, bsq]; exact h.startup
      held := fun _ => by rw [State.locked, begun.lockout]; rfl
      only := fun _ => by rw [bsq]; exact state }
    active := fun h => h.begin (free_of_unlocked free) begun.lockout locking (beginLockout_order s k h.order)
      (beginLockout_isActive s k)
    table := fun h => {
      valid := by rw [begun.sto]; exact h.valid
      invalid := fun e => by
        rw [bsq]
        refine .inl ((h.invalid (by rw [begun.sto] at e; exact e)).resolve_right fun ⟨_, cause, _⟩ => ?_)
        rw [free_of_unlocked free] at cause
        exact nomatch cause }
    floor := fun _ h e => by rw [bsq] at e; rcases state with x | x <;> rw [x] at e <;> exact nomatch e
    held := fun e => absurd (free.symm.trans e) nofun }

/-- A locking key raised where a lockout stands goes to the history alone (R123). -/
theorem keeps_raiseLocking_held (s : State) (k : FaultKey) (held : s.locked = true) : KeepsLaws c s (s.raiseLocking k) := by
  unfold State.raiseLocking
  rw [if_pos held]
  exact .ite (.refl c s) (keeps_recordRaise s k true)

theorem raised_locked (s : State) (k : FaultKey) (held : s.locked = true) : (s.raiseLocking k).locked = true := by
  have kept := recordRaise_kept s k true
  simp only [Flt.kept, Prod.mk.injEq] at kept
  unfold State.raiseLocking
  rw [if_pos held]
  split
  · exact held
  · rw [State.locked, kept.2.1]; exact held

theorem keeps_raiseLocking (s : State) {k : FaultKey} (locking : keyClass k = .locking)
    (state : s.bsq.state = .lockout ∨ s.bsq.state = .startCheck) : KeepsLaws c s (s.raiseLocking k) := by
  cases held : s.locked
  · have begins : s.raiseLocking k = s.beginLockout k := if_neg (by simp [held])
    exact begins ▸ keeps_beginLockout s locking held state
  · exact keeps_raiseLocking_held s k held

/-- A lockout recorded and entered in one operation, from a plain state. -/
theorem keeps_lockNow (s : State) {k : FaultKey} (locking : keyClass k = .locking) (free : s.locked = false)
    (state : s.bsq.state.plain) : KeepsLaws c s ((s.beginLockout k).goto .lockout) := by
  have begun := beginLockout_begins s k
  have ends := goto_endsFrom (s.beginLockout k) .lockout
  have entered := goto_state (s.beginLockout k) .lockout
  have sto := (goto_touches (s.beginLockout k) .lockout).sto (by decide)
  have held : ((s.beginLockout k).goto .lockout).locked = true := by
    rw [ends.locked, State.locked, begun.lockout]; rfl
  exact {
    toKeepsMost := (keepsMost_beginLockout s (locking_ne_b02 locking)).trans (keepsMost_goto _ rfl)
    lockout := fun h => {
      startup := by rw [sto, begun.sto, entered]; exact h.startup.trans (by simp [state.1])
      held := fun _ => held
      only := fun _ => .inl entered }
    active := fun h => ends.activeLaw (h.begin (free_of_unlocked free) begun.lockout locking (beginLockout_order s k h.order)
      (beginLockout_isActive s k))
    table := fun h => {
      valid := by rw [sto, begun.sto]; exact h.valid
      invalid := fun e => absurd (h.invalid (by rw [sto, begun.sto] at e; exact e)) (by simp [state.1, state.2]) }
    floor := fun _ _ e => nomatch entered.symm.trans e
    held := fun _ => .inl held }

/-- LOCKOUT is entered from a plain state for a lockout that is held already. -/
theorem keeps_enterLockout (s : State) (held : s.locked = true) (state : s.bsq.state.plain) :
    KeepsLaws c s (s.goto .lockout) := by
  have ends := goto_endsFrom s .lockout
  have entered := goto_state s .lockout
  exact {
    toKeepsMost := keepsMost_goto s rfl
    lockout := fun h => absurd (h.only held) (by simp [state.1, state.2])
    active := ends.activeLaw
    table := fun h => {
      valid := by rw [ends.sto]; exact h.valid
      invalid := fun e => absurd (h.invalid (by rw [ends.sto] at e; exact e)) (by simp [state.1, state.2]) }
    floor := fun _ _ e => nomatch entered.symm.trans e
    held := fun e => .inl (ends.locked.trans e) }

/-- LOCKOUT entered from LOCKOUT is no change. -/
theorem gotoLockout_lockout (h : s.bsq.state = .lockout) : s.gotoLockout = s := if_pos h

theorem raiseLocking_bsq (s : State) (k : FaultKey) : (s.raiseLocking k).bsq = s.bsq :=
  (raiseLocking_touches s k).bsq (by decide)

/-- R93: a locking cause of the sequencer's own, in any state but START-CHECK. -/
theorem keeps_lockWith (s : State) {k : FaultKey} (locking : keyClass k = .locking) (state : s.bsq.state ≠ .startCheck) :
    KeepsLaws c s (s.lockWith k) := by
  unfold State.lockWith
  by_cases standing : s.bsq.state = .lockout
  · rw [gotoLockout_lockout (by rwa [raiseLocking_bsq])]
    exact keeps_raiseLocking s locking (.inl standing)
  · have leaves : (s.raiseLocking k).gotoLockout = (s.raiseLocking k).goto .lockout :=
      if_neg (by rwa [raiseLocking_bsq])
    rw [leaves]
    cases held : s.locked
    · have begins : s.raiseLocking k = s.beginLockout k := if_neg (by simp [held])
      exact begins ▸ keeps_lockNow s locking held ⟨state, standing⟩
    · have raised := keeps_raiseLocking_held (c := c) s k held
      exact raised.trans (keeps_enterLockout _ (raised_locked s k held) (by rw [raiseLocking_bsq]; exact ⟨state, standing⟩))

end Sys2Proof.Machine

/-! SUPPORT. The sequencer's own changes keep the laws of a run: trips, coil faults, fan-proving failures, the flame, the entry
of SAFETY-TIME and of RUNNING, and an accepted lockout reset. -/

namespace Sys2Proof.Machine

variable {c : Instr} {s t : State}

/-! ### Causes of a lockout (R90 to R94) -/

theorem keeps_raiseForeign (s : State) {k : FaultKey} (locking : keyClass k = .locking) : KeepsLaws c s (s.raiseForeign k) := by
  have state := raiseLocking_bsq s k
  unfold State.raiseForeign
  dsimp only
  by_cases check : s.bsq.state = .startCheck
  · rw [if_neg (by simp [state, check])]
    exact keeps_raiseLocking s locking (.inr check)
  · cases held : s.locked
    · rw [if_pos (by simp [state, check])]
      exact keeps_lockWith s locking check
    · rw [if_neg (by simp)]
      exact keeps_raiseLocking_held s k held

theorem keeps_notePending (s : State) (x : PendingCause) : KeepsLaws c s (s.notePending x) := keeps_bsq _ rfl rfl rfl rfl

/-- What START-CHECK, LOCKOUT and every other state do with a locking cause of the channels (R90, R92). -/
theorem keeps_takeLimit (s : State) : KeepsLaws c s s.takeLimit := by
  unfold State.takeLimit
  split
  · exact keeps_notePending s _
  · exact keeps_raiseLocking s rfl (.inl ‹_›)
  · next other _ => exact keeps_lockWith s rfl other

theorem keeps_coilFault (s : State) (r : CoilReport) : KeepsLaws c s (s.coilFault r) := by
  have reported : KeepsLaws c s { s with bsq := { s.bsq with coilReport := some r } } := keeps_bsq _ rfl rfl rfl rfl
  unfold State.coilFault
  dsimp only
  split
  · exact reported.trans (keeps_notePending _ _)
  · exact reported.trans (keeps_raiseLocking _ rfl (.inl ‹_›))
  · next other _ => exact reported.trans (keeps_lockWith _ rfl other)

theorem keeps_takeBlock (s : State) : KeepsLaws c s s.takeBlock := by
  have leads : ∀ {p q : SeqState}, s.bsq.state = p → p.plain → q.plain → q.gasOpen = false → KeepsLaws c s (s.goto q) :=
    fun e old new shut => keeps_goto s (plain_of e old) new shut
  unfold State.takeBlock
  split
  · exact leads ‹_› (by decide) (by decide) rfl
  · exact leads ‹_› (by decide) (by decide) rfl
  · exact leads ‹_› (by decide) (by decide) rfl
  · exact leads ‹_› (by decide) (by decide) rfl
  · split <;> exact leads ‹_› (by decide) (by decide) rfl
  · exact leads ‹_› (by decide) (by decide) rfl
  · exact leads ‹_› (by decide) (by decide) rfl
  · exact .refl c s

theorem keeps_takeTrip (s : State) (causes : TripSet) : KeepsLaws c s (s.takeTrip causes) :=
  .ite (keeps_takeLimit s) (keeps_takeBlock s)

/-- R81: a fan-proving failure of a plain state leads to a plain state without gas, or locks out. -/
theorem keeps_provingFailure (s : State) {dest : SeqState} (state : s.bsq.state.plain) (plain : dest.plain)
    (shut : dest.gasOpen = false) : KeepsLaws c s (s.provingFailure dest) := by
  have counted : KeepsLaws c s { s with bsq := { s.bsq with provingFailures := s.bsq.provingFailures + 1 } } :=
    keeps_bsq _ rfl rfl rfl rfl
  unfold State.provingFailure
  dsimp only
  split
  · have raised := counted.trans (keeps_enterKey _ (k := .b06) (by decide) (by decide))
    have timed := raised.trans (keeps_bsq { (State.enterKey { s with
      bsq := { s.bsq with provingFailures := s.bsq.provingFailures + 1 } } .b06).bsq with b06Timer := some Config.b06Ms }
      rfl rfl rfl rfl)
    refine timed.trans (keeps_goto _ ?_ plain shut)
    dsimp only
    rw [(enterKey_touches _ _).bsq (by decide)]
    exact state
  · exact counted.trans (keeps_lockWith _ rfl state.1)

theorem keeps_failedAttempt (s : State) (state : s.bsq.state.plain) : KeepsLaws c s s.failedAttempt := by
  have counted : KeepsLaws c s { s with bsq := { s.bsq with attempts := s.bsq.attempts + 1 } } := keeps_bsq _ rfl rfl rfl rfl
  exact .ite (counted.trans (keeps_goto _ state (by decide) rfl)) (counted.trans (keeps_lockWith _ rfl state.1))

theorem keeps_lossInRunning (s : State) (state : s.bsq.state.plain) : KeepsLaws c s s.lossInRunning := by
  have used : KeepsLaws c s { s with bsq := { s.bsq with recycleUsed := true } } := keeps_bsq _ rfl rfl rfl rfl
  exact .ite (keeps_lockWith s rfl state.1) (used.trans (keeps_goto _ state (by decide) rfl))

theorem keeps_unlessTripped (s : State) {f : State → State} (other : KeepsLaws c s (f s)) :
    KeepsLaws c s (s.unlessTripped f) := by
  unfold State.unlessTripped
  split
  · exact keeps_takeTrip s _
  · exact other

/-! ### SAFETY-TIME is entered (R82) -/

theorem Ocu.openValve_fan (o : Ocu) (v : GasValve) (t : CombustionTable) : (o.openValve v t).fan = o.fan := by
  unfold Ocu.openValve
  cases v <;> dsimp only <;> split <;> rfl

theorem commandGas_fan (h : FanFollows s) (b : Bool) : FanFollows (s.commandGas b) := by
  have same : (s.commandGas b).ocu.fan = s.ocu.fan := by
    cases b
    · exact (Ocu.closeValve_get_other _ .gv2 .fan nofun).trans (Ocu.closeValve_get_other _ .gv1 .fan nofun)
    · exact (Ocu.openValve_fan _ .gv2 _).trans (Ocu.openValve_fan _ .gv1 _)
  unfold FanFollows at h ⊢
  rw [same, h]
  cases b <;> rfl

/-- The part as SAFETY-TIME has been entered, but for the list of refused opens. -/
def State.ignited (s : State) : State := ((s.goto .safetyTime).commandGas true).commandSpark true

theorem ignited_endsFrom (s : State) : EndsFrom s s.ignited :=
  ((goto_endsFrom s .safetyTime).trans (commandGas_endsFrom _ true)).trans (commandSpark_endsFrom _ true)

theorem ignited_state (s : State) : s.ignited.bsq.state = .safetyTime := goto_state s .safetyTime

theorem keeps_ignited (s : State) (state : s.bsq.state = .ignitionSpeed) (flame : s.mfe.flameOn = false) :
    KeepsLaws c s s.ignited := by
  have ends := ignited_endsFrom s
  have entered := ignited_state s
  have fan : FanFollows s.ignited := commandGas_fan (goto_fan s .safetyTime) true
  exact {
    toKeepsMost := ends.keepsMost
      (fun _ => {
        gasFlag := by rw [entered]; rfl
        sparkFlag := by rw [entered]; rfl
        gv1 := fun _ => by rw [entered]; rfl
        gv2 := fun _ => by rw [entered]; rfl
        spark := fun _ => entered
        flame := fun _ => by rw [ends.mfe]; exact flame })
      (fun h => commandSpark_trip (commandGas_trip (goto_trip h _) true) true)
      (fun h e => goto_rate h (q := .safetyTime) nofun (by rw [goto_state]; exact nofun))
      (fun _ => fan)
    lockout := fun h => {
      startup := by rw [ends.sto, entered]; exact h.startup.trans (by rw [state]; rfl)
      held := fun e => nomatch entered.symm.trans e
      only := fun e => absurd (h.only (ends.locked ▸ e)) (by rw [state]; decide) }
    active := ends.activeLaw
    table := fun h => {
      valid := by rw [ends.sto]; exact h.valid
      invalid := fun e => absurd (h.invalid (by rw [ends.sto] at e; exact e)) (by simp [state]) }
    floor := fun _ _ e => nomatch entered.symm.trans e
    held := fun e => .inl (ends.locked.trans e) }

theorem keeps_enterSafetyTime (s : State) (state : s.bsq.state = .ignitionSpeed) (flame : s.mfe.flameOn = false) :
    KeepsLaws c s s.enterSafetyTime := (keeps_ignited s state flame).trans (keeps_bsq _ rfl rfl rfl rfl)

/-! ### The flame (R16, R82, R86) -/

theorem keeps_setFlame (s : State) (on : Bool) (safe : on = true → s.bsq.state ≠ .safetyTime) :
    KeepsLaws c s (s.setFlame on) := by
  have mfe : KeepsLaws c s { s with mfe := (s.setFlame on).mfe } := by
    refine keeps_mfe _ (fun h => ⟨h.ntc, h.window, h.short, h.b02⟩) (fun e _ => ?_)
    cases on
    · rfl
    · exact absurd e (safe rfl)
  exact (mfe.trans (keeps_flt_quiet (s.setFlame on).flt rfl id id rfl fun _ => id)).trans
    (keeps_bsq (s.setFlame on).bsq rfl rfl rfl rfl)

theorem keeps_takeFlameLost (s : State) (flame : s.mfe.flameOn = false) : KeepsLaws c s s.takeFlameLost := by
  unfold State.takeFlameLost
  split
  · next e => exact keeps_unlessTripped s (keeps_failedAttempt s (plain_of e (by decide)))
  · next e => exact keeps_unlessTripped s (keeps_lossInRunning s (plain_of e (by decide)))
  · next e => exact .ite (keeps_enterSafetyTime s e flame) (.refl c s)
  · exact .refl c s

theorem keeps_flameLost (s : State) : KeepsLaws c s s.flameLost :=
  (keeps_setFlame s false nofun).trans (keeps_takeFlameLost _ rfl)

theorem keeps_countStart (s : State) : KeepsLaws c s s.countStart := keeps_sto_quiet _ rfl rfl rfl rfl rfl

/-- R82: STABILISE is entered from SAFETY-TIME with the gas as it is. -/
theorem keeps_stabilise (s : State) (state : s.bsq.state = .safetyTime) : KeepsLaws c s (s.goto .stabilise) := by
  have ends := goto_endsFrom s .stabilise
  have entered := goto_state s .stabilise
  have gasOpen : (s.goto .stabilise).bsq.gasOpen = s.bsq.gasOpen := by
    simp [State.goto, SeqState.gasOpen, setFanTarget_burner, State.commandSpark, Bsq.enter, State.leaveFor]
  have sparkOff : SparkOff (s.goto .stabilise) := setFanTarget_sparkOff (commandSpark_sparkOff _) _
  exact {
    toKeepsMost := ends.keepsMost
      (fun h => {
        gasFlag := by rw [gasOpen, entered, h.gasFlag, state]; rfl
        sparkFlag := by rw [sparkOff.1, entered]; rfl
        gv1 := fun _ => by rw [entered]; rfl
        gv2 := fun _ => by rw [entered]; rfl
        spark := fun e => absurd e sparkOff.2
        flame := fun e => nomatch entered.symm.trans e })
      (fun h => goto_trip h _) (fun h => goto_rate h nofun) (fun _ => goto_fan s _)
    lockout := fun h => {
      startup := by rw [ends.sto, entered]; exact h.startup.trans (by rw [state]; rfl)
      held := fun e => nomatch entered.symm.trans e
      only := fun e => absurd (h.only (ends.locked ▸ e)) (by rw [state]; decide) }
    active := ends.activeLaw
    table := fun h => {
      valid := by rw [ends.sto]; exact h.valid
      invalid := fun e => absurd (h.invalid (by rw [ends.sto] at e; exact e)) (by simp [state]) }
    floor := fun _ _ e => nomatch entered.symm.trans e
    held := fun e => .inl (ends.locked.trans e) }

/-- R82: the part as the sequencer takes flame proved in SAFETY-TIME, before it changes state. -/
def State.proved (s : State) : State := ({ s with bsq := { s.bsq with provingFailures := 0 } } : State).countStart

/-- The flame state and the change of state do not meet: STABILISE supervises no stray flame. -/
theorem flameProved_safetyTime (state : s.bsq.state = .safetyTime) :
    s.flameProved = (s.proved.goto .stabilise).setFlame true := by
  have notRunning : s.bsq.state ≠ .running := by rw [state]; exact nofun
  unfold State.flameProved State.takeFlameProved
  have same : (s.setFlame true).bsq.state = .safetyTime := state
  simp only [same]
  unfold State.goto State.leaveFor
  simp [State.proved, State.countStart, State.setFlame, notRunning, SeqState.gasOpen, State.setFanTarget, Bsq.judgeBand,
    State.commandSpark, Bsq.enter, SeqState.keepsBand, SeqState.supervisesStray, purgeOnEntry]

theorem keeps_flameProved (s : State) : KeepsLaws c s s.flameProved := by
  by_cases state : s.bsq.state = .safetyTime
  · rw [flameProved_safetyTime state]
    have counted : KeepsLaws c s s.proved :=
      (keeps_bsq (s := s) { s.bsq with provingFailures := 0 } rfl rfl rfl rfl).trans (keeps_countStart _)
    exact (counted.trans (keeps_stabilise _ state)).trans (keeps_setFlame _ true fun _ => by rw [goto_state]; exact nofun)
  · have stays : s.flameProved = s.setFlame true := by
      unfold State.flameProved State.takeFlameProved
      have same : (s.setFlame true).bsq.state = s.bsq.state := rfl
      split
      · next e => exact absurd (same.symm.trans e) state
      · rfl
    exact stays ▸ keeps_setFlame s true fun _ => state

end Sys2Proof.Machine

/-! SUPPORT. RUNNING, a lockout reset and the end of START-CHECK keep the laws of a run. -/

namespace Sys2Proof.Machine

variable {c : Instr} {s t : State}

/-! ### RUNNING is entered (R84, R48) -/

/-- The caps that RUNNING starts with, for the mode of the plan. -/
def State.startCaps (s : State) : Caps := ({ s with fre := s.fre.serve s.dta.plan.mode } : State).formedCaps

/-- R48: the rate that RUNNING starts with. -/
def State.startRate (s : State) : Int × LimitReason :=
  if s.startCaps.least < s.sto.table.ignitionRate then
    boundedRate s.startCaps s.activeCaps s.sto.table.rmin s.startCaps.least none .mode
  else (s.sto.table.ignitionRate, .none)

/-- The firing-rate record as RUNNING starts, before the controller of its mode. -/
def State.startFre (s : State) : Fre :=
  { s.fre.serve s.dta.plan.mode with caps := s.startCaps, lastRate := s.startRate.1, reason := s.startRate.2 }

/-- The part as RUNNING has been entered with its first rate. -/
def State.fired (s : State) : State :=
  let u := s.leaveFor .running
  let v := ({ u with bsq := u.bsq.enter u.sto.table .running } : State).commandSpark false
  { v with fre := v.startFre }

theorem startFre_floor (s : State) (valid : s.sto.table.valid = true) : s.sto.table.rmin ≤ s.startFre.lastRate := by
  have ordered : s.sto.table.rmin ≤ s.sto.table.ignitionRate := by
    simp only [CombustionTable.valid, Bool.and_eq_true, decide_eq_true_eq] at valid
    exact valid.1.1.2
  change s.sto.table.rmin ≤ s.startRate.1
  unfold State.startRate
  split
  · exact boundedRate_floor _ _ _ _ _ _
  · exact ordered

theorem fired_endsFrom (s : State) : EndsFrom s s.fired :=
  (((leaveFor_endsFrom s .running).trans (bsq_endsFrom _ _ (Bsq.enter_kept _ _ _))).trans
    (commandSpark_endsFrom _ false)).trans (fre_endsFrom _ _)

theorem keeps_fired (s : State) (state : s.bsq.state = .stabilise) : KeepsLaws c s s.fired := by
  have ends := fired_endsFrom s
  have sparkOff : SparkOff s.fired := commandSpark_sparkOff _
  exact {
    toKeepsMost := ends.keepsMost
      (fun h => {
        gasFlag := h.gasFlag.trans (by rw [state]; rfl)
        sparkFlag := sparkOff.1
        gv1 := fun _ => rfl
        gv2 := fun _ => rfl
        spark := fun e => absurd e sparkOff.2
        flame := nofun })
      (fun h => commandSpark_trip (s := { s.leaveFor .running with
        bsq := (s.leaveFor .running).bsq.enter (s.leaveFor .running).sto.table .running }) h false)
      (fun _ e => absurd rfl e) id
    lockout := fun h => {
      startup := by rw [ends.sto]; exact h.startup.trans (by rw [state]; rfl)
      held := nofun
      only := fun e => absurd (h.only (ends.locked ▸ e)) (by rw [state]; decide) }
    active := ends.activeLaw
    table := fun h => {
      valid := by rw [ends.sto]; exact h.valid
      invalid := fun e => absurd (h.invalid (by rw [ends.sto] at e; exact e)) (by simp [state]) }
    floor := fun h _ _ => by
      have valid : s.sto.table.valid = true := h.valid (by
        cases e : s.sto.tableValid
        · exact absurd (h.invalid e) (by simp [state])
        · rfl)
      exact startFre_floor { s.leaveFor .running with bsq := _, ocu := _ } valid
    held := fun e => .inl (ends.locked.trans e) }

/-- R72: the part as RUNNING has been entered with its first rate and the fan target of that rate. -/
def State.underway (s : State) : State := s.fired.setFanTarget (s.fired.sto.table.speedFor s.fired.fre.lastRate)

/-- R48: the controller of the mode that RUNNING starts in. -/
def State.startController (s : State) : Mode → State
  | .ch => let u := s.bumplessLoad; { u with fre := { u.fre with chTimer := some Config.chIntervalMs } }
  | .dhw => { s with fre := { s.fre with dhwI := 0 } }
  | .service => let u := s.serviceForm; { u with fre := { u.fre with chTimer := some Config.chIntervalMs } }
  | .none => s

/-- No state's leaving for RUNNING changes anything. -/
theorem leaveFor_running (s : State) : s.leaveFor .running = s := by simp [State.leaveFor, SeqState.gasOpen]

theorem enterRunning_eq (s : State) : s.enterRunning = s.underway.startController s.dta.plan.mode := by
  unfold State.enterRunning State.underway State.fired
  dsimp only
  rw [leaveFor_running]
  rfl

@[simp] theorem underway_state (s : State) : s.underway.bsq.state = .running := State.setFanTarget_state _ _

theorem keeps_startController (s : State) (running : s.bsq.state = .running) (m : Mode) :
    KeepsLaws c s (s.startController m) := by
  cases m
  case none => exact .refl c s
  case ch => exact (keeps_bumplessLoad s).trans (keeps_fre_running _ running rfl)
  case dhw => exact keeps_fre_running _ running rfl
  case service =>
    exact (keeps_serviceForm s fun _ => running).trans (keeps_fre_running _ ((takeRate_state _ _).trans running) rfl)

theorem keeps_enterRunning (s : State) (state : s.bsq.state = .stabilise) : KeepsLaws c s s.enterRunning := by
  have underway : KeepsLaws c s s.underway := (keeps_fired s state).trans (keeps_setFanTarget _ _)
  rw [enterRunning_eq]
  exact underway.trans (keeps_startController _ (underway_state s) _)

end Sys2Proof.Machine

/-! SUPPORT. An accepted lockout reset keeps the laws of a run (R127 to R130). -/

namespace Sys2Proof.Machine

variable {c : Instr} {s t : State}

/-! ### The history operations of a reset leave the rest of the fault unit -/

/-- What a history operation leaves: all blocks but the fault unit's and the store's, the fault unit's record but for its
history, and the store but for its dirty set. -/
structure WritesHistory (s t : State) : Prop where
  touches : Touches [.flt, .sto] s t
  kept : t.flt.kept = s.flt.kept
  sto : t.sto = { s.sto with dirty := t.sto.dirty }

theorem WritesHistory.refl (s : State) : WritesHistory s s := ⟨.refl _ _, rfl, rfl⟩

theorem WritesHistory.trans {u : State} (h : WritesHistory s t) (k : WritesHistory t u) : WritesHistory s u where
  touches := h.touches.trans k.touches
  kept := k.kept.trans h.kept
  sto := by rw [k.sto, h.sto]

theorem putSlot_writesHistory (s : State) (i : Nat) (x : HistorySlot) : WritesHistory s (s.putSlot i x) :=
  ⟨putSlot_touches s i x, rfl, rfl⟩

theorem createRecord_writesHistory (s : State) (r : HistoryRecord) : WritesHistory s (s.createRecord r) :=
  ⟨createRecord_touches s r, rfl, rfl⟩

theorem fillCleared_writesHistory (s : State) (k : FaultKey) : WritesHistory s (s.fillCleared k) :=
  ⟨fillCleared_touches s k, (fillCleared_kept s k).1, fillCleared_sto s k⟩

theorem recordRaise_writesHistory (s : State) (k : FaultKey) (b : Bool) : WritesHistory s (s.recordRaise k b) :=
  ⟨recordRaise_touches s k b, recordRaise_kept s k b, recordRaise_sto s k b⟩

theorem writesHistory_foldl {α : Type} {f : State → α → State} (step : ∀ u x, WritesHistory u (f u x)) (l : List α)
    (s : State) : WritesHistory s (l.foldl f s) := by
  induction l generalizing s with
  | nil => exact .refl s
  | cons x rest ih => exact (step s x).trans (ih _)

theorem fillDuringLockout_writesHistory (s : State) : WritesHistory s s.fillDuringLockout :=
  writesHistory_foldl (fun u _ => putSlot_writesHistory u _ _) _ s

/-! ### An accepted reset (R129) -/

/-- R129, R131, R134: the history of an accepted reset. -/
def State.resetHistory (s : State) (cause : FaultKey) (src : ResetSource) : State :=
  let u := ({ s with flt := { s.flt.countReset with lockout := none } } : State).markDirty .lockout
  ((u.createRecord (u.resetRecord cause src)).fillCleared cause).fillDuringLockout

/-- R129: the part as an accepted reset has ended its lockout, before the sequencer leaves LOCKOUT. -/
def State.freed (s : State) (cause : FaultKey) (src : ResetSource) : State :=
  let u := (s.resetHistory cause src).post (.reset .accepted src)
  let v := ({ u with flt := { u.flt with active := dropKey u.flt.active cause } } : State).post (.cleared cause)
  { v with bsq := { v.bsq with provingFailures := 0 } }

theorem acceptReset_eq (s : State) (cause : FaultKey) (src : ResetSource) :
    s.acceptReset cause src = (s.freed cause src).goto .idle := rfl

theorem resetHistory_writes (s : State) (cause : FaultKey) (src : ResetSource) :
    WritesHistory { s with flt := { s.flt.countReset with lockout := none } } (s.resetHistory cause src) := by
  refine .trans ?_ (fillDuringLockout_writesHistory _)
  refine .trans ?_ (fillCleared_writesHistory _ _)
  exact .trans ⟨(markDirty_touches _ _).mono (by decide), rfl, rfl⟩ (createRecord_writesHistory _ _)

/-- What the fault unit's record is after an accepted reset, but for its history. -/
theorem resetHistory_flt (s : State) (cause : FaultKey) (src : ResetSource) :
    (s.resetHistory cause src).flt = { s.flt.countReset with
      active := (s.resetHistory cause src).flt.active
      lockout := none
      ring := (s.resetHistory cause src).flt.ring
      early := (s.resetHistory cause src).flt.early
      lastCreation := (s.resetHistory cause src).flt.lastCreation } :=
  Flt.eq_of_kept (resetHistory_writes s cause src).kept

theorem freed_flt (s : State) (cause : FaultKey) (src : ResetSource) :
    (s.freed cause src).flt = { (s.resetHistory cause src).flt with active := dropKey s.flt.active cause } := by
  have active : (s.resetHistory cause src).flt.active = s.flt.active := by
    have kept := (resetHistory_writes s cause src).kept
    simp only [Flt.kept, Prod.mk.injEq] at kept
    exact kept.1
  change ({ (s.resetHistory cause src).flt with active := dropKey (s.resetHistory cause src).flt.active cause } : Flt) = _
  rw [active]

theorem freed_sto (s : State) (cause : FaultKey) (src : ResetSource) :
    (s.freed cause src).sto = { s.sto with dirty := (s.freed cause src).sto.dirty } :=
  (resetHistory_writes s cause src).sto

theorem freed_unlocked (s : State) (cause : FaultKey) (src : ResetSource) : (s.freed cause src).locked = false := by
  rw [State.locked, freed_flt, resetHistory_flt]
  rfl

/-- R129: the resets counted stay within 5 where the limit has not been reached. -/
theorem keepsMost_freed (s : State) (cause : FaultKey) (src : ResetSource) (below : s.flt.resetCounter < 5) :
    KeepsMost c s (s.freed cause src) := by
  have counted : KeepsMost c s { s with flt := { s.flt.countReset with lockout := none } } :=
    keepsMost_flt _ id id (fun _ => below)
  have history : KeepsMost c { s with flt := { s.flt.countReset with lockout := none } } (s.resetHistory cause src) :=
    ((((keeps_markDirty _ _).trans (keeps_createRecord _ _)).trans (keeps_fillCleared _ _)).trans
      (keeps_fillDuringLockout _)).toKeepsMost
  have notice := (counted.trans history).trans (keeps_post _ (.reset .accepted src)).toKeepsMost
  have dropped := notice.trans (keepsMost_flt
    { ((s.resetHistory cause src).post (.reset .accepted src)).flt with
      active := dropKey ((s.resetHistory cause src).post (.reset .accepted src)).flt.active cause }
    (fun m => ((mem_dropKey _ _ _).1 m).1) id id)
  have cleared := dropped.trans (keeps_post _ (.cleared cause)).toKeepsMost
  have uncounted (u : State) : KeepsLaws c u { u with bsq := { u.bsq with provingFailures := 0 } } :=
    keeps_bsq _ rfl rfl rfl rfl
  exact cleared.trans (uncounted _).toKeepsMost

/-- R120: with the cause gone, the set has no locking key. -/
theorem ActiveLaw.free (h : ActiveLaw s) {l : Lockout} (held : s.flt.lockout = some l)
    (active : t.flt.active = Machine.dropKey s.flt.active l.cause) (lockout : t.flt.lockout = none) : ActiveLaw t where
  order := by rw [active]; exact dropKey_sublist _ h.order
  cause j m locking := by
    rw [active, mem_dropKey] at m
    have same := h.cause j m.1 locking
    rw [held] at same
    exact absurd (Option.some.inj same).symm m.2
  held m e := by rw [lockout] at e; exact nomatch e

theorem keeps_acceptReset (s : State) {l : Lockout} (src : ResetSource) (held : s.flt.lockout = some l)
    (state : s.bsq.state ≠ .startCheck) (below : s.flt.resetCounter < 5) (noCause : s.flt.conditions.any = false)
    (carries : CarriesReset c) : KeepsLaws c s (s.acceptReset l.cause src) := by
  rw [acceptReset_eq]
  have ends := goto_endsFrom (s.freed l.cause src) .idle
  have entered := goto_state (s.freed l.cause src) .idle
  have sto := (goto_touches (s.freed l.cause src) .idle).sto (by decide)
  have flt := (goto_touches (s.freed l.cause src) .idle).flt (by decide)
  exact {
    toKeepsMost := (keepsMost_freed s l.cause src below).trans (keepsMost_goto _ rfl)
    lockout := fun h => {
      startup := by rw [sto, freed_sto, entered]; exact h.startup.trans (by simp [state])
      held := fun e => nomatch entered.symm.trans e
      only := fun e => by rw [ends.locked, freed_unlocked] at e; exact nomatch e }
    active := fun h => ends.activeLaw (h.free held (by rw [freed_flt]) (by rw [freed_flt, resetHistory_flt]))
    table := fun h => {
      valid := by rw [sto, freed_sto]; exact h.valid
      invalid := fun e => by
        rw [sto, freed_sto] at e
        obtain ⟨-, -, table⟩ := (h.invalid e).resolve_left state
        simp [LockingConditions.any, table] at noCause }
    floor := fun _ _ e => nomatch entered.symm.trans e
    held := fun _ => .inr carries }

/-! ### A reset request (R127) -/

/-- R127: what the row `accepted` says of the part. -/
theorem resetOutcome_accepted (h : s.resetOutcome = .accepted) :
    s.bsq.state ≠ .startCheck ∧ s.locked = true ∧ s.flt.resetCounter < 5 ∧ s.flt.conditions.any = false := by
  unfold State.resetOutcome at h
  split at h
  · exact nomatch h
  · next state =>
    split at h
    · exact nomatch h
    · next held =>
      split at h
      · exact nomatch h
      · next below =>
        split at h
        · exact nomatch h
        · next noCause => exact ⟨state, by simpa using held, by omega, by simpa using noCause⟩

theorem keeps_requestReset (s : State) (src : ResetSource) (carries : CarriesReset c) :
    KeepsLaws c s (s.requestReset src).1 := by
  unfold State.requestReset
  split
  · next accepted held =>
    obtain ⟨state, -, below, noCause⟩ := resetOutcome_accepted accepted
    exact keeps_acceptReset s src held state below noCause carries
  · exact (keeps_post s _).trans (keeps_enterKey _ (by decide) (by decide))
  · exact keeps_post s _

end Sys2Proof.Machine

/-! SUPPORT. The start-up reads keep the laws of a run: the hand-over of the blocks (R175, R136) and the end of START-CHECK
(R73). -/

namespace Sys2Proof.Machine

variable {c : Instr} {s t : State}

/-! ### The hand-over of the trim, the settings, the counters and the history -/

theorem keeps_handTrim (s : State) : KeepsLaws c s s.handTrim := keeps_sto_quiet _ rfl rfl rfl rfl rfl

theorem NtcRecord.fresh_sound (status : NtcStatus) : (NtcRecord.fresh status).Sound :=
  ⟨Nat.zero_le 8, fun _ => rfl, fun _ => rfl⟩

/-- R175: the settings that the hand-over puts in force. -/
def State.readSettings (s : State) : Settings :=
  if s.sto.nv.settingsGood then s.sto.nv.settings.contents else Settings.default

/-- R5, R27, R149, R175: the settings in force with the blocks that take them. -/
def State.takeSettings (s : State) : State :=
  let r := s.rlc.slots
  { s with
    sto := { s.sto with settings := s.readSettings }
    mfe := { s.mfe with ntc := { s.mfe.ntc with outdoor := outdoorRecord s.readSettings.outdoorFitted } }
    rlc := { s.rlc with slots :=
      ⟨r.slot1.start s.readSettings.slots.slot1, r.slot2.start s.readSettings.slots.slot2,
       r.slot3.start s.readSettings.slots.slot3, r.slot4.start s.readSettings.slots.slot4⟩ }
    dta := { s.dta with table := { s.dta.table with room := ⟨none, none, none, none⟩ } } }

theorem handSettings_eq (s : State) : s.handSettings =
    if s.sto.nv.settingsGood then s.takeSettings else (s.takeSettings.markDirty .settings).enterKey .a09 := rfl

theorem readSettings_inRange (s : State) : s.readSettings.inRange = true := by
  unfold State.readSettings
  split
  · next good =>
    simp only [Nv.settingsGood, Bool.and_eq_true] at good
    exact good.2
  · decide

theorem keeps_takeSettings (s : State) : KeepsLaws c s s.takeSettings where
  measure h := {
    ntc := fun ch => by
      cases ch
      case outdoor => exact NtcRecord.fresh_sound _
      case flowA => exact h.ntc .flowA
      case flowB => exact h.ntc .flowB
      case ret => exact h.ntc .ret
      case flue => exact h.ntc .flue
      case dhwOut => exact h.ntc .dhwOut
      case dhwIn => exact h.ntc .dhwIn
    window := h.window
    short := h.short
    b02 := h.b02 }
  entry h := ⟨h.board, fun n e he => by cases n <;> exact nomatch he⟩
  settings _ := readSettings_inRange s

theorem keeps_handSettings (s : State) : KeepsLaws c s s.handSettings := by
  rw [handSettings_eq]
  exact .ite (keeps_takeSettings s)
    (((keeps_takeSettings s).trans (keeps_markDirty _ _)).trans (keeps_enterKey _ (by decide) (by decide)))

theorem keeps_counters (s : State) (x : Counters) : KeepsLaws c s { s with sto := { s.sto with counters := x } } :=
  keeps_sto_quiet _ rfl rfl rfl rfl rfl

theorem keeps_handCounters (s : State) : KeepsLaws c s s.handCounters := by
  unfold State.handCounters
  exact .ite (keeps_counters s _) ((keeps_counters s _).trans (keeps_markDirty _ _))

theorem keeps_handHistory (s : State) : KeepsLaws c s s.handHistory where
  size h := ⟨h.notices, List.length_map _ |>.trans h.history, h.history, h.fifo, h.counter⟩

/-! ### The lockout block (R136) -/

/-- A lockout taken in START-CHECK, by a record that is not the sequencer's own. -/
theorem keeps_takeLockout (most : KeepsMost c s t) (startup : s.sto.startup.isSome = true) (free : s.locked = false)
    {l : Lockout} (locking : keyClass l.cause = .locking) (lockout : t.flt.lockout = some l)
    (order : s.flt.active.Sublist allKeys → t.flt.active.Sublist allKeys)
    (active : ∀ j, t.isActive j = (s.isActive j || j == l.cause)) (bsq : t.bsq = s.bsq) (fre : t.fre = s.fre)
    (sto : t.sto = { s.sto with dirty := t.sto.dirty }) : KeepsLaws c s t where
  toKeepsMost := most
  lockout h := {
    startup := by rw [sto, bsq]; exact h.startup
    held := fun _ => by rw [State.locked, lockout]; rfl
    only := fun _ => by
      rw [bsq]
      exact .inr (beq_iff_eq.1 (h.startup.symm.trans startup)) }
  active h := h.begin (free_of_unlocked free) lockout locking (order h.order) active
  table h := {
    valid := by rw [sto]; exact h.valid
    invalid := fun e => by
      rw [bsq]
      refine .inl ((h.invalid (by rw [sto] at e; exact e)).resolve_right fun ⟨_, cause, _⟩ => ?_)
      rw [free_of_unlocked free] at cause
      exact nomatch cause }
  floor _ h e := by rw [sto, fre]; exact h (bsq ▸ e)
  held e := absurd (free.symm.trans e) nofun

theorem keeps_dropService (s : State) :
    KeepsLaws c s { s with dta := { s.dta with table := { s.dta.table with service := none } } } :=
  keeps_dta_quiet _ rfl rfl

theorem keeps_restoreLockout (s : State) (l : Lockout) (startup : s.sto.startup.isSome = true) (free : s.locked = false)
    (locking : keyClass l.cause = .locking) : KeepsLaws c s (s.restoreLockout l) := by
  have restored : KeepsMost c s { s with flt := { s.flt with lockout := some l, active := addKey s.flt.active l.cause } } :=
    keepsMost_flt _ (fun m => ((mem_addKey _ _ _).1 m).resolve_right (locking_ne_b02 locking).symm) id id
  refine keeps_takeLockout (restored.trans ((keeps_dropService _).trans (keeps_post _ _)).toKeepsMost) startup free locking rfl
    (fun _ => addKey_sublist _ _) (fun j => ?_) rfl rfl rfl
  have isIn : (s.restoreLockout l).isActive j = true ↔ j ∈ addKey s.flt.active l.cause := State.isActive_iff _ _
  rw [Bool.eq_iff_iff, isIn, mem_addKey, ← State.isActive_iff]
  simp

/-- R136: the record of the lockout with cause F08, before its key enters. -/
def State.recordF08 (s : State) : State :=
  let u := ({ s with flt := { s.flt with lockout := some ⟨.f08, .startCheck, 0, s.minute⟩ } } : State).markDirty .counters
  { u with dta := { u.dta with table := { u.dta.table with service := none } } }

theorem makeF08_eq (s : State) : s.makeF08 = s.recordF08.enterKey .f08 := rfl

theorem keeps_makeF08 (s : State) (startup : s.sto.startup.isSome = true) (free : s.locked = false) :
    KeepsLaws c s s.makeF08 := by
  have key := enterKey_enters s.recordF08 .f08
  have recorded : KeepsMost c s s.recordF08 :=
    ((keepsMost_flt (s := s) { s.flt with lockout := some ⟨.f08, .startCheck, 0, s.minute⟩ } id id id).trans
      (keeps_markDirty _ .counters).toKeepsMost).trans (keeps_dropService _).toKeepsMost
  rw [makeF08_eq]
  refine keeps_takeLockout (l := ⟨.f08, .startCheck, 0, s.minute⟩) (recorded.trans (keepsMost_enterKey _ nofun)) startup free
    rfl ?_ (fun order => ?_) (fun j => enterKey_isActive s.recordF08 .f08 j) (key.touches.bsq (by decide))
    (key.touches.fre (by decide)) ?_
  · rw [key.flt]; rfl
  · rw [key.active]
    split
    · exact order
    · exact addKey_sublist _ _
  · rw [key.sto]; rfl

theorem keeps_handLockout (s : State) (startup : s.sto.startup.isSome = true) : KeepsLaws c s s.handLockout := by
  unfold State.handLockout
  split
  · next good =>
    simp only [Nv.lockoutGood, LockoutBlock.inRange, Bool.and_eq_true, decide_eq_true_eq] at good
    obtain ⟨-, ⟨inRange, counter⟩, -⟩ := good
    have read : KeepsLaws c s { s with flt := { s.flt with
        resetCounter := s.sto.nv.lockout.contents.resetCounter
        decay := decayFor s.sto.nv.lockout.contents.resetCounter
        lastCreation := max s.sto.nv.lockout.contents.lastCreation s.flt.lastCreation } } :=
      keeps_flt_quiet _ rfl id (fun _ => counter) rfl fun _ => id
    dsimp only
    split
    · next l free stored =>
      rw [stored] at inRange
      simp only [Option.all_some, Lockout.inRange, Bool.and_eq_true, beq_iff_eq] at inRange
      exact read.trans (keeps_restoreLockout _ l startup free inRange.1.1)
    · exact read
  · have cleared : KeepsLaws c s { s with flt := { s.flt with resetCounter := 0, decay := none } } :=
      keeps_flt_quiet _ rfl id (fun _ => Nat.zero_le 5) rfl fun _ => id
    refine .trans ?_ (keeps_markDirty _ .lockout)
    dsimp only
    split
    · exact cleared.trans (keeps_recordRaise _ _ _)
    · next free => exact cleared.trans (keeps_makeF08 _ startup (by simpa using free))

/-! ### The records that the reset left open, and the keys that waited (R136) -/

theorem keeps_closeOpen (s : State) : KeepsLaws c s s.closeOpen := keeps_foldl (fun u _ => keeps_putSlot u _ _) _ s

theorem keeps_recordEarly (s : State) (e : EarlyKey) : KeepsLaws c s (s.recordEarly e) := by
  have created := keeps_createRecord (c := c) s (s.raisedRecord e.key e.duringLockout)
  exact .ite (created.trans (keeps_fillCleared _ _)) created

theorem keeps_recordWaiting (s : State) : KeepsLaws c s s.recordWaiting :=
  (keeps_flt_quiet (s := s) { s.flt with early := [] } rfl id id rfl fun _ => id).trans
    (keeps_foldl keeps_recordEarly _ _)

end Sys2Proof.Machine

/-! SUPPORT. The end of START-CHECK keeps the laws of a run (R73, R124, R180). -/

namespace Sys2Proof.Machine

variable {c : Instr} {s t : State}

/-! ### Locking causes, whatever the state -/

theorem keepsMost_raiseLocking (s : State) {k : FaultKey} (locking : keyClass k = .locking) :
    KeepsMost c s (s.raiseLocking k) := by
  cases held : s.locked
  · have begins : s.raiseLocking k = s.beginLockout k := if_neg (by simp [held])
    exact begins ▸ keepsMost_beginLockout s (locking_ne_b02 locking)
  · exact (keeps_raiseLocking_held s k held).toKeepsMost

theorem keepsMost_lockWith (s : State) {k : FaultKey} (locking : keyClass k = .locking) : KeepsMost c s (s.lockWith k) := by
  refine (keepsMost_raiseLocking s locking).trans ?_
  change KeepsMost c _ (s.raiseLocking k).gotoLockout
  unfold State.gotoLockout
  split
  · exact (KeepsLaws.refl c _).toKeepsMost
  · exact keepsMost_goto _ rfl

theorem gotoLockout_state (s : State) : s.gotoLockout.bsq.state = .lockout := by
  unfold State.gotoLockout
  split
  · assumption
  · exact goto_state _ _

theorem gotoLockout_endsFrom (s : State) : EndsFrom s s.gotoLockout := by
  unfold State.gotoLockout
  exact .ite (.refl s) (goto_endsFrom s _)

theorem gotoLockout_sto (s : State) : s.gotoLockout.sto = s.sto := by
  unfold State.gotoLockout
  split
  · rfl
  · exact (goto_touches s _).sto (by decide)

theorem PendingCause.locking (x : PendingCause) : keyClass x.key = .locking := by cases x <;> rfl

theorem keepsMost_raiseAll (s : State) (l : List PendingCause) : KeepsMost c s (s.raiseAll l) := by
  induction l generalizing s with
  | nil => exact (KeepsLaws.refl c s).toKeepsMost
  | cons x rest ih => exact (keepsMost_raiseLocking s x.locking).trans (ih _)

theorem keeps_raiseAll (s : State) (l : List PendingCause) (state : s.bsq.state = .lockout) :
    KeepsLaws c s (s.raiseAll l) := by
  induction l generalizing s with
  | nil => exact .refl c s
  | cons x rest ih =>
    exact (keeps_raiseLocking s x.locking (.inl state)).trans (ih _ (by rw [raiseLocking_bsq]; exact state))

/-! ### F09 (R124) -/

/-- R124: what F09 replaces another cause with, before its key enters. -/
def State.replaceCause (s : State) (k : FaultKey) : State :=
  let u := s.leaveKey k
  { u with flt := { u.flt with lockout := some ⟨.f09, .startCheck, 0, u.minute⟩ } }

theorem raiseF09_replaces {l : Lockout} (held : s.flt.lockout = some l) (other : l.cause ≠ .f09) :
    s.raiseF09 = ((s.replaceCause l.cause).enterKey .f09).markDirty .lockout := by
  unfold State.raiseF09
  rw [held]
  exact if_neg other

theorem raiseF09_same {l : Lockout} (held : s.flt.lockout = some l) (same : l.cause = .f09) : s.raiseF09 = s := by
  unfold State.raiseF09
  rw [held]
  exact if_pos same

theorem raiseF09_begins (free : s.flt.lockout = none) : s.raiseF09 = s.beginLockout .f09 := by
  unfold State.raiseF09
  rw [free]

theorem keepsMost_leaveKey (s : State) (k : FaultKey) : KeepsMost c s (s.leaveKey k) := by
  have key := leaveKey_leaves s k
  refine (keepsMost_flt _ ?_ ((leaveKey_ring_length s k).trans ·) ?_).trans
    (keeps_noticeAndMarks key.touches key.posts key.sto).toKeepsMost
  · rw [key.active, mem_dropKey]; exact And.left
  · rw [key.flt]; exact id

theorem keepsMost_raiseF09 (s : State) : KeepsMost c s s.raiseF09 := by
  cases held : s.flt.lockout with
  | none => rw [raiseF09_begins held]; exact keepsMost_beginLockout s nofun
  | some l =>
    by_cases same : l.cause = .f09
    · rw [raiseF09_same held same]; exact (KeepsLaws.refl c s).toKeepsMost
    · rw [raiseF09_replaces held same]
      have replaced : KeepsMost c s (s.replaceCause l.cause) :=
        (keepsMost_leaveKey s l.cause).trans (keepsMost_flt _ id id id)
      exact (replaced.trans (keepsMost_enterKey _ (k := .f09) nofun)).trans (keeps_markDirty _ _).toKeepsMost

/-- What F09 leaves in the fault unit and the store: the lockout with its cause, and the set with one locking key. -/
structure HoldsF09 (s t : State) : Prop where
  bsq : t.bsq = s.bsq
  sto : t.sto = { s.sto with dirty := t.sto.dirty }
  cause : t.flt.lockout.map Lockout.cause = some .f09
  active : ActiveLaw s → ActiveLaw t

theorem replaceCause_sto (s : State) (k : FaultKey) :
    (s.replaceCause k).sto = { s.sto with dirty := (s.replaceCause k).sto.dirty } := (leaveKey_leaves s k).sto

theorem replaceCause_isActive (s : State) (k j : FaultKey) :
    (s.replaceCause k).isActive j = (s.isActive j && j != k) := leaveKey_isActive s k j

/-- R120, R124: the old cause leaves the set as F09 enters it. -/
theorem replaceCause_activeLaw {l : Lockout} (held : s.flt.lockout = some l) (h : ActiveLaw s) :
    ActiveLaw (((s.replaceCause l.cause).enterKey .f09).markDirty .lockout) := by
  have key := enterKey_enters (s.replaceCause l.cause) .f09
  have order : (s.replaceCause l.cause).flt.active.Sublist allKeys := by
    change (s.leaveKey l.cause).flt.active.Sublist allKeys
    rw [(leaveKey_leaves s l.cause).active]
    exact dropKey_sublist _ h.order
  have lockout : ((s.replaceCause l.cause).enterKey .f09).flt.lockout
      = some ⟨.f09, .startCheck, 0, (s.leaveKey l.cause).minute⟩ := by rw [key.flt]; rfl
  have isIn : ∀ j, ((s.replaceCause l.cause).enterKey .f09).isActive j = (s.isActive j && j != l.cause || j == .f09) :=
    fun j => by rw [enterKey_isActive, replaceCause_isActive]
  exact {
    order := by
      change ((s.replaceCause l.cause).enterKey .f09).flt.active.Sublist allKeys
      rw [key.active]
      split
      · exact order
      · exact addKey_sublist _ _
    cause := fun j m locking => by
      have now := isIn j ▸ (State.isActive_iff _ j).2 m
      simp only [Bool.or_eq_true, Bool.and_eq_true, bne_iff_ne, beq_iff_eq] at now
      rcases now with ⟨old, other⟩ | rfl
      · have cause := h.cause j ((s.isActive_iff j).1 old) locking
        rw [held] at cause
        exact absurd (Option.some.inj cause).symm other
      · change ((s.replaceCause l.cause).enterKey .f09).flt.lockout.map Lockout.cause = _
        rw [lockout]; rfl
    held := fun m e => by
      obtain rfl := Option.some.inj (lockout.symm.trans e)
      exact ⟨rfl, (State.isActive_iff _ _).1 ((isIn .f09).trans (by simp))⟩ }

theorem raiseF09_holds (s : State) : HoldsF09 s s.raiseF09 := by
  cases held : s.flt.lockout with
  | none =>
    rw [raiseF09_begins held]
    have begun := beginLockout_begins s .f09
    exact ⟨begun.touches.bsq (by decide), begun.sto, by rw [begun.lockout]; rfl,
      fun h => h.begin held begun.lockout rfl (beginLockout_order s _ h.order) (beginLockout_isActive s _)⟩
  | some l =>
    by_cases same : l.cause = .f09
    · rw [raiseF09_same held same]
      exact ⟨rfl, rfl, by rw [held]; exact congrArg some same, id⟩
    · rw [raiseF09_replaces held same]
      have key := enterKey_enters (s.replaceCause l.cause) .f09
      refine ⟨?_, ?_, ?_, replaceCause_activeLaw held⟩
      · exact (key.touches.bsq (by decide)).trans ((leaveKey_touches s l.cause).bsq (by decide))
      · have sto := key.sto
        rw [replaceCause_sto] at sto
        rw [State.markDirty]
        dsimp only
        rw [sto]
      · change ((s.replaceCause l.cause).enterKey .f09).flt.lockout.map Lockout.cause = _
        rw [key.flt]; rfl

/-! ### START-CHECK is left (R73) -/

/-- START-CHECK is left with the table that the hand-over gave, for LOCKOUT or for IDLE. -/
structure LeavesStart (s t : State) : Prop where
  most : ∀ c, KeepsMost c s t
  startup : t.sto.startup = none
  state : (t.bsq.state = .lockout ∧ t.locked = true) ∨ (t.bsq.state = .idle ∧ t.locked = false)
  active : ActiveLaw s → ActiveLaw t
  valid : t.sto.tableValid = true → t.sto.table.valid = true
  invalid : t.sto.tableValid = false → t.bsq.state = .lockout ∧ t.flt.lockout.map Lockout.cause = some .f09
    ∧ t.flt.conditions.table = true
  held : s.locked = true → t.locked = true

theorem LeavesStart.keeps (h : LeavesStart s t) : KeepsLaws c s t where
  toKeepsMost := h.most c
  lockout _ := {
    startup := by rw [h.startup]; rcases h.state with ⟨state, -⟩ | ⟨state, -⟩ <;> rw [state] <;> rfl
    held := fun e => by
      rcases h.state with ⟨-, held⟩ | ⟨state, -⟩
      · exact held
      · exact nomatch state.symm.trans e
    only := fun e => by
      rcases h.state with ⟨state, -⟩ | ⟨-, free⟩
      · exact .inl state
      · exact nomatch free.symm.trans e }
  active := h.active
  table _ := ⟨h.valid, fun e => .inr (h.invalid e)⟩
  floor _ _ e := by rcases h.state with ⟨state, -⟩ | ⟨state, -⟩ <;> exact nomatch state.symm.trans e
  held e := .inl (h.held e)

/-- R73: the part as START-CHECK ends, with the pending causes taken out of the list. -/
def State.checked (s : State) : State :=
  let u := if s.ocu.lines.limit then s.notePending .f04 else s
  { u with bsq := { u.bsq with pendingCauses := [] } }

/-- R73: the causes that waited, F04 of an active LIMIT line after the others. -/
def State.waitingCauses (s : State) : List PendingCause :=
  if s.ocu.lines.limit then addPending s.bsq.pendingCauses .f04 else s.bsq.pendingCauses

/-- R73: the table's locking condition, as F09 has been raised. -/
def State.badTable (s : State) : State :=
  let u := s.raiseF09
  { u with flt := { u.flt with conditions := { u.flt.conditions with table := true } } }

theorem keepsMost_badTable (s : State) : KeepsMost c s s.badTable :=
  (keepsMost_raiseF09 s).trans (keepsMost_flt (s := s.raiseF09) s.badTable.flt id id id)

theorem endStartCheck_eq (s : State) (good : Bool) : s.endStartCheck good =
    if !good then (s.checked.badTable.goto .lockout).raiseAll s.waitingCauses
    else if s.checked.locked then (s.checked.goto .lockout).raiseAll s.waitingCauses
    else match s.waitingCauses with
      | [] => s.checked.goto .idle
      | x :: rest => (s.checked.lockWith x.key).raiseAll rest := by
  unfold State.endStartCheck State.checked State.waitingCauses
  cases s.ocu.lines.limit <;> rfl

theorem checked_frame (s : State) : s.checked = { s with bsq := { s.bsq with pendingCauses := [] } } := by
  unfold State.checked
  cases s.ocu.lines.limit <;> rfl

theorem keepsMost_combustionRead (s : State) : KeepsMost c s s.handCombustion.checked := by
  have read : KeepsMost c s s.handCombustion := {}
  rw [checked_frame]
  exact read.trans (keeps_bsq { s.handCombustion.bsq with pendingCauses := [] } rfl rfl rfl rfl).toKeepsMost

/-- R180: the table that the hand-over takes as good is valid. -/
theorem handCombustion_valid (s : State) (good : s.handCombustion.sto.tableValid = true) :
    s.handCombustion.sto.table.valid = true := by
  have good : s.sto.nv.combustionGood = true := good
  have table : s.handCombustion.sto.table = s.sto.nv.combustion.contents := if_pos good
  simp only [Nv.combustionGood, Bool.and_eq_true] at good
  rw [table]
  exact good.2

/-- With a bad combustion block: F09, whatever lockout there was. -/
theorem leavesStart_bad (s : State) : LeavesStart s (s.handCombustion.checked.badTable.goto .lockout) := by
  have checked := checked_frame s.handCombustion
  have f09 := raiseF09_holds s.handCombustion.checked
  have ends := goto_endsFrom s.handCombustion.checked.badTable .lockout
  have entered := goto_state s.handCombustion.checked.badTable .lockout
  have sto := (goto_touches s.handCombustion.checked.badTable .lockout).sto (by decide)
  have flt := (goto_touches s.handCombustion.checked.badTable .lockout).flt (by decide)
  have stored : s.handCombustion.checked.badTable.sto
      = { s.handCombustion.sto with dirty := s.handCombustion.checked.badTable.sto.dirty } :=
    f09.sto.trans (by rw [checked]; rfl)
  have cause : s.handCombustion.checked.badTable.flt.lockout.map Lockout.cause = some .f09 := f09.cause
  have locked : s.handCombustion.checked.badTable.locked = true := by
    rw [State.locked]
    cases e : s.handCombustion.checked.badTable.flt.lockout
    · rw [e] at cause; exact nomatch cause
    · rfl
  exact {
    most := fun c => ((keepsMost_combustionRead s).trans (keepsMost_badTable _)).trans (keepsMost_goto _ rfl)
    startup := by rw [sto, stored]; rfl
    state := .inl ⟨entered, ends.locked.trans locked⟩
    active := fun h => by
      have before : ActiveLaw s.handCombustion.checked := by rw [checked]; exact ⟨h.order, h.cause, h.held⟩
      have after := f09.active before
      exact ends.activeLaw ⟨after.order, after.cause, after.held⟩
    valid := fun e => by
      rw [sto, stored] at e ⊢
      exact handCombustion_valid s e
    invalid := fun _ => ⟨entered, by rw [flt]; exact cause, by rw [flt]; rfl⟩
    held := fun _ => ends.locked.trans locked }

/-- With a good combustion block, where only the sequencer and the fault unit act. -/
theorem leavesStart_good (good : s.sto.nv.combustionGood = true) (most : ∀ c, KeepsMost c s.handCombustion.checked t)
    (sto : t.sto = { s.handCombustion.sto with dirty := t.sto.dirty })
    (state : (t.bsq.state = .lockout ∧ t.locked = true) ∨ (t.bsq.state = .idle ∧ t.locked = false))
    (active : ActiveLaw s → ActiveLaw t) (held : s.locked = true → t.locked = true) : LeavesStart s t where
  most c := (keepsMost_combustionRead s).trans (most c)
  startup := by rw [sto]; rfl
  state := state
  active := active
  valid e := by rw [sto]; exact handCombustion_valid s good
  invalid e := by rw [sto] at e; exact nomatch good.symm.trans e
  held := held

theorem raisedNow_locked (s : State) (k : FaultKey) : (s.raiseLocking k).locked = true := by
  cases held : s.locked
  · have begins : s.raiseLocking k = s.beginLockout k := if_neg (by simp [held])
    rw [begins, State.locked, (beginLockout_begins s k).lockout]; rfl
  · exact raised_locked s k held

theorem keeps_endStartCheck (s : State) :
    KeepsLaws c s (s.handCombustion.endStartCheck s.handCombustion.sto.tableValid) := by
  have checked := checked_frame s.handCombustion
  have law (h : ActiveLaw s) : ActiveLaw s.handCombustion.checked := by rw [checked]; exact ⟨h.order, h.cause, h.held⟩
  have lockedSame : s.handCombustion.checked.locked = s.locked := by rw [checked]; rfl
  have stored : s.handCombustion.checked.sto = s.handCombustion.sto := by rw [checked]
  rw [endStartCheck_eq]
  split
  · exact (leavesStart_bad s).keeps.trans (keeps_raiseAll _ _ (goto_state _ _))
  · next good =>
    have good : s.handCombustion.sto.tableValid = true := by simpa using good
    have ends := goto_endsFrom s.handCombustion.checked
    have sto : ∀ q, (s.handCombustion.checked.goto q).sto = s.handCombustion.sto := fun q =>
      ((goto_touches s.handCombustion.checked q).sto (by decide)).trans stored
    split
    · next held =>
      refine (leavesStart_good good (fun _ => keepsMost_goto _ rfl) (by rw [sto]) (.inl ⟨goto_state _ _, ?_⟩)
        (fun h => (ends _).activeLaw (law h)) (fun _ => ?_)).keeps.trans (keeps_raiseAll _ _ (goto_state _ _))
      · exact (ends _).locked.trans held
      · exact (ends _).locked.trans held
    · next free =>
      have free : s.handCombustion.checked.locked = false := by simpa using free
      split
      · refine (leavesStart_good good (fun _ => keepsMost_goto _ rfl) (by rw [sto]) (.inr ⟨goto_state _ _, ?_⟩)
          (fun h => (ends _).activeLaw (law h)) (fun held => ?_)).keeps
        · exact (ends _).locked.trans free
        · exact absurd (free.symm.trans (lockedSame.trans held)) nofun
      · next x rest _ =>
        have begun := beginLockout_begins s.handCombustion.checked x.key
        have begins : s.handCombustion.checked.raiseLocking x.key = s.handCombustion.checked.beginLockout x.key :=
          if_neg (by simp [free])
        have entered : (s.handCombustion.checked.lockWith x.key).bsq.state = .lockout := gotoLockout_state _
        have leaves := gotoLockout_endsFrom (s.handCombustion.checked.raiseLocking x.key)
        refine (leavesStart_good good (fun _ => keepsMost_lockWith _ x.locking) ?_ (.inl ⟨entered, ?_⟩) (fun h => ?_)
          (fun _ => ?_)).keeps.trans (keeps_raiseAll _ rest entered)
        · have kept := begun.sto
          rw [stored] at kept
          rw [State.lockWith, gotoLockout_sto, begins, kept]
        · exact leaves.locked.trans (raisedNow_locked _ _)
        · refine leaves.activeLaw ?_
          rw [begins]
          exact (law h).begin (free_of_unlocked free) begun.lockout x.locking (beginLockout_order _ _ (law h).order)
            (beginLockout_isActive _ _)
        · exact leaves.locked.trans (raisedNow_locked _ _)

/-! ### STARTUP_READS_COMPLETE (R175) -/

/-- R175: the start-up reads as they have been handed over, before the combustion table. -/
def State.handedOver (s : State) : State :=
  s.handTrim.handSettings.handCounters.handHistory.handLockout.closeOpen.recordWaiting

theorem handSettings_startup (s : State) : s.handSettings.sto.startup = s.sto.startup := by
  rw [handSettings_eq]
  split
  · rfl
  · rw [(enterKey_enters _ _).sto]; rfl

theorem handCounters_startup (s : State) : s.handCounters.sto.startup = s.sto.startup := by
  unfold State.handCounters
  dsimp only
  split <;> split <;> rfl

theorem keeps_handedOver (s : State) (startup : s.sto.startup.isSome = true) : KeepsLaws c s s.handedOver := by
  have reads : KeepsLaws c s s.handTrim.handSettings.handCounters.handHistory :=
    (((keeps_handTrim s).trans (keeps_handSettings _)).trans (keeps_handCounters _)).trans (keeps_handHistory _)
  have awaited : s.handTrim.handSettings.handCounters.handHistory.sto.startup.isSome = true := by
    change s.handTrim.handSettings.handCounters.sto.startup.isSome = true
    rw [handCounters_startup, handSettings_startup]
    exact startup
  exact ((reads.trans (keeps_handLockout _ awaited)).trans (keeps_closeOpen _)).trans (keeps_recordWaiting _)

theorem keeps_startup (s : State) (startup : s.sto.startup.isSome = true) :
    KeepsLaws c s (s.handedOver.handCombustion.endStartCheck s.handedOver.handCombustion.sto.tableValid) :=
  (keeps_handedOver s startup).trans (keeps_endStartCheck _)

end Sys2Proof.Machine

/-! SUPPORT. The measurement front end keeps the laws of a run: conversions and the checks over the channels, the pressure,
ionisation samples and pulse gates. -/

namespace Sys2Proof.Machine

variable {c : Instr} {s t : State}

/-! ### Channel records (R1 to R3) -/

theorem pushWindow_length {α : Type} (n : Nat) (w : List α) (x : α) (pos : 0 < n) (h : w.length ≤ n) :
    (pushWindow n w x).length = min n (w.length + 1) := by
  unfold pushWindow
  split
  · simp only [List.length_append, List.length_drop, List.length_singleton]; omega
  · simp only [List.length_append, List.length_singleton]; omega

theorem NtcRecord.Sound.good {r : NtcRecord} (h : r.Sound) (x offset : Int) : (r.good x offset).Sound := by
  have length := pushWindow_length 8 r.window x (by decide) h.window
  unfold NtcRecord.good
  dsimp only
  split
  · next full => exact ⟨full.le, fun short => absurd full short.ne, fun e => absurd rfl e⟩
  · next part => exact ⟨by dsimp only; omega, fun _ => h.short (by omega), h.status⟩

theorem NtcRecord.fail_sound (r : NtcRecord) (kind : BadKind) : (r.fail kind).Sound :=
  ⟨Nat.zero_le 8, fun _ => rfl, fun _ => rfl⟩

theorem NtcRecord.Sound.bad {r : NtcRecord} (h : r.Sound) (kind : BadKind) : (r.bad kind).Sound := by
  unfold NtcRecord.bad
  split
  · exact r.fail_sound kind
  · refine ⟨?_, ?_, h.status⟩ <;> dsimp only <;> split
    · exact h.window
    · exact Nat.zero_le 8
    · exact h.short
    · next status => exact fun _ => h.status status

theorem NtcRecord.Sound.convert {r : NtcRecord} (h : r.Sound) (x offset : Int) : (r.convert x offset).Sound := by
  unfold NtcRecord.convert
  split
  · exact h.good x offset
  · exact h.bad _

theorem convertAll_sound {n : NtcSet NtcRecord} (h : ∀ ch, (ntcGet n ch).Sound) (x offsets : NtcSet Int) (fitted : Bool)
    (ch : NtcChannel) : (ntcGet (convertAll n x offsets fitted) ch).Sound := by
  cases ch
  case outdoor =>
    change (if fitted then n.outdoor.convert x.outdoor offsets.outdoor else n.outdoor).Sound
    split
    · exact (h .outdoor).convert _ _
    · exact h .outdoor
  case flowA => exact (h .flowA).convert _ _
  case flowB => exact (h .flowB).convert _ _
  case ret => exact (h .ret).convert _ _
  case dhwOut => exact (h .dhwOut).convert _ _
  case dhwIn => exact (h .dhwIn).convert _ _
  case flue => exact (h .flue).convert _ _

/-- A write of the channel records. -/
theorem keeps_ntc (s : State) (n : NtcSet NtcRecord) (strap : Bool)
    (sound : (∀ ch, (ntcGet s.mfe.ntc ch).Sound) → ∀ ch, (ntcGet n ch).Sound) :
    KeepsLaws c s { s with mfe := { s.mfe with ntc := n, strapHigh := strap } } :=
  keeps_mfe _ (fun h => ⟨sound h.ntc, h.window, h.short, h.b02⟩) (fun _ => id)

/-- The part after one conversion cycle, before its checks. -/
def State.convertedNow (s : State) (readings : NtcSet Int) (polOut : Nat) : State :=
  { s with mfe := { s.mfe with
      ntc := convertAll s.mfe.ntc readings s.sto.trim.offsets s.sto.settings.outdoorFitted
      strapHigh := if s.sto.settings.outdoorFitted then s.mfe.strapHigh else 500 < polOut } }

theorem keeps_convertedNow (s : State) (readings : NtcSet Int) (polOut : Nat) :
    KeepsLaws c s (s.convertedNow readings polOut) :=
  keeps_ntc s _ _ fun h => convertAll_sound h _ _ _

theorem keeps_failChannel (s : State) (ch : NtcChannel) (kind : BadKind) :
    KeepsLaws c s { s with mfe := { s.mfe with ntc := ntcPut s.mfe.ntc ch ((ntcGet s.mfe.ntc ch).fail kind) } } := by
  refine keeps_ntc s _ s.mfe.strapHigh fun h d => ?_
  by_cases same : d = ch
  · rw [same, ntcGet_put]; exact NtcRecord.fail_sound _ _
  · rw [ntcGet_put_other _ _ _ _ same]; exact h d

/-! ### The checks of one cycle (R7, R9 to R12) -/

theorem keeps_inTurn {f : State → State} (h : KeepsLaws c s (f s)) : KeepsLaws c s (s.inTurn f) :=
  (keeps_stageKept c).inTurn h

theorem keeps_judgeSensors (s : State) : KeepsLaws c s s.judgeSensors := by
  have follows (u : State) (k : FaultKey) (present : Bool) (notLocking : keyClass k ≠ .locking) (notB02 : k ≠ .b02) :
      KeepsLaws c u (u.inTurn (·.follow k present)) := keeps_inTurn (keeps_follow u notLocking notB02 present)
  unfold State.judgeSensors
  refine .trans ?_ (follows _ .a01 _ (by decide) (by decide))
  refine .trans ?_ (follows _ .b10 _ (by decide) (by decide))
  refine .trans ?_ (follows _ .a06 _ (by decide) (by decide))
  refine .trans ?_ (follows _ .b11 _ (by decide) (by decide))
  refine .trans ?_ (follows _ .b04 _ (by decide) (by decide))
  exact follows s .b03 _ (by decide) (by decide)

theorem keeps_pairCount (s : State) (n : Nat) (armed : Bool) :
    KeepsLaws c s { s with mfe := { s.mfe with pairCount := n, pairArmed := armed } } :=
  keeps_mfe_quiet _ rfl rfl rfl rfl

theorem keeps_pairExpiry (s : State) : KeepsLaws c s s.pairExpiry :=
  (keeps_pairCount s 0 false).trans (keeps_raiseForeign _ rfl)

theorem keeps_judgePair (s : State) : KeepsLaws c s s.judgePair := by
  unfold State.judgePair
  split
  · exact keeps_pairCount s 0 _
  · exact keeps_pairCount s 0 true
  · exact .ite (.ite (keeps_pairExpiry s) (keeps_pairCount s _ _)) (.refl c s)

theorem keeps_judgeOverTemperature (s : State) : KeepsLaws c s s.judgeOverTemperature := by
  unfold State.judgeOverTemperature
  split
  · exact .refl c s
  · exact keeps_hysteresis s (by decide) (by decide) _ _

theorem keeps_circCount (s : State) (n : Nat) (timer : Option Nat) :
    KeepsLaws c s { s with mfe := { s.mfe with circCount := n, circTimer := timer } } :=
  keeps_mfe_quiet _ rfl rfl rfl rfl

theorem keeps_circulationExpiry (s : State) : KeepsLaws c s s.circulationExpiry :=
  (keeps_circCount s 0 _).trans (keeps_enterKey _ (by decide) (by decide))

theorem keeps_judgeCirculation (s : State) : KeepsLaws c s s.judgeCirculation := by
  unfold State.judgeCirculation
  split
  · exact .refl c s
  · exact .ite (.ite (keeps_circulationExpiry s) (keeps_circCount s _ _)) (keeps_circCount s 0 _)

theorem keeps_flueArmed (s : State) (armed : Bool) : KeepsLaws c s { s with mfe := { s.mfe with flueArmed := armed } } :=
  keeps_mfe_quiet _ rfl rfl rfl rfl

theorem keeps_judgeFlue (s : State) : KeepsLaws c s s.judgeFlue := by
  unfold State.judgeFlue
  split
  · exact .refl c s
  · exact .ite ((keeps_flueArmed s false).trans (keeps_raiseForeign _ rfl)) (.ite (keeps_flueArmed s true) (.refl c s))

theorem keeps_judgeCycle (s : State) : KeepsLaws c s s.judgeCycle := by
  have pair := (keeps_judgeSensors (c := c) s).trans (keeps_inTurn (keeps_judgePair _))
  have hot := pair.trans (keeps_inTurn (keeps_judgeOverTemperature _))
  exact (hot.trans (keeps_inTurn (keeps_judgeCirculation _))).trans (keeps_inTurn (keeps_judgeFlue _))

theorem keeps_reportTemperatures (s : State) : KeepsLaws c s s.reportTemperatures :=
  keeps_flt_quiet _ rfl id id rfl fun _ => id

theorem keeps_judgeFrost (s : State) : KeepsLaws c s s.judgeFrost := by
  unfold State.judgeFrost
  split
  · exact .refl c s
  · exact keeps_dta_quiet _ rfl rfl

/-- R39: the pause flag alone changes. -/
theorem judgePause_frame (s : State) : s.judgePause = { s with dta := { s.dta with dhwPause := s.judgePause.dta.dhwPause } } := by
  unfold State.judgePause
  split
  · split
    · rfl
    · split
      · split <;> rfl
      · split <;> rfl
  · rfl

theorem keeps_judgePause (s : State) : KeepsLaws c s s.judgePause := by
  rw [judgePause_frame]
  exact keeps_dta_quiet _ rfl rfl

/-! ### Water pressure (R13, R14) -/

theorem keeps_pressureFails (s : State) : KeepsLaws c s s.pressureFails := by
  have emptied : KeepsLaws c s { s with mfe := { s.mfe with pressWindow := [], pressValue := none } } :=
    keeps_mfe _ (fun h => ⟨h.ntc, Nat.zero_le 4, fun _ => rfl, fun _ => rfl⟩) (fun _ => id)
  have key := enterKey_enters { s with mfe := { s.mfe with pressWindow := [], pressValue := none } } .b02
  refine emptied.trans (keeps_entered _ (by decide) { measure := fun h => ⟨h.ntc, h.window, h.short, fun _ => rfl⟩, size := ?_ })
  exact fun h => ⟨h.notices, (enterKey_ring_length _ _).trans h.ring, h.history, h.fifo, by dsimp only; rw [key.flt]; exact h.counter⟩

theorem keeps_judgePressureAge (s : State) : KeepsLaws c s s.judgePressureAge := .ite (keeps_pressureFails s) (.refl c s)

theorem keeps_judgePressure (s : State) (p : Int) : KeepsLaws c s (s.judgePressure p) :=
  ((keeps_hysteresis s (by decide) (by decide) _ _).trans (keeps_hysteresis _ (by decide) (by decide) _ _)).trans
    (keeps_hysteresis _ (by decide) (by decide) _ _)

/-- A change handed on in turn, of which only the whole is known to keep the laws. -/
theorem keeps_thenInTurn {u : State} {f : State → State} (h : KeepsLaws c s (f u)) : KeepsLaws c s (u.inTurn f) := by
  rcases inTurn_cases u f with same | handed
  · rw [same]; exact h
  · rw [handed]; exact (h.trans ((keeps_stageKept c).round _)).trans (keeps_drivePins _)

/-- A key that leaves looks at nothing of the measurement front end. -/
theorem leaveKey_mfe (s : State) (x : Mfe) (k : FaultKey) :
    ({ s with mfe := x } : State).leaveKey k = { s.leaveKey k with mfe := x } := by
  unfold State.leaveKey State.fillCleared
  dsimp only
  have same : ({ s with mfe := x } : State).isActive k = s.isActive k := rfl
  rw [same]
  split
  · split
    · split <;> rfl
    · rfl
  · rfl

/-- R13: an in-band reading in the window, and the pressure where it fills it. -/
def Mfe.takePressure (m : Mfe) (x : Int) (value : Option Int) : Mfe :=
  { m with pressWindow := pushWindow 4 m.pressWindow x, pressAge := 0, pressBadRun := 0, pressValue := value }

/-- R13: a full window's pressure, as b02 leaves with it. -/
theorem keeps_pressureTaken (s : State) (x p : Int) (full : (pushWindow 4 s.mfe.pressWindow x).length = 4) :
    KeepsLaws c s (({ s with mfe := s.mfe.takePressure x (some p) } : State).leaveKey .b02) := by
  rw [leaveKey_mfe]
  refine (keeps_leaveKey s (by decide)).trans (keeps_mfe (s := s.leaveKey .b02) _ (fun h => ?_) ?_)
  · have mfe : (s.leaveKey .b02).mfe = s.mfe := (leaveKey_touches s .b02).mfe (by decide)
    refine ⟨?_, full.le, fun short => absurd full short.ne, fun raised => ?_⟩
    · intro ch
      have sound := h.ntc ch
      rw [mfe] at sound
      exact sound
    · have gone : (s.leaveKey .b02).isActive .b02 = false := by simp
      exact absurd (gone.symm.trans raised) nofun
  · intro state off
    rw [(leaveKey_touches s .b02).mfe (by decide)] at off
    exact off

theorem keeps_pressureGood (s : State) (mv : Nat) : KeepsLaws c s (s.pressureGood mv) := by
  unfold State.pressureGood
  dsimp only
  generalize pressureOf mv s.sto.trim.pressOffset = x
  split
  · next full => exact (keeps_thenInTurn (keeps_pressureTaken s x _ full)).trans (keeps_judgePressure _ _)
  · next part =>
    have length (h : MeasureLaw s) := pushWindow_length 4 s.mfe.pressWindow x (by decide) h.window
    refine keeps_mfe _ (fun h => ⟨h.ntc, ?_, fun _ => h.short ?_, h.b02⟩) (fun _ => id)
    · have := length h; dsimp only; omega
    · have := length h; omega

theorem keeps_pressureBad (s : State) : KeepsLaws c s s.pressureBad := by
  have counted : KeepsLaws c s { s with mfe := { s.mfe with pressBadRun := min 3 (s.mfe.pressBadRun + 1) } } :=
    keeps_mfe_quiet _ rfl rfl rfl rfl
  unfold State.pressureBad
  dsimp only
  split
  · exact counted.trans (keeps_pressureFails _)
  · split
    · next raised =>
      exact keeps_mfe _ (fun h => ⟨h.ntc, Nat.zero_le 4, fun _ => h.b02 raised, h.b02⟩) (fun _ => id)
    · exact counted

/-! ### Ionisation samples (R15 to R17) -/

theorem keeps_blockCount (s : State) (sum n : Nat) :
    KeepsLaws c s { s with mfe := { s.mfe with blockSum := sum, blockCount := n } } := keeps_mfe_quiet _ rfl rfl rfl rfl

theorem keeps_endBlock (s : State) (sum : Nat) : KeepsLaws c s (s.endBlock sum) :=
  (keeps_blockCount s 0 0).trans (keeps_hysteresis _ (by decide) (by decide) _ _)

theorem keeps_addToBlock (s : State) (sample : Nat) : KeepsLaws c s (s.addToBlock sample) :=
  .ite (.ite (keeps_endBlock s _) (keeps_blockCount s _ _)) (.refl c s)

theorem keeps_flameRuns (s : State) (proving loss : Nat) :
    KeepsLaws c s { s with mfe := { s.mfe with provingRun := proving, lossRun := loss } } :=
  keeps_mfe_quiet _ rfl rfl rfl rfl

theorem keeps_judgeFlame (s : State) (sample : Nat) : KeepsLaws c s (s.judgeFlame sample) :=
  .ite (.ite (.ite (keeps_flameLost s) (keeps_flameRuns s _ _)) (keeps_flameRuns s _ _))
    (.ite (.ite (keeps_flameProved s) (keeps_flameRuns s _ _)) (keeps_flameRuns s _ _))

theorem keeps_ionSample (s : State) (n : Nat) : KeepsLaws c s { s with mfe := { s.mfe with ionSample := n } } :=
  keeps_mfe_quiet _ rfl rfl rfl rfl

/-! ### Pulse gates (R18 to R21, R28, R57, R77) -/

theorem keeps_endGate (s : State) (turbine tacho : List Bool) (k : Int) :
    KeepsLaws c s { s with mfe := s.mfe.endGate turbine tacho k } := keeps_mfe_quiet _ rfl rfl rfl rfl

theorem keeps_goodGates (s : State) (n : Nat) : KeepsLaws c s { s with mfe := { s.mfe with goodGates := n } } :=
  keeps_mfe_quiet _ rfl rfl rfl rfl

theorem keeps_endA08 (s : State) : KeepsLaws c s s.endA08 :=
  (keeps_goodGates s 40).trans (keeps_leaveKey _ (by decide))

theorem keeps_judgeA08 (s : State) (wild : Bool) : KeepsLaws c s (s.judgeA08 wild) :=
  .ite ((keeps_goodGates s 0).trans (keeps_enterKey _ (by decide) (by decide)))
    (.ite (keeps_endA08 s) (keeps_goodGates s _))

theorem keeps_setTap (s : State) (on : Bool) : KeepsLaws c s { s with dta := s.dta.setTap on } :=
  keeps_dta_quiet _ rfl rfl

theorem keeps_tapRuns (s : State) (start stop : Nat) :
    KeepsLaws c s { s with dta := { s.dta with startRun := start, stopRun := stop } } := keeps_dta_quiet _ rfl rfl

/-- R28: the cases of the tap detector at a gate, as choices between states. -/
theorem judgeTap_cases (s : State) : s.judgeTap =
    if s.tapEnabled then
      if s.dta.asks .tap then
        if s.mfe.tapFlow < 150 then
          if 4 ≤ s.dta.stopRun + 1 then { s with dta := s.dta.setTap false }
          else { s with dta := { s.dta with stopRun := s.dta.stopRun + 1 } }
        else { s with dta := { s.dta with stopRun := 0 } }
      else
        if 200 ≤ s.mfe.tapFlow then
          if 2 ≤ s.dta.startRun + 1 then { s with dta := s.dta.setTap true }
          else { s with dta := { s.dta with startRun := s.dta.startRun + 1 } }
        else { s with dta := { s.dta with startRun := 0 } }
    else s := by
  unfold State.judgeTap
  simp only [apply_ite (fun d => ({ s with dta := d } : State))]

theorem keeps_judgeTap (s : State) : KeepsLaws c s s.judgeTap := by
  rw [judgeTap_cases]
  exact .ite (.ite (.ite (.ite (keeps_setTap s _) (keeps_tapRuns s _ _)) (keeps_tapRuns s _ _))
    (.ite (.ite (keeps_setTap s _) (keeps_tapRuns s _ _)) (keeps_tapRuns s _ _))) (.refl c s)

theorem keeps_judgeFan (s : State) : KeepsLaws c s s.judgeFan := by
  unfold State.judgeFan Bsq.judgeBand
  split
  · exact keeps_bsq _ rfl rfl rfl rfl
  · exact .refl c s

/-- R51: DHW is served in RUNNING alone. -/
theorem keeps_servedCompute (s : State) (served : s.servesDhw = true) : KeepsLaws c s s.dhwCompute :=
  keeps_dhwCompute s fun _ => by
    simp only [State.servesDhw, Bool.and_eq_true, beq_iff_eq] at served
    exact served.1

/-- R57: the part after the tap detector and its re-evaluation, before a DHW computation. -/
def State.gateEnded (s : State) (turbine tacho : List Bool) : State :=
  let wild := overRange (s.mfe.turbineCount turbine) || overRange (s.mfe.tachoCount tacho)
  ((({ s with mfe := s.mfe.endGate turbine tacho s.sto.trim.turbineK } : State).judgeA08 wild).judgeTap).settle

theorem keeps_gateEnded (s : State) (turbine tacho : List Bool) : KeepsLaws c s (s.gateEnded turbine tacho) :=
  (((keeps_endGate s turbine tacho _).trans (keeps_judgeA08 _ _)).trans (keeps_judgeTap _)).trans (keeps_settle _)

theorem keeps_gate (s : State) (turbine tacho : List Bool) :
    KeepsLaws c s (if s.servesDhw && (s.gateEnded turbine tacho).servesDhw then (s.gateEnded turbine tacho).dhwCompute
      else s.gateEnded turbine tacho).judgeFan := by
  refine .trans ?_ (keeps_judgeFan _)
  split
  · next served => exact (keeps_gateEnded s turbine tacho).trans (keeps_servedCompute _ (by simp_all))
  · exact keeps_gateEnded s turbine tacho

end Sys2Proof.Machine

/-! SUPPORT. The output channel unit's events keep the laws of a run: trip lines, period starts, the pull-in, coil checks and
the two control loops. -/

namespace Sys2Proof.Machine

variable {c : Instr} {s t : State}

/-! ### Trip lines (R105 to R110) -/

theorem lineKey_plain {l : TripLine} {k : FaultKey} (h : lineKey l = some k) : keyClass k ≠ .locking ∧ k ≠ .b02 := by
  cases l <;> cases h <;> decide

theorem keeps_reportLine (s : State) (l : TripLine) (active : Bool) : KeepsLaws c s (s.reportLine l active) := by
  unfold State.reportLine
  split
  · exact keeps_flt_quiet _ rfl id id rfl fun _ => id
  · next k key =>
    obtain ⟨notLocking, notB02⟩ := lineKey_plain key
    exact keeps_follow s notLocking notB02 active

theorem keeps_takeRefusal (s : State) (l : List Channel) : KeepsLaws c s (s.takeRefusal l) := by
  have noted : KeepsLaws c s { s with bsq := { s.bsq with rearmRefusals := l.map s.ocu.refusal } } :=
    keeps_bsq _ rfl rfl rfl rfl
  unfold State.takeRefusal
  dsimp only
  split
  · exact .refl c s
  · split
    · next state => exact noted.trans (keeps_goto _ (plain_of (s := { s with bsq := _ }) state (by decide)) (by decide) rfl)
    · exact noted

/-- R106: the three channels as a line trips them, with the trip report. -/
def State.lineTripped (s : State) (l : TripLine) : State :=
  { s with
    ocu := s.ocu.tripAll l
    bsq := { s.bsq with tripReports := s.bsq.tripReports ++ [(s.ocu.tripAll l).causes] } }

theorem keeps_lineTripped (s : State) (l : TripLine) : KeepsLaws c s (s.lineTripped l) := by
  have tripped : KeepsLaws c s { s with ocu := s.ocu.tripAll l } :=
    keeps_ocu _ (fun _ _ => ⟨⟨rfl, rfl⟩, ⟨rfl, rfl⟩, ⟨rfl, rfl⟩⟩) nofun nofun nofun rfl
  exact tripped.trans (keeps_bsq (s.lineTripped l).bsq rfl rfl rfl rfl)

theorem keeps_lineActive (s : State) (l : TripLine) : KeepsLaws c s (s.lineActive l) :=
  ((keeps_lineTripped s l).trans (keeps_takeRefusal _ _)).trans (keeps_reportLine _ _ _)

theorem TripSet.nonempty_of_cleared {x : TripSet} {l : TripLine} (h : (x.set l false).nonempty = true) :
    x.nonempty = true := by
  cases l <;> cases x <;> simp_all [TripSet.set, TripSet.nonempty] <;> tauto

theorem keeps_lineOff (s : State) (l : TripLine) :
    KeepsLaws c s { s with ocu := { s.ocu with lines := s.ocu.lines.set l false } } :=
  keeps_ocu _ (fun h on => h (TripSet.nonempty_of_cleared on)) id id id rfl

/-! ### One channel record -/

/-- A channel is given a record that it could have had: not newly ACTIVE, TRIPPED without a re-arm where it was, and with its
owner command. -/
structure ChannelRecord.Follows (r x : ChannelRecord) : Prop where
  active : x.state = .active → r.state = .active
  tripped : r.state = .tripped ∧ r.rearmPending = false → x.state = .tripped ∧ x.rearmPending = false
  owner : x.owner = r.owner

theorem keeps_setChannel (s : State) {ch : Channel} {x : ChannelRecord} (h : (s.ocu.get ch).Follows x) :
    KeepsLaws c s { s with ocu := s.ocu.set ch x } := by
  cases ch
  case fan => exact keeps_ocu_unguarded _ rfl rfl rfl rfl h.owner
  case spark =>
    exact keeps_ocu _ (fun law on => ⟨h.tripped (law on).1, (law on).2.1, (law on).2.2⟩) id id h.active rfl
  case gv1 =>
    exact keeps_ocu _ (fun law on => ⟨(law on).1, h.tripped (law on).2.1, (law on).2.2⟩) h.active id id rfl
  case gv2 =>
    exact keeps_ocu _ (fun law on => ⟨(law on).1, (law on).2.1, h.tripped (law on).2.2⟩) id h.active id rfl
  case pump => exact keeps_ocu_unguarded _ rfl rfl rfl rfl rfl
  case diverter => exact keeps_ocu_unguarded _ rfl rfl rfl rfl rfl
  case zone1 => exact keeps_ocu_unguarded _ rfl rfl rfl rfl rfl
  case zone2 => exact keeps_ocu_unguarded _ rfl rfl rfl rfl rfl

/-! ### Period starts, the pull-in and the coils -/

/-- R108: a re-arm completes into IDLE, and none waits on a TRIPPED channel while a line is active. -/
theorem ChannelRecord.completeRearm_follows (r : ChannelRecord) : r.Follows r.completeRearm := by
  unfold ChannelRecord.completeRearm
  split
  · next pending => exact ⟨nofun, fun h => absurd (h.2.symm.trans pending) nofun, rfl⟩
  · exact ⟨id, id, rfl⟩

/-- R99: a period start leaves the state, the re-arm and the owner command. -/
theorem ChannelRecord.loadPeriod_kept (r : ChannelRecord) (ch : Channel) (inverted : Bool) :
    (r.loadPeriod ch inverted).state = r.state ∧ (r.loadPeriod ch inverted).rearmPending = r.rearmPending
      ∧ (r.loadPeriod ch inverted).owner = r.owner := by
  unfold ChannelRecord.loadPeriod
  dsimp only
  split
  · exact ⟨rfl, rfl, rfl⟩
  · split <;> exact ⟨rfl, rfl, rfl⟩
  · split <;> exact ⟨rfl, rfl, rfl⟩
  · exact ⟨rfl, rfl, rfl⟩

theorem ChannelRecord.period_follows (r : ChannelRecord) (ch : Channel) (inverted : Bool) :
    r.Follows (r.completeRearm.loadPeriod ch inverted) := by
  obtain ⟨state, pending, owner⟩ := r.completeRearm.loadPeriod_kept ch inverted
  have armed := r.completeRearm_follows
  exact ⟨fun e => armed.active (state ▸ e), fun h => by rw [state, pending]; exact armed.tripped h, owner.trans armed.owner⟩

/-- R99, R108: what a period start does with its channel. -/
def State.periodStarted (s : State) (ch : Channel) : State :=
  let r := s.ocu.get ch
  { s with
    ocu := s.ocu.set ch (r.completeRearm.loadPeriod ch s.sto.settings.pumpInverted)
    bsq := if r.rearmPending then s.bsq.takeRearm ch else s.bsq
    clock := { s.clock with periodDue := s.clock.periodDue.filter fun x => x != ch } }

theorem keeps_takeRearm (s : State) (ch : Channel) : KeepsLaws c s { s with bsq := s.bsq.takeRearm ch } := by
  cases ch <;> exact keeps_bsq _ rfl rfl rfl rfl

theorem keeps_periodStarted (s : State) (ch : Channel) : KeepsLaws c s (s.periodStarted ch) := by
  have set := keeps_setChannel (c := c) s ((s.ocu.get ch).period_follows ch s.sto.settings.pumpInverted)
  unfold State.periodStarted
  dsimp only
  split
  · exact (set.trans (keeps_takeRearm _ ch)).trans (keeps_clock _)
  · exact set.trans (keeps_clock _)

theorem keeps_coils (s : State) (x : ValveSet CoilRecord) : KeepsLaws c s { s with ocu := { s.ocu with coils := x } } :=
  keeps_ocu_quiet _ rfl ⟨rfl, rfl⟩ ⟨rfl, rfl⟩ ⟨rfl, rfl⟩ rfl

theorem keeps_endPullIn (s : State) (v : GasValve) : KeepsLaws c s { s with ocu := s.ocu.endPullIn v } := by
  unfold Ocu.endPullIn
  dsimp only
  split
  · exact (keeps_setChannel (ch := valveChannel v) (x := { s.ocu.get (valveChannel v) with
      phase := some .hold, duty := (s.ocu.coils.get v).holdDuty }) s ⟨id, id, rfl⟩).trans (keeps_coils _ _)
  · exact .refl c s

theorem keeps_checkCoil (s : State) (v : GasValve) (mA : Nat) (right : Bool) (kind : CoilFaultKind) :
    KeepsLaws c s (s.checkCoil v mA right kind) :=
  .ite ((keeps_coils s _).trans (keeps_coilFault _ _)) (keeps_coils s _)

theorem keeps_coilZero (s : State) (x : ValveSet Bool) : KeepsLaws c s { s with bsq := { s.bsq with coilZero := x } } :=
  keeps_bsq _ rfl rfl rfl rfl

/-! ### The loops -/

theorem stepFan_owner (r : ChannelRecord) (target measured : Nat) : (r.stepFan target measured).owner = r.owner := by
  unfold ChannelRecord.stepFan
  split <;> rfl

theorem keeps_fanStep (s : State) (target measured : Nat) :
    KeepsLaws c s { s with ocu := { s.ocu with fan := s.ocu.fan.stepFan target measured } } :=
  keeps_ocu_unguarded _ rfl rfl rfl rfl (stepFan_owner _ _ _)

theorem keeps_pumpStep (s : State) (duty : Nat) (timer : Option Nat) :
    KeepsLaws c s { s with ocu := { s.ocu with pump := { s.ocu.pump with duty := duty }, dtTimer := timer } } :=
  keeps_ocu_unguarded _ rfl rfl rfl rfl rfl

end Sys2Proof.Machine

/-! SUPPORT. The room loop keeps the laws of a run: slots with their ROOM entries, exchanges, receptions and the loop power. -/

namespace Sys2Proof.Machine

variable {c : Instr} {s t : State}

/-! ### Slots and their entries (R27, R150 to R152) -/

/-- A slot is given a record and its ROOM entry. -/
def State.setSlot (s : State) (n : RoomSlot) (r : SlotRecord) (e : Option Entry) : State :=
  { s.setSlotRecord n r with dta := s.dta.put (.room n) e }

/-- R27: what `EntryLaw` says of one slot. -/
def SlotRecord.Bears (r : SlotRecord) (e : Option Entry) : Prop :=
  ∀ x, e = some x → (r.state = .bound ∨ r.state = .silent) ∧ (x.held = true ↔ r.state = .silent)

theorem keeps_setSlot (s : State) (n : RoomSlot) (r : SlotRecord) (e : Option Entry)
    (bears : (s.rlc.slots.get n).Bears (s.dta.table.room.get n) → r.Bears e) : KeepsLaws c s (s.setSlot n r e) where
  entry h := {
    board := h.board
    room := fun m x hx => by
      have slots : (s.setSlot n r e).rlc.slots = s.rlc.slots.set n r := rfl
      have room : (s.setSlot n r e).dta.table.room = s.dta.table.room.set n e := rfl
      rw [slots]
      rw [room] at hx
      by_cases same : m = n
      · subst same
        rw [SlotSet.get_set] at hx ⊢
        exact bears (h.room m) x hx
      · rw [SlotSet.get_set_other _ _ _ _ same] at hx ⊢
        exact h.room m x hx }

/-- A slot's record alone, with its state. -/
theorem keeps_setSlotRecord (s : State) (n : RoomSlot) (r : SlotRecord) (state : r.state = (s.rlc.slots.get n).state) :
    KeepsLaws c s (s.setSlotRecord n r) := by
  refine keeps_rlc _ id fun m => ?_
  by_cases same : m = n
  · subst same
    change ((s.rlc.slots.set m r).get m).state = _
    rw [SlotSet.get_set, state]
  · change ((s.rlc.slots.set n r).get m).state = _
    rw [SlotSet.get_set_other _ _ _ _ same]

/-- A slot's entry alone. -/
theorem keeps_putRoom (s : State) (n : RoomSlot) (e : Option Entry)
    (bears : (s.rlc.slots.get n).Bears (s.dta.table.room.get n) → (s.rlc.slots.get n).Bears e) :
    KeepsLaws c s { s with dta := s.dta.put (.room n) e } := by
  have same : s.setSlotRecord n (s.rlc.slots.get n) = s := by cases n <;> rfl
  have set := keeps_setSlot (c := c) s n (s.rlc.slots.get n) e bears
  unfold State.setSlot at set
  rw [same] at set
  exact set

theorem SlotRecord.bears_none (r : SlotRecord) : r.Bears none := fun _ h => nomatch h

/-- R27: a held entry fits SILENT. -/
theorem SlotRecord.bears_held {r : SlotRecord} (e : Option Entry) (silent : r.state = .silent) : r.Bears (holdEntry e) := by
  intro x hx
  unfold holdEntry at hx
  obtain ⟨y, -, rfl⟩ := Option.map_eq_some_iff.1 hx
  exact ⟨.inr silent, fun _ => silent, fun _ => rfl⟩

theorem keeps_goSilent (s : State) (n : RoomSlot) : KeepsLaws c s (s.goSilent n) :=
  (keeps_setSlot s n { s.rlc.slots.get n with state := .silent } (holdEntry (s.dta.table.room.get n))
    fun _ => SlotRecord.bears_held _ rfl).trans (keeps_post _ _)

theorem keeps_goLost (s : State) (n : RoomSlot) : KeepsLaws c s (s.goLost n) := by
  have gone := keeps_setSlot (c := c) s n { s.rlc.slots.get n with state := .lost } none fun _ => SlotRecord.bears_none _
  refine (gone.trans (keeps_enterKey _ (k := .a02 n) ?_ nofun)).trans (keeps_post _ _)
  cases n <;> decide

theorem keeps_misses (s : State) (n : RoomSlot) (m : Nat) :
    KeepsLaws c s (s.setSlotRecord n { s.rlc.slots.get n with misses := m }) := keeps_setSlotRecord s n _ rfl

theorem keeps_missPoll (s : State) (n : RoomSlot) : KeepsLaws c s (s.missPoll n) := by
  have missed : KeepsLaws c s (s.setSlotRecord n
      { s.rlc.slots.get n with misses := min 255 ((s.rlc.slots.get n).misses + 1) }) := keeps_setSlotRecord s n _ rfl
  unfold State.missPoll
  dsimp only
  split
  · split
    · exact missed.trans (keeps_goSilent _ n)
    · exact missed
  · split
    · exact missed.trans (keeps_goLost _ n)
    · exact missed
  · exact missed

theorem keeps_countBad (s : State) (n : RoomSlot) : KeepsLaws c s (s.countBad n) := keeps_setSlotRecord s n _ rfl

/-! ### Exchanges and receptions (R145 to R148) -/

/-- A write of the room loop that leaves the slots and the FIFO. -/
theorem keeps_rlc_quiet (x : Rlc) (fifo : x.fifo = s.rlc.fifo) (slots : x.slots = s.rlc.slots) :
    KeepsLaws c s { s with rlc := x } := keeps_rlc x (by rw [fifo]; exact id) (fun n => by rw [slots])

theorem keeps_closeExchange (s : State) : KeepsLaws c s s.closeExchange := keeps_rlc_quiet _ rfl rfl

theorem keeps_flush (s : State) : KeepsLaws c s s.flush := keeps_rlc _ (fun _ => Nat.zero_le 32) fun _ => rfl

theorem keeps_endMissed (s : State) : KeepsLaws c s s.endMissed := by
  unfold State.endMissed
  split
  · exact .refl c s
  · exact .ite (keeps_closeExchange s) ((keeps_closeExchange s).trans (keeps_missPoll _ _))

theorem keeps_endClosing (s : State) : KeepsLaws c s s.endClosing := by
  unfold State.endClosing
  split
  · exact keeps_endMissed s
  · exact .refl c s

theorem keeps_noReception (s : State) (receiving : Option RoomSlot) (broken : Bool) (idle : Nat) :
    KeepsLaws c s { s with rlc := { s.rlc with receiving := receiving, broken := broken, idle := idle } } :=
  keeps_rlc_quiet _ rfl rfl

theorem keeps_breakFrame (s : State) (n : RoomSlot) : KeepsLaws c s (s.breakFrame n) :=
  (((keeps_countBad s n).trans (keeps_flush _)).trans (keeps_noReception _ _ _ _)).trans (keeps_endClosing _)

/-! ### REPORT frames (R151, R153) -/

theorem keeps_roomReset (s : State) (n : RoomSlot) (carries : CarriesReset c) : KeepsLaws c s (s.roomReset n) :=
  .ite (keeps_requestReset s _ carries) (keeps_setSlotRecord s n _ rfl)

/-- R27, R151: the slot answered, with its entry, before its notice. -/
def State.answered (s : State) (n : RoomSlot) (rep : Report) : State :=
  s.closeExchange.setSlot n ((s.rlc.slots.get n).answer rep) (some (reportEntry rep (s.rlc.slots.get n).zone))

theorem keeps_answered (s : State) (n : RoomSlot) (rep : Report) : KeepsLaws c s (s.answered n rep) := by
  refine (keeps_closeExchange s).trans (keeps_setSlot _ n _ _ fun _ x hx => ?_)
  obtain rfl := Option.some.inj hx
  exact ⟨.inl rfl, nofun, nofun⟩

/-- R151: the part after a REPORT, before the reset request that it may carry. -/
def State.reported (s : State) (n : RoomSlot) (rep : Report) : State :=
  let u := if (s.rlc.slots.get n).state = .bound then s.answered n rep else (s.answered n rep).post (.slot n .bound)
  if (s.rlc.slots.get n).state = .lost then u.leaveKey (.a02 n) else u

theorem takeReport_eq (s : State) (n : RoomSlot) (rep : Report) : s.takeReport n rep =
    if rep.reset && !(s.rlc.slots.get n).lastReset then (s.reported n rep).settle.roomReset n else s.reported n rep := by
  unfold State.takeReport State.reported State.answered State.setSlot
  by_cases bound : (s.rlc.slots.get n).state = .bound <;> simp only [bound, if_true, if_false] <;> rfl

theorem keeps_reported (s : State) (n : RoomSlot) (rep : Report) : KeepsLaws c s (s.reported n rep) := by
  have answered := keeps_answered (c := c) s n rep
  have noticed : KeepsLaws c s (if (s.rlc.slots.get n).state = .bound then s.answered n rep
      else (s.answered n rep).post (.slot n .bound)) := .ite answered (answered.trans (keeps_post _ _))
  exact .ite (noticed.trans (keeps_leaveKey _ (by cases n <;> decide))) noticed

theorem keeps_takeReport (s : State) (n : RoomSlot) (rep : Report) (carries : CarriesReset c) :
    KeepsLaws c s (s.takeReport n rep) := by
  have reported := keeps_reported (c := c) s n rep
  rw [takeReport_eq]
  exact .ite ((reported.trans (keeps_settle _)).trans (keeps_roomReset _ n carries)) reported

theorem keeps_judgeFrame (s : State) (n : RoomSlot) (carries : CarriesReset c) : KeepsLaws c s (s.judgeFrame n) := by
  have ended : KeepsLaws c s { s.flush with rlc := { s.flush.rlc with receiving := none } } :=
    (keeps_flush s).trans (keeps_rlc_quiet _ rfl rfl)
  unfold State.judgeFrame
  dsimp only
  split
  · exact (ended.trans (keeps_countBad _ n)).trans (keeps_endClosing _)
  · split
    · exact .ite (ended.trans (keeps_closeExchange _)) (ended.trans (keeps_takeReport _ n _ carries))
    · exact ended

/-! ### The settings of a slot (R150) -/

/-- R150: the slot with its enable and zone, before the enable acts. -/
def State.slotSet (s : State) (n : RoomSlot) (x : SlotSetting) : State :=
  s.setSlotRecord n { s.rlc.slots.get n with enable := x.enable, zone := x.zone }

/-- R150: a disabled slot that is enabled begins to search. -/
def State.slotSearching (s : State) (n : RoomSlot) : State :=
  (s.setSlotRecord n { s.rlc.slots.get n with state := .searching, misses := 0, lastReset := false }).post
    (.slot n .searching)

/-- R150: an enabled slot that is disabled loses its entry, and its exchange is dropped. -/
def State.slotDisabled (s : State) (n : RoomSlot) : State :=
  let u := s.setSlotRecord n { s.rlc.slots.get n with state := .disabled, misses := 0 }
  let v := { u with
    dta := u.dta.put (.room n) none
    rlc := { u.rlc with dropped := u.rlc.dropped || u.rlc.exchange.slot == some n } }
  (v.leaveKey (.a02 n)).post (.slot n .disabled)

/-- R150: what the enable of a slot does. -/
def State.slotEnabled (s : State) (n : RoomSlot) (old : SlotState) (enable : Bool) : State :=
  match old, enable with
  | .disabled, true => s.slotSearching n
  | .disabled, false => s
  | _, true => s
  | _, false => s.slotDisabled n

theorem takeSlotSetting_eq (s : State) (n : RoomSlot) (x : SlotSetting) :
    let u := (s.slotSet n x).slotEnabled n (s.rlc.slots.get n).state x.enable
    s.takeSlotSetting n x
      = { u with dta := u.dta.put (.room n) ((u.dta.table.room.get n).map fun e => { e with zone := x.zone }) } := by
  unfold State.takeSlotSetting State.slotEnabled State.slotSet
  dsimp only
  cases (s.rlc.slots.get n).state <;> cases x.enable <;> rfl

/-- R27: no entry stands for a slot that is neither BOUND nor SILENT. -/
theorem SlotRecord.Bears.absent {r : SlotRecord} {e : Option Entry} (h : r.Bears e) (bound : r.state ≠ .bound)
    (silent : r.state ≠ .silent) : e = none := by
  cases e with
  | none => rfl
  | some x => exact absurd (h x rfl).1 (by simp [bound, silent])

theorem keeps_slotSearching (s : State) (n : RoomSlot) (disabled : (s.rlc.slots.get n).state = .disabled) :
    KeepsLaws c s (s.slotSearching n) := by
  have set := keeps_setSlot (c := c) s n { s.rlc.slots.get n with state := .searching, misses := 0, lastReset := false }
    (s.dta.table.room.get n) fun h => by
      rw [h.absent (by rw [disabled]; exact nofun) (by rw [disabled]; exact nofun)]
      exact SlotRecord.bears_none _
  have same : s.setSlot n { s.rlc.slots.get n with state := .searching, misses := 0, lastReset := false }
      (s.dta.table.room.get n) = s.setSlotRecord n
        { s.rlc.slots.get n with state := .searching, misses := 0, lastReset := false } := by cases n <;> rfl
  rw [same] at set
  exact set.trans (keeps_post _ _)

theorem keeps_slotDisabled (s : State) (n : RoomSlot) : KeepsLaws c s (s.slotDisabled n) := by
  have gone := keeps_setSlot (c := c) s n { s.rlc.slots.get n with state := .disabled, misses := 0 } none
    fun _ => SlotRecord.bears_none _
  have dropped (u : State) (b : Bool) : KeepsLaws c u { u with rlc := { u.rlc with dropped := b } } :=
    keeps_rlc_quiet _ rfl rfl
  refine ((gone.trans (dropped _ _)).trans (keeps_leaveKey _ (k := .a02 n) ?_)).trans (keeps_post _ _)
  cases n <;> decide

theorem keeps_slotEnabled (s : State) (n : RoomSlot) (enable : Bool) :
    KeepsLaws c s (s.slotEnabled n (s.rlc.slots.get n).state enable) := by
  unfold State.slotEnabled
  split
  · exact keeps_slotSearching s n ‹_›
  · exact .refl c s
  · exact .refl c s
  · exact keeps_slotDisabled s n

theorem keeps_takeSlotSetting (s : State) (n : RoomSlot) (x : SlotSetting) : KeepsLaws c s (s.takeSlotSetting n x) := by
  have old : (s.rlc.slots.get n).state = ((s.slotSet n x).rlc.slots.get n).state := by
    rw [State.slotSet, State.setSlotRecord_get]
  rw [takeSlotSetting_eq, old]
  have set : KeepsLaws c s (s.slotSet n x) := keeps_setSlotRecord s n _ rfl
  refine (set.trans (keeps_slotEnabled _ n x.enable)).trans (keeps_putRoom _ n _ ?_)
  intro h y hy
  obtain ⟨e, he, rfl⟩ := Option.map_eq_some_iff.1 hy
  exact h e he

/-! ### The schedule and the loop power (R145, R146, R154) -/

theorem keeps_pollDue (s : State) (n : RoomSlot) : KeepsLaws c s (s.pollDue n) := by
  have pointed : KeepsLaws c s { s with rlc := { s.rlc with pointer := some n } } := keeps_rlc_quiet _ rfl rfl
  exact .ite (pointed.trans (keeps_missPoll _ n)) (pointed.trans (keeps_rlc_quiet _ rfl rfl))

theorem keeps_endOnTimeRun (s : State) : KeepsLaws c s s.endOnTimeRun := by
  have run : KeepsLaws c s { s with rlc := { s.rlc with onTimeRun := 10 } } := keeps_rlc_quiet _ rfl rfl
  exact run.trans (keeps_leaveKey _ (by decide))

theorem keeps_sendPoll (s : State) (n : RoomSlot) : KeepsLaws c s (s.sendPoll n) := by
  have sent : KeepsLaws c s { s with rlc := { s.rlc with
      poll := s.formPoll n, exchange := .sending n Config.pollSendMs, pollsSent := count16 s.rlc.pollsSent
      onTimeRun := min 10 (s.rlc.onTimeRun + 1) } } := keeps_rlc_quiet _ rfl rfl
  exact .ite (sent.trans (keeps_endOnTimeRun _)) sent

theorem keeps_skipPoll (s : State) : KeepsLaws c s s.skipPoll := by
  have skipped (u : State) : KeepsLaws c u { u with rlc :=
      { u.rlc with skippedPolls := count16 u.rlc.skippedPolls, onTimeRun := 0 } } := keeps_rlc_quiet _ rfl rfl
  exact ((keeps_endMissed s).trans (skipped _)).trans (keeps_enterKey _ (by decide) (by decide))

theorem keeps_takeShort (s : State) : KeepsLaws c s s.takeShort := by
  have cut : KeepsLaws c s { s with rlc := { s.rlc with
      offTimer := some Config.loopOffMs, shorts := count16 s.rlc.shorts, cleanTimer := none } } := keeps_rlc_quiet _ rfl rfl
  have quiet (u : State) : KeepsLaws c u { u with rlc := { u.rlc with receiving := none, foreign := false } } :=
    keeps_rlc_quiet _ rfl rfl
  exact (((cut.trans (keeps_enterKey _ (k := .a11) (by decide) (by decide))).trans (quiet _)).trans (keeps_flush _)).trans
    (keeps_endMissed _)

theorem keeps_receive (s : State) (b : Byte) (level : Bool) (room : s.rlc.fifo.length < 32) :
    KeepsLaws c s { s with rlc := { s.rlc with fifo := s.rlc.fifo ++ [b], level := level } } :=
  keeps_rlc _ (fun _ => by simp only [List.length_append, List.length_singleton]; omega) fun _ => rfl

end Sys2Proof.Machine

/-! SUPPORT. The port unit keeps the laws of a run: written words, commands, frames and the heartbeat. -/

namespace Sys2Proof.Machine

variable {c : Instr} {s t : State}

/-! ### Port records -/

theorem keeps_setPort (s : State) (p : Port) (r : PortRecord)
    (small : (s.prt.portRecord p).counters.Small → r.counters.Small) : KeepsLaws c s (s.setPort p r) := by
  cases p
  · exact keeps_prt _ id (fun h => ⟨small h.1, h.2⟩) id id
  · exact keeps_prt _ id (fun h => ⟨h.1, small h.2⟩) id id

theorem keeps_onFrame (s : State) (p : Port) (f : Frame → Frame) : KeepsLaws c s (s.onFrame p f) := keeps_setPort s p _ id

theorem keeps_onCounters (s : State) (p : Port) (f : PortCounters → PortCounters) (small : ∀ k, k.Small → (f k).Small) :
    KeepsLaws c s (s.onCounters p f) := keeps_setPort s p _ (small _)

theorem keeps_setPointer (s : State) (p : Port) (space : BitVec 3) (a : Nat) : KeepsLaws c s (s.setPointer p space a) :=
  keeps_setPort s p _ id

theorem keeps_reply (s : State) (p : Port) (bytes : List Byte) : KeepsLaws c s (s.reply p bytes) := keeps_onFrame s p _

theorem keeps_onSoftReset (s : State) (f : SoftReset → SoftReset) : KeepsLaws c s (s.onSoftReset f) :=
  keeps_prt_quiet _ id rfl rfl rfl rfl rfl

theorem count16_small (n : Nat) : count16 n ≤ 65535 := Nat.min_le_left _ _

theorem keeps_countFrame (s : State) (p : Port) : KeepsLaws c s (s.countFrame p) :=
  keeps_onCounters s p _ fun _ h => { h with frames := count16_small _ }

theorem keeps_countBadFrame (s : State) (p : Port) : KeepsLaws c s (s.countBadFrame p) :=
  keeps_onCounters s p _ fun _ h => { h with badFrames := count16_small _ }

theorem keeps_countOverrun (s : State) (p : Port) : KeepsLaws c s (s.countOverrun p) :=
  keeps_onCounters s p _ fun _ h => { h with overruns := count16_small _ }

theorem keeps_countValues (s : State) (p : Port) (l : List Status) : KeepsLaws c s (s.countValues p l) :=
  .ite (keeps_onCounters s p _ fun _ h => { h with writeErrors := Nat.min_le_left _ _ }) (.refl c s)

theorem PortCounters.Small.count {k : PortCounters} (h : k.Small) (status : Status) : (k.count status).Small :=
  { h with
    denied := by
      change (if status = .denied ∨ status = .noUnlock then count16 k.denied else k.denied) ≤ 65535
      split
      · exact count16_small _
      · exact h.denied }

theorem PortCounters.Small.clear {k : PortCounters} (h : k.Small) (x : PortCounter) : (k.clear x).Small := by
  cases x
  · exact { h with frames := Nat.zero_le _ }
  · exact { h with badFrames := Nat.zero_le _ }
  · exact { h with badCommands := Nat.zero_le _ }
  · exact { h with denied := Nat.zero_le _ }
  · exact { h with writeErrors := Nat.zero_le _ }
  · exact { h with overruns := Nat.zero_le _ }

/-! ### SETTINGS words (R179, R163) -/

theorem within_iff (lo hi x : Int) : within lo hi x = true ↔ lo ≤ x ∧ x ≤ hi := by simp [within]

theorem within_clamp {lo hi : Int} (x : Int) (h : lo ≤ hi) : within lo hi (clampInt lo hi x) = true := by
  rw [within_iff, clampInt]
  omega

/-- R179: a taken word keeps every setting in its range. -/
theorem Settings.put_inRange {set : Settings} {a : Nat} {w : Word} {x : Settings × Bool} (put : set.put a w = some x)
    (h : set.inRange = true) : x.1.inRange = true := by
  have flowMin : within 250 450 (clampFlowMin set w).1 = true := by
    simp only [Settings.inRange, Bool.and_eq_true, within_iff] at h
    rw [within_iff, clampFlowMin]
    dsimp only [clampInt]
    omega
  have flowMax : within 450 850 (clampFlowMax set w).1 = true := by
    simp only [Settings.inRange, Bool.and_eq_true, within_iff] at h
    rw [within_iff, clampFlowMax]
    dsimp only [clampInt]
    omega
  unfold Settings.put at put
  dsimp only at put
  split at put
  case h_29 => exact nomatch put
  all_goals
    obtain rfl := Option.some.inj put
    simp only [Settings.inRange, Bool.and_eq_true] at h ⊢
    simp only [h, flowMin, flowMax, clampWord, within_clamp, and_self, Int.reduceLE, Int.reduceNeg]

theorem keeps_takeOutdoor (s : State) (was : Bool) : KeepsLaws c s (s.takeOutdoor was) := by
  have fresh : KeepsLaws c s { s with mfe := { s.mfe with ntc :=
      { s.mfe.ntc with outdoor := outdoorRecord s.sto.settings.outdoorFitted } } } :=
    keeps_ntc s _ s.mfe.strapHigh fun h ch => by
      cases ch
      case outdoor => exact NtcRecord.fresh_sound _
      case flowA => exact h .flowA
      case flowB => exact h .flowB
      case ret => exact h .ret
      case flue => exact h .flue
      case dhwOut => exact h .dhwOut
      case dhwIn => exact h .dhwIn
  exact .ite (.refl c s) (.ite fresh (fresh.trans (keeps_leaveKey _ (by decide))))

theorem keeps_takeSlot (s : State) (n : Option RoomSlot) : KeepsLaws c s (s.takeSlot n) := by
  cases n
  · exact .refl c s
  · exact keeps_takeSlotSetting s _ _

theorem keeps_takeSetting (s : State) (a : Nat) (new : Settings)
    (inRange : s.sto.settings.inRange = true → new.inRange = true) : KeepsLaws c s (s.takeSetting a new) := by
  have put : KeepsLaws c s { s with sto := { s.sto with settings := new } } := keeps_sto _ inRange rfl rfl rfl rfl
  have taken := ((((put.trans (keeps_markDirty _ .settings)).trans (keeps_leaveKey _ (k := .a09) (by decide))).trans
    (keeps_takeOutdoor _ s.sto.settings.outdoorFitted)).trans (keeps_takeSlot _ (slotOfSetting a))).trans (keeps_settle _)
  exact .ite ((taken.trans (keeps_judgePause _)).trans (keeps_settle _)) taken

theorem keeps_writeSetting (s : State) (a : Nat) (w : Word) : KeepsLaws c s (s.writeSetting a w).state := by
  unfold State.writeSetting
  split
  · exact .refl c s
  · next x put => exact keeps_takeSetting s a _ (Settings.put_inRange put)

end Sys2Proof.Machine

/-! SUPPORT. The words of COMBUSTION, FAULTS, PORT and DEMAND, and the commands and frames of the ports, keep the laws of a
run. -/

namespace Sys2Proof.Machine

variable {c : Instr} {s t : State}

theorem KeepsLaws.settled (h : KeepsLaws c s t) : KeepsLaws c s t.settle := h.trans (keeps_settle t)

@[simp] theorem taken_state (s : State) (b : Bool) : (taken s b).state = s := rfl

@[simp] theorem refuse_state (s : State) (x : Status) : (refuse s x).state = s := rfl

/-! ### COMBUSTION words (R166) -/

/-- R166: a staged copy that only a frame in process holds. -/
theorem keeps_staged (s : State) (x : Option CombustionTable)
    (processing : x.isSome = true → s.prt.staged.isSome = true ∨ s.prt.serviceState = .processing) :
    KeepsLaws c s { s with prt := { s.prt with staged := x } } :=
  keeps_prt _ id id id fun h e => (processing e).elim h id

theorem keeps_stageTable (s : State) (t : CombustionTable) : KeepsLaws c s { s with prt := s.prt.stage t } := by
  refine keeps_staged s _ fun e => .inr ?_
  by_cases processing : s.prt.processing .service = true
  · exact beq_iff_eq.1 processing
  · rw [if_neg processing] at e
    exact nomatch e

theorem keeps_stage (s : State) : KeepsLaws c s s.stage := keeps_stageTable s _

theorem keeps_stageWord (s : State) (a : Nat) (w : Word) : KeepsLaws c s (s.stageWord a w).state := by
  unfold State.stageWord
  split
  · split
    · exact keeps_stageTable s _
    · exact .refl c s
  · split
    · exact .refl c s
    · split
      · exact keeps_staged s _ fun e => .inl (by rwa [Option.isSome_map] at e)
      · exact .refl c s

theorem keeps_writeCombustion (s : State) (a : Nat) (w : Word) : KeepsLaws c s (s.writeCombustion a w).state := by
  unfold State.writeCombustion
  dsimp only
  split
  · have staged := ((keeps_onFrame (c := c) s .service fun f => { f with combustionWrite := true }).trans
      (keeps_stage _)).trans (keeps_stageWord _ a w)
    split
    · refine staged.trans ?_
      exact keeps_onFrame _ .service fun f => { f with valueRefused := true }
    · exact staged
  · rw [refuse_state]; exact keeps_onFrame s .service _

/-! ### FAULTS words (R165, R135) -/

theorem keeps_writeFaults (s : State) (p : Port) (a : Nat) (resets : a = 0x30 → CarriesReset c) :
    KeepsLaws c s (s.writeFaults p a).state := by
  unfold State.writeFaults
  split
  · next reset =>
    dsimp only
    exact .settled (keeps_requestReset s (portSource p) (resets reset))
  · split
    · rw [taken_state]; exact .settled (keeps_clearHistory s)
    · exact .refl c s

/-! ### PORT words (R168, R169, R172, R173, R182, R187) -/

theorem keeps_takeHeartbeat (s : State) (timeout : Nat) : KeepsLaws c s (s.takeHeartbeat timeout) := by
  have started : KeepsLaws c s { s with prt := { s.prt with heartbeat := some (timeout * 1000), timeout := timeout } } :=
    keeps_prt _ id id (fun _ => rfl) id
  exact .ite started (started.trans (keeps_leaveKey _ (by decide)))

theorem keeps_writeHeartbeat (s : State) (w : Word) : KeepsLaws c s (s.writeHeartbeat w).state := by
  unfold State.writeHeartbeat
  split
  · rw [taken_state]; exact .settled (keeps_takeHeartbeat s _)
  · exact .refl c s

theorem keeps_writeFlag (s : State) (w : Word) : KeepsLaws c s (s.writeFlag w).state := by
  unfold State.writeFlag
  split
  · exact .refl c s
  · split
    · exact keeps_prt_quiet _ id rfl rfl rfl rfl rfl
    · exact .refl c s

theorem keeps_writeUnlock (s : State) (w : Word) : KeepsLaws c s (s.writeUnlock w).state := by
  unfold State.writeUnlock
  split
  · rw [taken_state]; exact keeps_onFrame s .service _
  · exact .refl c s

theorem keeps_acceptSoftReset (s : State) (p : Port) : KeepsLaws c s (s.acceptSoftReset p) := by
  unfold State.acceptSoftReset
  split
  · exact .refl c s
  · exact keeps_prt_quiet _ id rfl rfl rfl rfl rfl

theorem keeps_writeSoftReset (s : State) (p : Port) (w : Word) : KeepsLaws c s (s.writeSoftReset p w).state := by
  unfold State.writeSoftReset
  split
  · exact .refl c s
  · split
    · exact keeps_acceptSoftReset s p
    · exact .refl c s

theorem keeps_writeCounter (s : State) (p : Port) (k : PortCounter) (w : Word) :
    KeepsLaws c s (s.writeCounter p k w).state := by
  unfold State.writeCounter
  split
  · exact keeps_onCounters s p _ fun _ h => h.clear k
  · exact .refl c s

theorem keeps_writeOffset (s : State) (ch : NtcChannel) (w : Word) : KeepsLaws c s (s.writeOffset ch w).state :=
  keeps_sto_quiet _ rfl rfl rfl rfl rfl

theorem keeps_force (s : State) (x : TestChannel) (level : Nat) : KeepsLaws c s { s with ocu := s.ocu.force x level } := by
  cases x <;> refine keeps_ocu_unguarded _ rfl rfl rfl rfl ?_
  case fan => exact takeFan_owner _ _
  all_goals rfl

theorem keeps_startTest (s : State) (x : TestChannel) (level duration : Nat) : KeepsLaws c s (s.startTest x level duration) :=
  (keeps_force s x level).trans (keeps_ocu_unguarded _ rfl rfl rfl rfl rfl)

theorem keeps_requestTest (s : State) (channel level duration : Word) :
    KeepsLaws c s (s.requestTest channel level duration).state := by
  unfold State.requestTest
  split
  · rw [taken_state]; exact .settled (keeps_endTest s _)
  · split
    · exact .refl c s
    · split
      · exact .refl c s
      · rw [taken_state]; exact .settled (keeps_startTest s _ _ _)

theorem keeps_writePort (s : State) (p : Port) (test : Option (Word × Word × Word)) (a : Nat) (w : Word) :
    KeepsLaws c s (s.writePort p test a w).state := by
  unfold State.writePort
  split
  · exact keeps_writeCounter s p _ w
  · split
    · exact keeps_writeSoftReset s p w
    · split
      · split
        · exact keeps_writeHeartbeat s w
        · split
          · exact keeps_writeFlag s w
          · exact .refl c s
      · split
        · exact keeps_writeUnlock s w
        · split
          · exact keeps_writeOffset s _ w
          · split
            · split
              · exact .refl c s
              · split
                · exact keeps_requestTest s _ _ _
                · exact .refl c s
            · exact .refl c s

theorem keeps_writeWord (s : State) (p : Port) (space : BitVec 3) (test : Option (Word × Word × Word)) (x : Nat × Word)
    (resets : space.toNat = 4 → x.1 = 0x30 → CarriesReset c) : KeepsLaws c s (s.writeWord p space test x).state := by
  unfold State.writeWord
  split
  · exact .refl c s
  · split
    · exact keeps_writeSetting s _ _
    · exact keeps_writeCombustion s _ _
    · next faults => exact keeps_writeFaults s p _ (resets faults)
    · exact keeps_writePort s p test _ _
    · exact .refl c s

theorem keeps_writeWords (s : State) (p : Port) (space : BitVec 3) (test : Option (Word × Word × Word))
    (l : List (Nat × Word)) (resets : ∀ x ∈ l, space.toNat = 4 → x.1 = 0x30 → CarriesReset c) :
    KeepsLaws c s (s.writeWords p space test l).1 := by
  induction l generalizing s with
  | nil => exact .refl c s
  | cons x rest ih =>
    exact ((keeps_writeWord s p space test x (resets x (List.mem_cons_self ..))).trans (keeps_countValues _ _ _)).trans
      (ih _ fun y m => resets y (List.mem_cons_of_mem _ m))

/-! ### DEMAND (R24 to R26, R164) -/

theorem keeps_formOnChange (s : State) (old : Option Entry) : KeepsLaws c s (s.formOnChange old) := by
  unfold State.formOnChange
  dsimp only
  split
  · next serves => exact .settled (keeps_serviceForm s fun _ => serves.1)
  · exact .refl c s

theorem keeps_service (s : State) (e : Option Entry) : KeepsLaws c s { s with dta := s.dta.put .service e } :=
  keeps_dta_quiet _ rfl rfl

theorem keeps_writeEntry (s : State) (src : Source) (ws : List (Nat × Word))
    (supervised : src = .board → s.prt.heartbeat.isSome = true) : KeepsLaws c s (s.writeEntry src ws) := by
  unfold State.writeEntry
  split
  · exact .settled (keeps_dta _ (fun _ => .inr (supervised rfl)) rfl)
  · refine .trans ?_ (keeps_formOnChange _ _)
    exact .settled (keeps_service s _)
  · exact .refl c s

theorem keeps_removeBoard (s : State) : KeepsLaws c s { s with dta := s.dta.put .board none } := keeps_dta _ nofun rfl

theorem keeps_removeEntry (s : State) {src : Source} (h : src = .board ∨ src = .service) :
    KeepsLaws c s (s.removeEntry src) := by
  unfold State.removeEntry
  rcases h with rfl | rfl
  · exact .settled (keeps_removeBoard s)
  · exact .settled (keeps_service s none)

/-- R24, R26: an entry that is not refused as a whole is BOARD's or SERVICE's, and BOARD's is written under supervision. -/
theorem refusesEntry_false {p : Port} {src : Source} {removal : Bool} (h : s.refusesEntry p src removal = false) :
    (src = .board ∨ src = .service) ∧ (removal = false → src = .board → s.prt.heartbeat.isSome = true) := by
  cases src
  case board =>
    refine ⟨.inl rfl, fun writes _ => ?_⟩
    subst writes
    simp only [State.refusesEntry, Bool.not_false, Bool.true_and, Bool.or_eq_false_iff] at h
    exact Option.isSome_iff_ne_none.2 fun e => by simp [e] at h
  case service => exact ⟨.inr rfl, fun _ => nofun⟩
  all_goals exact nomatch h

theorem keeps_writeBlock (s : State) (p : Port) (src : Source) (ws : List (Nat × Word)) :
    KeepsLaws c s (s.writeBlock p src ws).1 := by
  unfold State.writeBlock
  dsimp only
  split
  · exact .refl c s
  · next free =>
    obtain ⟨known, supervised⟩ := refusesEntry_false (Bool.not_eq_true _ ▸ free)
    split
    · dsimp only
      exact keeps_removeEntry s known
    · next writes =>
      split
      · exact .refl c s
      · dsimp only
        exact keeps_writeEntry s src _ (supervised (Bool.not_eq_true _ ▸ writes))

theorem keeps_writeDemand (s : State) (p : Port) (l : List (Option Source × List (Nat × Word))) :
    KeepsLaws c s (s.writeDemand p l).1 := by
  induction l generalizing s with
  | nil => exact .refl c s
  | cons x rest ih =>
    obtain ⟨src, ws⟩ := x
    refine .trans (.trans ?_ (keeps_countValues _ p _)) (ih _)
    cases src
    · exact .refl c s
    · exact keeps_writeBlock s p _ ws

end Sys2Proof.Machine

/-! SUPPORT. Commands, frames and the heartbeat's expiry keep the laws of a run (R156 to R168). -/

namespace Sys2Proof.Machine

variable {c : Instr} {s t : State}

/-! ### Commands (R160 to R163) -/

theorem keeps_notices (s : State) (l : List Notice) (overflow : Bool) (shorter : l.length ≤ s.prt.notices.length) :
    KeepsLaws c s { s with prt := { s.prt with notices := l, overflow := overflow } } :=
  keeps_prt_quiet _ (fun h => shorter.trans h) rfl rfl rfl rfl rfl

theorem keeps_readEffect (s : State) (p : Port) (space : BitVec 3) (a : Nat) : KeepsLaws c s (s.readEffect p space a) := by
  unfold State.readEffect
  split
  · split
    · exact .settled (keeps_notices s s.prt.notices false le_rfl)
    · next rest held => exact .settled (keeps_notices s rest s.prt.overflow (by rw [held]; exact Nat.le_succ _))
  · split
    · exact keeps_prt_quiet _ id rfl rfl rfl rfl rfl
    · exact .refl c s

theorem keeps_readAll (s : State) (p : Port) (space : BitVec 3) (l : List Nat) : KeepsLaws c s (s.readAll p space l).1 := by
  induction l generalizing s with
  | nil => exact .refl c s
  | cons a rest ih => exact (keeps_readEffect s p space a).trans (ih _)

theorem keeps_writeAll (s : State) (p : Port) (space : BitVec 3) (l : List (Nat × Word))
    (resets : ∀ x ∈ l, space.toNat = 4 → x.1 = 0x30 → CarriesReset c) : KeepsLaws c s (s.writeAll p space l).1 := by
  unfold State.writeAll
  split
  · exact keeps_writeDemand s p _
  · exact keeps_writeWords s p space _ l resets

theorem keeps_count (s : State) (p : Port) (status : Status) : KeepsLaws c s (s.onCounters p fun k => k.count status) :=
  keeps_onCounters s p _ fun _ h => h.count status

theorem keeps_noteNoUnlock (s : State) (status : Status) : KeepsLaws c s (s.noteNoUnlock status) :=
  .ite (keeps_onFrame s .service _) (.refl c s)

/-- A command that carries no lockout reset request, unless its `Instr` is one that can. -/
def NoReset (cmd : PortCommand) (c : Instr) : Prop :=
  ∀ data start, cmd.body = .inr data →
    ∀ x ∈ ((walk cmd.space cmd.step data.length start).1.zip data),
      (start = match cmd.start with | .address a => a.toNat | .pointer => start) →
      cmd.space.toNat = 4 → x.1 = 0x30 → CarriesReset c

theorem keeps_runRead (s : State) (p : Port) (cmd : PortCommand) (n : Nat) : KeepsLaws c s (s.runRead p cmd n) :=
  ((keeps_setPointer s p cmd.space _).trans (keeps_readAll _ p cmd.space _)).trans (keeps_reply _ p _)

theorem keeps_runWrite (s : State) (p : Port) (cmd : PortCommand) {data : List Word} (body : cmd.body = .inr data)
    (noReset : NoReset cmd c) : KeepsLaws c s (s.runWrite p cmd data) := by
  unfold State.runWrite
  dsimp only
  refine .trans (.trans (.trans (.trans (keeps_setPointer s p cmd.space _) (keeps_writeAll _ p cmd.space _ ?_))
    (keeps_count _ p _)) (keeps_noteNoUnlock _ _)) (keeps_reply _ p _)
  refine fun x m => noReset data _ body x m ?_
  unfold State.startOf
  cases cmd.start <;> rfl

theorem keeps_refuseCommand (s : State) (p : Port) (cmd : PortCommand) : KeepsLaws c s (s.refuseCommand p cmd) :=
  (keeps_count s p .denied).trans (keeps_reply _ p _)

theorem keeps_badCommand (s : State) (p : Port) : KeepsLaws c s (s.badCommand p) := by
  have counted : KeepsLaws c s (s.onCounters p fun k => { k with badCommands := count16 k.badCommands }) :=
    keeps_onCounters s p _ fun _ h => { h with badCommands := count16_small _ }
  unfold State.badCommand
  refine .trans ?_ (keeps_onFrame _ p _)
  exact counted.trans (keeps_reply _ p _)

theorem keeps_noSpace (s : State) (p : Port) : KeepsLaws c s (s.noSpace p) := by
  have counted : KeepsLaws c s (s.onCounters p fun k => { k with denied := count16 k.denied }) :=
    keeps_onCounters s p _ fun _ h => { h with denied := count16_small _ }
  exact counted.trans (keeps_reply _ p _)

theorem keeps_execute (s : State) (p : Port) (cmd : PortCommand) (noReset : NoReset cmd c) :
    KeepsLaws c s (s.execute p cmd) := by
  unfold State.execute
  split
  · exact keeps_noSpace s p
  · split
    · split
      · exact keeps_runRead s p cmd _
      · exact keeps_refuseCommand s p cmd
    · next body =>
      split
      · exact keeps_runWrite s p cmd body noReset
      · exact keeps_refuseCommand s p cmd

theorem keeps_portCommand (s : State) (p : Port) (cmd : PortCommand) (noReset : NoReset cmd c) :
    KeepsLaws c s (s.portCommand p cmd) := by
  have took := keeps_onFrame (c := c) s p fun f => f.take cmd
  unfold State.portCommand
  dsimp only
  split
  · exact took
  · split
    · exact took.trans (keeps_badCommand _ p)
    · exact took.trans (keeps_execute _ p cmd noReset)

theorem noReset_of_carries (cmd : PortCommand) (carries : CarriesReset c) : NoReset cmd c :=
  fun _ _ _ _ _ _ _ _ => carries

theorem noReset_of_space {space : BitVec 3} {start : Start} {step : Bool} {body : Sum Nat (List Word)}
    (other : space.toNat ≠ 4) : NoReset ⟨space, start, step, body⟩ c :=
  fun _ _ _ _ _ _ four _ => absurd four other

theorem noReset_of_read {cmd : PortCommand} {n : Nat} (body : cmd.body = .inl n) : NoReset cmd c :=
  fun _ _ writes => nomatch body.symm.trans writes

/-- R135: the history clear word stands beside the reset request word. -/
theorem noReset_historyClear (w : Word) : NoReset (wordWrite 4 0x31 w) c := by
  intro data start body x m from_ _ word
  obtain rfl : [w] = data := Sum.inr.inj body
  obtain rfl : start = 0x31 := from_
  have words : (walk (wordWrite 4 0x31 w).space (wordWrite 4 0x31 w).step [w].length 0x31).1 = [0x31] := by
    simp [wordWrite, walk, inSpace, spaceSize]
  rw [words] at m
  simp only [List.zip_cons_cons, List.zip_nil_right, List.mem_singleton] at m
  rw [m] at word
  exact absurd word (by simp)

/-! ### Frames (R156 to R159, R167) -/

theorem keeps_takeRequest (s : State) (bytes : List Byte) : KeepsLaws c s (s.takeRequest bytes) := by
  have counted := keeps_countFrame (c := c) s .control
  unfold State.takeRequest
  dsimp only
  split
  · refine (counted.trans (keeps_countOverrun _ .control)).trans ?_
    exact keeps_prt_quiet _ id rfl rfl rfl rfl rfl
  · refine (counted.trans (.trans ?_ (keeps_onFrame _ .control _))).trans (keeps_onSoftReset _ _)
    exact keeps_prt_quiet _ id rfl rfl rfl rfl rfl

theorem keeps_takeCollect (s : State) (clocked : Nat) : KeepsLaws c s (s.takeCollect clocked) := by
  have counted := keeps_countFrame (c := c) s .control
  refine .ite (.trans (.trans counted ?_) (keeps_onSoftReset _ _)) (.trans counted ?_) <;>
    exact keeps_prt_quiet _ id rfl rfl rfl rfl rfl

theorem keeps_takeReceived (s : State) (x : Received) : KeepsLaws c s (s.takeReceived x) := by
  unfold State.takeReceived
  split
  · exact .refl c s
  · exact keeps_countBadFrame s .service
  · split
    · refine ((keeps_countFrame s .service).trans ?_).trans (keeps_onFrame _ .service _)
      exact keeps_prt _ id id id fun _ => nofun
    · exact keeps_countOverrun s .service

theorem keeps_receiver (s : State) (x : Receiver) : KeepsLaws c s { s with prt := { s.prt with receiver := x } } :=
  keeps_prt_quiet _ id rfl rfl rfl rfl rfl

theorem keeps_takeServiceBytes (s : State) (bytes : List Byte) (e : Bool) : KeepsLaws c s (s.takeServiceBytes bytes e) :=
  keeps_foldl (fun u _ => (keeps_receiver u _).trans (keeps_takeReceived _ _)) bytes s

theorem keeps_serviceGap (s : State) : KeepsLaws c s s.serviceGap := by
  unfold State.serviceGap
  split
  · exact .refl c s
  · exact (keeps_receiver s _).trans (keeps_countBadFrame _ .service)

/-- R159: the reply has been sent; a free port holds no staged copy. -/
theorem keeps_replySent (s : State) {n : Nat} (sending : s.prt.serviceState = .sending n) :
    KeepsLaws c s { s with prt := { s.prt with serviceState := .free } } :=
  keeps_prt _ id id id fun h e => nomatch (h e).symm.trans sending

theorem keeps_finishCommands (s : State) (p : Port) (carries : CarriesReset c) : KeepsLaws c s (s.finishCommands p) := by
  have done := keeps_foldl (c := c) (f := fun (u : State) x => u.portCommand p x)
    (fun u x => keeps_portCommand u p x (noReset_of_carries x carries)) (s.prt.portRecord p).frame.todo s
  unfold State.finishCommands
  dsimp only
  split
  · exact done.trans (keeps_badCommand _ p)
  · exact done

/-- R167, R180: a valid staged copy is adopted in IDLE and in LOCKOUT alone. -/
theorem keeps_adopt (s : State) {t : CombustionTable} (valid : t.valid = true)
    (state : s.bsq.state = .idle ∨ s.bsq.state = .lockout) : KeepsLaws c s (s.adopt t) := by
  refine .trans (t := { s with
    sto := { s.sto with table := t, tableValid := true }
    flt := { s.flt with conditions := { s.flt.conditions with table := false } } }) ?_ (keeps_markDirty _ _)
  exact {
    table := fun _ => ⟨fun _ => valid, nofun⟩
    floor := fun _ _ e => by rcases state with x | x <;> exact nomatch x.symm.trans e }

theorem commit_adopted {f : Frame} (h : s.commit f = .adopted) :
    ∃ t, s.prt.staged = some t ∧ t.valid = true ∧ (s.bsq.state = .idle ∨ s.bsq.state = .lockout) := by
  unfold State.commit at h
  split at h
  · exact nomatch h
  · split at h
    · exact nomatch h
    · split at h
      · exact nomatch h
      · split at h
        · exact nomatch h
        · next t staged =>
          split at h
          · exact nomatch h
          · next valid =>
            split at h
            · next state => exact ⟨t, staged, by simpa using valid, state⟩
            · exact nomatch h

theorem keeps_applyCommit (s : State) (f : Frame) : KeepsLaws c s (s.applyCommit (s.commit f)) := by
  unfold State.applyCommit
  split
  · next t adopted staged =>
    obtain ⟨u, staged', valid, state⟩ := commit_adopted adopted
    obtain rfl := Option.some.inj (staged.symm.trans staged')
    exact keeps_adopt s valid state
  · exact .refl c s

theorem keeps_deliver (s : State) (p : Port) (body : List Byte) : KeepsLaws c s { s with prt := { s.prt.deliver p body with
    staged := match p with | .control => s.prt.staged | .service => none } } := by
  cases p
  · exact keeps_prt_quiet _ id rfl rfl rfl rfl rfl
  · exact keeps_prt _ id id id fun _ => nofun

theorem keeps_endFrame (s : State) (p : Port) : KeepsLaws c s (s.endFrame p) :=
  (((keeps_applyCommit s _).trans (keeps_deliver _ p _)).trans (keeps_onFrame _ p _)).trans (keeps_onSoftReset _ _)

/-! ### The heartbeat (R168) -/

theorem keeps_heartbeatExpiry (s : State) : KeepsLaws c s s.heartbeatExpiry := by
  have removed : KeepsLaws c s { s with dta := s.dta.put .board none, prt := { s.prt with heartbeat := none } } := {
    entry := fun h => ⟨nofun, h.room⟩ }
  have noted (u : State) (brst : Option Nat) : KeepsLaws c u { u with prt :=
      { u.prt with expiredFlag := true, expiredNote := false, brst := brst } } := keeps_prt_quiet _ id rfl rfl rfl rfl rfl
  exact (removed.trans (keeps_enterKey _ (k := .a07) (by decide) (by decide))).trans (noted _ _)

end Sys2Proof.Machine

/-! SUPPORT. The store, the burner sequencer's own events and the timers keep the laws of a run, and with them every command that
is not a reset or a supply failure: `exec_keeps`. -/

namespace Sys2Proof.Machine

variable {c : Instr} {s t : State}

/-! ### The store (R176, R177, R184) -/

/-- R177: a write leaves the trim block. -/
theorem Nv.write_trim (n : Nv) (whole : Bool) (x : WriteImage) : (n.write whole x).trim = n.trim := by cases x <;> rfl

theorem Nv.write_history_length (n : Nv) (whole : Bool) (x : WriteImage) :
    (n.write whole x).history.length = n.history.length := by
  cases x
  case slot i r => exact List.length_set
  all_goals rfl

/-- R177: the end of a write, the one command of which changes the blocks. -/
theorem keeps_endWrite (s : State) (w : Write) (b : Bool) : KeepsLaws (.storeWriteEnd b) s (s.endWrite w b) := by
  have written : KeepsLaws (.storeWriteEnd b) s
      { s with sto := { s.sto with inFlight := none, nv := s.sto.nv.write b w.image } } := {
    size := fun h => ⟨h.notices, h.ring, (Nv.write_history_length _ _ _).trans h.history, h.fifo, h.counter⟩
    trim := Nv.write_trim _ _ _
    nv := fun other => absurd rfl (other b) }
  exact .ite written (written.trans (keeps_markDirty _ _))

/-- R176: an operating minute more, at which the operating second count returns to 0. -/
def State.minuteCounted (s : State) : State :=
  { s with
    sto := { s.sto with counters := { s.sto.counters with minutes := min stampMax (s.sto.counters.minutes + 1) } }
    clock := { s.clock with minuteStart := s.clock.now } }

theorem keeps_minuteCounted (s : State) : KeepsLaws c s s.minuteCounted :=
  (keeps_counters s { s.sto.counters with minutes := min stampMax (s.sto.counters.minutes + 1) }).trans (keeps_clock _)

theorem keeps_decayCounter (s : State) : KeepsLaws c s s.decayCounter := by
  have counted : KeepsLaws c s { s with flt := { s.flt with
      resetCounter := s.flt.resetCounter - 1, decay := decayFor (s.flt.resetCounter - 1) } } :=
    keeps_flt_quiet _ rfl id (fun h => (Nat.sub_le _ _).trans h) rfl fun _ => id
  have marked := counted.trans (keeps_markDirty _ .lockout)
  exact .ite (marked.trans (keeps_leaveKey _ (by decide))) marked

/-! ### The sequencer's events -/

theorem keeps_preCheckExpiry (s : State) (state : s.bsq.state = .preCheck) : KeepsLaws c s s.preCheckExpiry := by
  have lock (k : FaultKey) (locking : keyClass k = .locking) : KeepsLaws c s (s.lockWith k) :=
    keeps_lockWith s locking (by rw [state]; exact nofun)
  exact .ite (lock .f03 rfl) (.ite (lock .f07 rfl)
    (.ite (keeps_provingFailure s (plain_of state (by decide)) (by decide) rfl) (.refl c s)))

theorem keeps_timerStopped (s : State) : KeepsLaws c s { s with bsq := { s.bsq with timer := none } } :=
  keeps_bsq _ rfl rfl rfl rfl

theorem keeps_provingTimeout (s : State) : KeepsLaws c s s.provingTimeout := by
  unfold State.provingTimeout
  split
  · next state => exact keeps_provingFailure s (plain_of state (by decide)) (by decide) rfl
  · next state => split <;> exact keeps_provingFailure s (plain_of state (by decide)) (by decide) rfl
  · next state => exact keeps_provingFailure s (plain_of state (by decide)) (by decide) rfl
  · exact .refl c s

/-- The gas states are plain. -/
theorem SeqState.plain_of_gas {q : SeqState} (h : q.gasOpen = true) : q.plain := by
  constructor <;> rintro rfl <;> exact nomatch h

theorem SeqState.plain_of_stray {q : SeqState} (h : q.supervisesStray = true) : q.plain := by
  constructor <;> rintro rfl <;> exact nomatch h

theorem keeps_purgeEnded (s : State) :
    KeepsLaws c s (({ s with bsq := { s.bsq with purgeLeft := 0 } } : State).setFanTarget 0) :=
  .trans (keeps_bsq (s := s) { s.bsq with purgeLeft := 0 } rfl rfl rfl rfl) (keeps_setFanTarget _ 0)

theorem keeps_b06Stopped (s : State) : KeepsLaws c s { s with bsq := { s.bsq with b06Timer := none } } :=
  keeps_bsq _ rfl rfl rfl rfl

theorem keeps_tripTaken (s : State) (reports : List TripSet) :
    KeepsLaws c s { s with bsq := { s.bsq with tripReports := reports } } := keeps_bsq _ rfl rfl rfl rfl

theorem keeps_refusalTaken (s : State) (opens : List RefusedOpen) :
    KeepsLaws c s { s with bsq := { s.bsq with refusedOpens := opens } } := keeps_bsq _ rfl rfl rfl rfl

/-- R97, R184: a burner minute more. -/
def State.burnerMinuteCounted (s : State) : State :=
  { s with
    bsq := { s.bsq with burnerPart := 0 }
    sto := { s.sto with counters :=
      { s.sto.counters with burnerMinutes := min 4294967295 (s.sto.counters.burnerMinutes + 1) } } }

theorem keeps_burnerMinuteCounted (s : State) : KeepsLaws c s s.burnerMinuteCounted :=
  (keeps_bsq (s := s) { s.bsq with burnerPart := 0 } rfl rfl rfl rfl).trans (keeps_counters _ _)

/-! ### The timers of the demand table and the firing-rate engine -/

theorem keeps_intervalCompute (s : State) (running : RateLaw s → s.bsq.state = .running) :
    KeepsLaws c s s.intervalCompute := by
  unfold State.intervalCompute
  split
  · exact keeps_chCompute s running
  · exact keeps_serviceForm s running
  · exact .refl c s

/-- R55: the interval timer runs in RUNNING alone, and is restarted. -/
theorem keeps_chInterval (s : State) (timer : s.fre.chTimer.isSome = true) :
    KeepsLaws c s ({ s with fre := { s.fre with chTimer := some Config.chIntervalMs } } : State).intervalCompute := by
  have running : RateLaw s → s.bsq.state = .running := fun h => by
    by_contra other
    obtain ⟨-, -, stopped, -⟩ := h other
    rw [stopped] at timer
    exact nomatch timer
  have restarted : KeepsLaws c s { s with fre := { s.fre with chTimer := some Config.chIntervalMs } } :=
    keeps_fre _ (fun h e => absurd (running h) e) (fun _ => id)
  refine restarted.trans (keeps_intervalCompute _ fun h => ?_)
  by_contra other
  exact nomatch (h other).2.2.1

theorem keeps_endMove (s : State) : KeepsLaws c s { s with dta := s.dta.endMove } := by
  unfold Dta.endMove
  split <;> exact keeps_dta_quiet _ rfl rfl

end Sys2Proof.Machine

/-! SUPPORT. Every command that is neither a reset nor a supply failure keeps the laws of a run: `exec_keeps`, one line for each
command. -/

namespace Sys2Proof.Machine

variable {c : Instr} {s t : State}

/-- A guard that lets the event act, or leaves the part. -/
theorem KeepsLaws.guard {p : Prop} [Decidable p] (h : p → KeepsLaws c s t) : KeepsLaws c s (if p then t else s) := by
  split
  · exact h ‹_›
  · exact .refl c s

/-- Every command but the four of the supply and the resets is an event, whose effect keeps the laws. -/
theorem exec_keeps_event (c : Instr) (h : isReset c = false) :
    ∃ f : State → State, (∀ s, exec c s = .next (s.event f)) ∧ ∀ s, KeepsLaws c s (f s) := by
  cases c <;> first
    | exact Bool.noConfusion h
    | refine ⟨_, fun _ => rfl, fun s => ?_⟩
  case startupReadsComplete =>
    refine .guard fun startup => ?_
    have reads := keeps_startup (c := .startupReadsComplete) s startup
    unfold State.handedOver at reads
    exact reads
  case ntcConversionCycle readings polOut =>
    exact (((keeps_convertedNow s readings polOut).trans (keeps_judgeCycle _)).trans (keeps_reportTemperatures _)).trans
      ((keeps_judgeFrost _).trans (keeps_judgePause _))
  case channelOpenOrShort ch kind =>
    exact .ite (.refl _ s) (((keeps_failChannel s ch kind).trans (keeps_judgeSensors _)).trans (keeps_reportTemperatures _))
  case flowPairCountExpiry => exact .guard fun _ => keeps_pairExpiry s
  case noCirculationCountExpiry => exact .guard fun _ => keeps_circulationExpiry s
  case b09TimerExpiry => exact .guard fun _ => (keeps_circCount s 0 none).trans (keeps_leaveKey _ (by decide))
  case pressureReading mv =>
    exact (keeps_judgePressureAge s).trans (.ite (keeps_pressureGood _ mv) (keeps_pressureBad _))
  case ionisationSample current =>
    exact ((keeps_ionSample s _).trans (keeps_addToBlock _ _)).trans (keeps_judgeFlame _ _)
  case flameProved => exact .ite (.refl _ s) (keeps_flameProved s)
  case flameLost => exact .guard fun _ => keeps_flameLost s
  case weakFlameBlockEnd => exact .guard fun _ => keeps_endBlock s _
  case pulseGateEnd turbine tacho => exact keeps_gate s turbine tacho
  case a08GoodGateCount => exact .guard fun _ => keeps_endA08 s
  case tapStart => exact .guard fun _ => keeps_setTap s true
  case tapStop => exact .guard fun _ => keeps_setTap s false
  case antiCycleTimerExpiry => exact keeps_dta_quiet _ rfl rfl
  case serviceEntryExpiry => exact .guard fun _ => keeps_service s none
  case keepwarmSpacingTimerExpiry => exact keeps_dta_quiet _ rfl rfl
  case keepwarmBurnTimeLimit => exact .guard fun _ => keeps_dta_quiet _ rfl rfl
  case pumpOverrunTimerExpiry => exact keeps_dta_quiet _ rfl rfl
  case diverterMoveEnd => exact keeps_endMove s
  case chComputation => exact .guard fun timer => keeps_chInterval s timer
  case preCheckTimerExpiry =>
    exact .guard fun state => (keeps_timerStopped s).trans (keeps_preCheckExpiry _ state)
  case prePurgeTimeReached => exact .guard fun state => keeps_goto s (plain_of state (by decide)) (by decide) rfl
  case fanProvingTimeout => exact keeps_provingTimeout s
  case ignitionSpeedRunReached => exact .guard fun ready => keeps_enterSafetyTime s ready.1 ready.2
  case safetyTimeExpiry =>
    exact .guard fun state => keeps_unlessTripped s (keeps_failedAttempt s (plain_of state (by decide)))
  case stabilisationTimeExpiry => exact .guard fun state => keeps_enterRunning s state
  case interPurgeTimeReached => exact .guard fun state => keeps_goto s (plain_of state (by decide)) (by decide) rfl
  case outOfBandRunTimeout =>
    exact .guard fun gas => keeps_provingFailure s (SeqState.plain_of_gas gas) (by decide) rfl
  case postPurgeTimeExpiry => exact .guard fun state => keeps_goto s (plain_of state (by decide)) (by decide) rfl
  case strayFlameTimeLimit =>
    exact .guard fun stray => keeps_lockWith s rfl (SeqState.plain_of_stray (Bool.and_eq_true _ _ ▸ stray).1).1
  case b06TimerExpiry => exact .guard fun _ => (keeps_b06Stopped s).trans (keeps_leaveKey _ (by decide))
  case lockoutPurgeEnd => exact .guard fun _ => keeps_purgeEnded s
  case lockoutPurgeRemainderEnd => exact .guard fun _ => keeps_purgeEnded s
  case tripReport =>
    split
    · exact .refl _ s
    · exact (keeps_tripTaken s _).trans (keeps_takeTrip _ _)
  case refusedOpen =>
    split
    · exact .refl _ s
    · exact (keeps_refusalTaken s _).trans (keeps_takeTrip _ _)
  case burnerMinute => exact .guard fun _ => keeps_burnerMinuteCounted s
  case tripLineActive line lowFor => exact .guard fun _ => keeps_lineActive s line
  case tripLineInactive line highFor => exact .guard fun _ => (keeps_lineOff s line).trans (keeps_reportLine _ _ _)
  case channelPeriodStart ch => exact .ite (.refl _ s) (keeps_periodStarted s ch)
  case pullInEnd valve => exact keeps_endPullIn s valve
  case coilCheckHold valve current => exact .guard fun _ => keeps_checkCoil s _ _ _ _
  case coilCheckIdle valve current => exact .guard fun _ => (keeps_coilZero s _).trans (keeps_checkCoil _ _ _ _ _)
  case fanLoopStep => exact (keeps_fanStep s _ _).trans (keeps_clock _)
  case pumpDtStepTimerExpiry => exact .guard fun _ => keeps_pumpStep s _ _
  case decayTimerExpiry => exact .guard fun _ => keeps_decayCounter s
  case operatingMinute => exact .ite ((keeps_minuteCounted s).trans (keeps_markDirty _ _)) (keeps_minuteCounted s)
  case pollTick =>
    have ended : KeepsLaws .pollTick s (State.endMissed { s with clock := { s.clock with pollTickDue := false } }) :=
      (keeps_clock (s := s) _).trans (keeps_endMissed _)
    dsimp only
    split
    · exact ended
    · exact ended.trans (keeps_pollDue _ _)
  case pollStart =>
    split
    · exact keeps_sendPoll s _
    · exact .refl _ s
  case pollSkip =>
    split
    · exact keeps_skipPoll s
    · exact .refl _ s
  case onTimeRunComplete => exact .guard fun _ => keeps_endOnTimeRun s
  case answerWindowClose =>
    split
    · split
      · exact keeps_rlc_quiet _ rfl rfl
      · exact keeps_endMissed s
    · exact .refl _ s
  case receiveByte b =>
    split
    · exact .refl _ s
    · split
      · exact keeps_breakFrame s _
      · next room =>
        have received := keeps_receive (c := .receiveByte b) s b (24 < s.rlc.fifo.length + 1) (by omega)
        exact .ite (received.trans (keeps_endMissed _)) received
  case codeViolation =>
    split
    · exact .refl _ s
    · exact keeps_breakFrame s _
  case inboundFrameEnd =>
    have idle : KeepsLaws .inboundFrameEnd s { s with rlc :=
        { s.rlc with foreign := false, broken := false, idle := 0 } } := keeps_rlc_quiet _ rfl rfl
    split
    · exact idle
    · exact idle.trans (keeps_judgeFrame _ _ (.inr (.inr (.inr rfl))))
  case slotSilent n => exact .guard fun _ => (keeps_misses s n 3).trans (keeps_goSilent _ n)
  case slotLost n => exact .guard fun _ => (keeps_misses s n 10).trans (keeps_goLost _ n)
  case loopShort current lasted => exact .guard fun _ => keeps_takeShort s
  case loopOffTimerExpiry => exact .guard fun _ => keeps_rlc_quiet _ rfl rfl
  case cleanTimerExpiry =>
    exact .guard fun _ => .trans (keeps_rlc_quiet (s := s) { s.rlc with cleanTimer := none } rfl rfl)
      (keeps_leaveKey _ (by decide))
  case controlRequestFrame commands => exact .ite (keeps_countBadFrame s _) (keeps_takeRequest s _)
  case collectFrame clocked => exact .ite (.refl _ s) (keeps_takeCollect s _)
  case controlBadFrame bytes => exact .guard fun _ => keeps_countBadFrame s _
  case serviceRequestFrame bytes stopBitError => exact keeps_takeServiceBytes s _ _
  case serviceFrameGap => exact keeps_serviceGap s
  case serviceReplySent =>
    split
    · next sending => exact (keeps_replySent s sending).trans (keeps_onSoftReset _ _)
    · exact .refl _ s
  case controlReplyHoldExpiry => exact keeps_onSoftReset s _
  case frameProcessingEnd p =>
    exact .guard fun _ => (keeps_finishCommands s p (.inr (.inr (.inl ⟨p, rfl⟩)))).trans (keeps_endFrame _ p)
  case readCommand p space start step count => exact keeps_portCommand s p _ (noReset_of_read rfl)
  case genericWrite p space start step data =>
    exact keeps_portCommand s p _ (noReset_of_carries _ (.inr (.inl ⟨p, space, start, step, data, rfl⟩)))
  case demandWrite p start step data => exact keeps_portCommand s p _ (noReset_of_space (by decide))
  case settingsWrite p start step data => exact keeps_portCommand s p _ (noReset_of_space (by decide))
  case combustionWrite p start step data => exact keeps_portCommand s p _ (noReset_of_space (by decide))
  case restoreFactoryTable value => exact keeps_portCommand s _ _ (noReset_of_space (by decide))
  case resetRequestWord p value => exact keeps_portCommand s p _ (noReset_of_carries _ (.inl ⟨p, value, rfl⟩))
  case historyClearWord p value => exact keeps_portCommand s p _ (noReset_historyClear value)
  case noticePop => exact keeps_portCommand s _ _ (noReset_of_read rfl)
  case heartbeatWord value => exact keeps_portCommand s _ _ (noReset_of_space (by decide))
  case boardExpiredFlagRead => exact keeps_portCommand s _ _ (noReset_of_read rfl)
  case boardExpiredFlagWrite value => exact keeps_portCommand s _ _ (noReset_of_space (by decide))
  case unlockWord value => exact keeps_portCommand s _ _ (noReset_of_space (by decide))
  case softResetWord p value => exact keeps_portCommand s p _ (noReset_of_space (by decide))
  case counterClear p counter value => exact keeps_portCommand s p _ (noReset_of_space (by decide))
  case trimOffsetWrite ch value => exact keeps_portCommand s _ _ (noReset_of_space (by decide))
  case outputTestRequest channel level duration => exact keeps_portCommand s _ _ (noReset_of_space (by decide))
  case heartbeatTimerExpiry => exact .guard fun _ => keeps_heartbeatExpiry s
  case brstPulseEnd => exact keeps_prt_quiet _ id rfl rfl rfl rfl rfl
  case storeWriteEnd b =>
    split
    · exact .refl _ s
    · exact keeps_endWrite s _ b
  case outputTestTimerExpiry => exact keeps_endTest s _
  case pollSendEnd =>
    split
    · exact keeps_rlc_quiet _ rfl rfl
    · exact .refl _ s
  case preambleRecognised =>
    split
    · exact .refl _ s
    · split
      · exact .refl _ s
      · split
        · exact keeps_rlc_quiet _ rfl rfl
        · exact keeps_rlc _ (fun _ => Nat.zero_le 32) fun _ => rfl
      · exact keeps_rlc_quiet _ rfl rfl
  case inboundCurrentStep => exact keeps_rlc_quiet _ rfl rfl

/-- What a command that is neither a reset nor a supply failure does: nothing on a part without supply, or an effect that keeps
the laws and the end of the event. -/
theorem exec_keeps {c : Instr} {s t : State} (h : exec c s = .next t) :
    isReset c = true ∨ t = s ∨ ∃ u, KeepsLaws c s u ∧ t = u.settle := by
  cases hc : isReset c
  · obtain ⟨f, hf, keeps⟩ := exec_keeps_event c hc
    rw [hf] at h
    cases h
    cases hp : s.powered
    · exact .inr (.inl (s.event_unpowered hp f))
    · exact .inr (.inr ⟨f s, keeps s, s.event_powered hp f⟩)
  · exact .inl rfl

end Sys2Proof.Machine

/-! SUPPORT. From the laws of one command to the laws of one step: 1 ms of time, the resets and a supply failure, and the
statements that follow from the walk over the commands alone. -/

namespace Sys2Proof.Machine

variable {c : Instr} {s t : State}

/-! ### The resets and the supply -/

/-- R66, R173: the part after a reset, with what a soft reset alone carries over. -/
def State.restarted (s : State) (nv : Nv) (trim : Trim) (reload flag note : Bool) (brst : Option Nat) : State :=
  { State.afterReset nv trim reload s.pending with
    prt := { Prt.atReset with expiredFlag := flag, expiredNote := note, brst := brst } }

/-- R174: the part without supply. -/
def State.cutOff (s : State) : State :=
  { s with powered := false, sto := { s.sto with nv := s.sto.cutShort, inFlight := none } }

theorem afterReset_eq_restarted (s : State) (nv : Nv) (trim : Trim) (reload : Bool) :
    State.afterReset nv trim reload s.pending = s.restarted nv trim reload false false none := rfl

/-- R174: a write that is cut short leaves the factory trim block and the number of slots. -/
theorem cutShort_trim (x : Sto) : x.cutShort.trim = x.nv.trim := by
  unfold Sto.cutShort
  split
  · rfl
  · exact Nv.write_trim _ _ _

theorem cutShort_history_length (x : Sto) : x.cutShort.history.length = x.nv.history.length := by
  unfold Sto.cutShort
  split
  · rfl
  · exact Nv.write_history_length _ _ _

theorem live_cases (s : State) (f : State → State) : s.live f = s ∨ s.live f = f s := by
  unfold State.live
  split
  · exact .inr rfl
  · exact .inl rfl

/-- What one of the resets or a supply failure does: nothing, a new start on blocks that a write may have been cut short in, or
the end of the supply. -/
theorem reset_effect (reset : isReset c = true) (run : exec c s = .next t) :
    t = s ∨ t = s.cutOff ∨ ∃ nv trim reload flag note brst, (nv = s.sto.nv ∨ nv = s.sto.cutShort)
      ∧ t = s.restarted nv trim reload flag note brst := by
  rcases isReset_cases reset with rfl | rfl | rfl | rfl <;> cases run
  · exact .inr (.inr ⟨_, _, _, _, _, _, .inr rfl, rfl⟩)
  · rcases live_cases s fun s => State.afterReset s.sto.cutShort Trim.fallback true s.pending with same | reset
    · exact .inl same
    · exact .inr (.inr ⟨_, _, _, _, _, _, .inr rfl, reset⟩)
  · rcases live_cases s fun s => if s.softResetReady then s.softReset else s with same | reset
    · exact .inl same
    · rw [reset]
      split
      · exact .inr (.inr ⟨_, _, _, _, _, _, .inl rfl, rfl⟩)
      · exact .inl rfl
  · exact (live_cases s State.cutOff).imp id .inl

/-! ### A law over a step -/

/-- A law that every kind of step carries: the effect of a command with the end of its event, 1 ms of time, a new start and the
end of the supply. -/
structure Carried (P : State → Prop) : Prop where
  queue : ∀ s q, P s → P { s with pending := q }
  event : ∀ c s u, KeepsLaws c s u → P s → P u.settle
  pass : ∀ s, P s → P s.pass
  restart : ∀ s nv trim reload flag note brst, nv.history.length = s.sto.nv.history.length → P s →
    P (s.restarted nv trim reload flag note brst)
  cutOff : ∀ s, P s → P s.cutOff

theorem Carried.exec {P : State → Prop} (law : Carried P) (h : P s) (run : exec c s = .next t) : P t := by
  rcases exec_keeps run with reset | rfl | ⟨u, keeps, settled⟩
  · rcases reset_effect reset run with rfl | rfl | ⟨nv, trim, reload, flag, note, brst, store, rfl⟩
    · exact h
    · exact law.cutOff s h
    · refine law.restart s nv trim reload flag note brst ?_ h
      rcases store with rfl | rfl
      · rfl
      · exact cutShort_history_length _
  · exact h
  · exact settled ▸ law.event c s u keeps h

theorem Carried.tick {P : State → Prop} (law : Carried P) (h : P s) : P s.tick := by
  rcases tick_cases s with pass | fails
  · exact pass ▸ law.pass s h
  · exact fails ▸ law.event (.pressureReading 0) _ _ (keeps_pressureFails _) (law.pass s h)

/-- A carried law is kept by every step. -/
theorem Carried.keptByStep {P : State → Prop} (law : Carried P) : KeptByStep P :=
  .of_exec law.queue (fun _ _ _ h => law.exec h) fun _ h => law.tick h

/-! ### The laws that hold after every operation -/

/-- R99: a period counter's 1 ms changes no channel's state, re-arm or commands. -/
theorem ChannelRecord.tick_frame (r : ChannelRecord) (period : Nat) : (r.tick period).state = r.state
    ∧ (r.tick period).rearmPending = r.rearmPending ∧ (r.tick period).owner = r.owner := ⟨rfl, rfl, rfl⟩

theorem pass_trip (h : TripLaw s) : TripLaw s.pass := by
  intro on
  have kept : ∀ (r : ChannelRecord) (period : Nat), r.state = .tripped ∧ r.rearmPending = false →
      (r.tick period).state = .tripped ∧ (r.tick period).rearmPending = false := fun _ _ => id
  obtain ⟨spark, gv1, gv2⟩ := h on
  exact ⟨kept s.ocu.spark _ spark, kept s.ocu.gv1 _ gv1, kept s.ocu.gv2 _ gv2⟩

theorem tripLaw_carried : Carried TripLaw where
  queue _ _ h := h
  event _ _ _ keeps h := (keeps_settle (c := .pinReset) _).trip (keeps.trip h)
  pass _ := pass_trip
  restart _ _ _ _ _ _ _ _ _ := fun on => absurd on nofun
  cutOff _ h := h

/-- Settles O5, from what every operation of the part leaves of the three channels. -/
theorem activeLineKeepsGasTripped : Obligations.ActiveLineKeepsGasTripped := tripLaw_carried.keptByStep

theorem lockoutLaw_carried : Carried LockoutLaw where
  queue _ _ h := ⟨h.startup, h.held, h.only⟩
  event _ _ _ keeps h := (keeps_settle (c := .pinReset) _).lockout (keeps.lockout h)
  pass s h := by
    refine ⟨?_, h.held, h.only⟩
    have waits : s.pass.sto.startup.isSome = s.sto.startup.isSome := by
      rw [← Option.not_isNone, ← Option.not_isNone]
      exact congrArg _ (countdown_isNone _)
    exact waits.trans h.startup
  restart _ _ _ _ _ _ _ _ _ := ⟨rfl, nofun, nofun⟩
  cutOff _ h := ⟨h.startup, h.held, h.only⟩

theorem activeLaw_carried : Carried ActiveLaw where
  queue _ _ h := ⟨h.order, h.cause, h.held⟩
  event _ _ _ keeps h := (keeps_settle (c := .pinReset) _).active (keeps.active h)
  pass _ h := ⟨h.order, h.cause, h.held⟩
  restart _ _ _ _ _ _ _ _ _ := ⟨List.nil_sublist _, fun _ h => absurd h List.not_mem_nil, nofun⟩
  cutOff _ h := ⟨h.order, h.cause, h.held⟩

/-- Settles O6, from what every operation of the part leaves of the lockout and of the active fault set. -/
theorem lockoutAndActiveSetAgree : Obligations.LockoutAndActiveSetAgree :=
  ⟨lockoutLaw_carried.keptByStep, activeLaw_carried.keptByStep⟩

theorem rateLaw_carried : Carried RateLaw where
  queue _ _ h := h
  event _ _ _ keeps h := (keeps_settle (c := .pinReset) _).rate (keeps.rate h)
  pass _ h e := by
    obtain ⟨lastRate, served, chTimer, reason⟩ := h e
    exact ⟨lastRate, served, (countdown_eq_none _).2 chTimer, reason⟩
  restart _ _ _ _ _ _ _ _ _ := fun _ => ⟨rfl, rfl, rfl, rfl⟩
  cutOff _ h := h

/-- The plan's owner commands are in place after the end of every event, given that FAN carried its target before. -/
theorem ownerLaw_carried : Carried OwnerLaw where
  queue _ _ h := h.congr rfl rfl rfl rfl
  event _ _ _ keeps h := settle_owners (keeps.fan h.fan)
  pass s h := ⟨(ChannelRecord.tick_frame s.ocu.fan _).2.2.trans h.fan, (ChannelRecord.tick_frame s.ocu.pump _).2.2.trans h.pump,
    ⟨h.diverter.owner, h.diverter.state⟩, ⟨h.zone1.owner, h.zone1.state⟩, ⟨h.zone2.owner, h.zone2.state⟩⟩
  restart _ _ _ _ _ _ _ _ _ := ⟨rfl, rfl, ⟨rfl, fun _ => rfl⟩, ⟨rfl, fun _ => rfl⟩, ⟨rfl, fun _ => rfl⟩⟩
  cutOff _ h := h.congr rfl rfl rfl rfl

/-- Settles O9, from the owner commands that the end of an event gives. -/
theorem outputsCarryOwnerCommands : Obligations.OutputsCarryOwnerCommands := ownerLaw_carried.keptByStep

/-! ### Measured values and bounded records -/

/-- R4: a channel's age grows with time, and nothing else of its record. -/
theorem NtcRecord.Sound.tick {r : NtcRecord} (h : r.Sound) : r.tick.Sound := ⟨h.window, h.short, h.status⟩

theorem tick_ntcGet (m : Mfe) (ch : NtcChannel) : ntcGet m.tick.ntc ch = (ntcGet m.ntc ch).tick := by cases ch <;> rfl

theorem ntcGet_atReset_sound (ch : NtcChannel) : (ntcGet Mfe.atReset.ntc ch).Sound := by
  cases ch <;> exact ⟨Nat.zero_le _, fun _ => rfl, fun _ => rfl⟩

theorem measureLaw_carried : Carried MeasureLaw where
  queue _ _ h := ⟨h.ntc, h.window, h.short, h.b02⟩
  event _ _ _ keeps h := (keeps_settle (c := .pinReset) _).measure (keeps.measure h)
  pass s h := ⟨fun ch => (congrArg NtcRecord.Sound (tick_ntcGet s.mfe ch)).mpr (h.ntc ch).tick, h.window, h.short, h.b02⟩
  restart _ _ _ _ _ _ _ _ _ := ⟨ntcGet_atReset_sound, Nat.zero_le _, fun _ => rfl, fun _ => rfl⟩
  cutOff _ h := ⟨h.ntc, h.window, h.short, h.b02⟩

theorem reset_counters : (⟨0, 0, 0, 0, 0, 0⟩ : PortCounters).Small := by constructor <;> decide

theorem sizeLaw_carried : Carried fun s => SizeLaw s ∧ CounterLaw s where
  queue _ _ h := ⟨⟨h.1.notices, h.1.ring, h.1.history, h.1.fifo, h.1.counter⟩, h.2⟩
  event _ _ _ keeps h :=
    have settled := keeps.trans (keeps_settle _)
    ⟨settled.size h.1, settled.counter h.2⟩
  pass _ h := ⟨⟨h.1.notices, h.1.ring, h.1.history, h.1.fifo, h.1.counter⟩, h.2⟩
  restart _ _ _ _ _ _ _ len h :=
    ⟨⟨Nat.zero_le _, List.length_replicate, len.trans h.1.history, Nat.zero_le _, Nat.zero_le _⟩,
      reset_counters, reset_counters⟩
  cutOff _ h := ⟨⟨h.1.notices, h.1.ring, (cutShort_history_length _).trans h.1.history, h.1.fifo, h.1.counter⟩, h.2⟩

theorem entryLaw_carried : Carried EntryLaw where
  queue _ _ h := ⟨h.board, h.room⟩
  event _ _ _ keeps h := (keeps_settle (c := .pinReset) _).entry (keeps.entry h)
  pass s h := by
    refine ⟨fun board => ?_, h.room⟩
    have runs := h.board board
    rw [← Option.not_isNone] at runs ⊢
    exact (congrArg _ (countdown_isNone _)).trans runs
  restart _ _ _ _ _ _ _ _ _ := ⟨nofun, fun n e h => absurd h (by cases n <;> exact nofun)⟩
  cutOff _ h := ⟨h.board, h.room⟩

theorem stagedLaw_carried : Carried StagedLaw where
  queue _ _ h := h
  event _ _ _ keeps h := (keeps_settle (c := .pinReset) _).staged (keeps.staged h)
  pass _ h staged := (congrArg ServiceState.tick (h staged)).trans rfl
  restart _ _ _ _ _ _ _ _ _ := nofun
  cutOff _ h := h

/-- Settles O12, from what every operation of the part leaves of the bounded records. -/
theorem recordsStaySoundAndInSize : Obligations.RecordsStaySoundAndInSize :=
  ⟨measureLaw_carried.keptByStep, sizeLaw_carried.keptByStep, entryLaw_carried.keptByStep, stagedLaw_carried.keptByStep⟩

/-! ### The whole machine -/

/-- Every command answers a next state. -/
theorem exec_next (c : Instr) (s : State) : ∃ t, exec c s = .next t := by
  cases reset : isReset c
  · obtain ⟨f, run⟩ := exec_event c reset
    exact ⟨_, run s⟩
  · rcases isReset_cases reset with rfl | rfl | rfl | rfl <;> exact ⟨_, rfl⟩

theorem exec_pending (run : exec c s = .next t) : t.pending = s.pending := by
  rcases exec_keeps run with reset | rfl | ⟨u, keeps, settled⟩
  · rcases reset_effect reset run with rfl | rfl | ⟨_, _, _, _, _, _, _, rfl⟩ <;> rfl
  · rfl
  · exact settled ▸ (keeps.trans (keeps_settle u)).pending

theorem exec_unpowered (off : s.powered = false) (c : Instr) (other : c ≠ .powerOnReset) : exec c s = .next s := by
  have rests : ∀ f : State → State, s.live f = s := fun f => by simp [State.live, off]
  cases reset : isReset c
  · obtain ⟨f, run⟩ := exec_event c reset
    rw [run, s.event_unpowered off]
  · rcases isReset_cases reset with rfl | rfl | rfl | rfl
    · exact absurd rfl other
    all_goals exact congrArg Host.Outcome.next (rests _)

/-- Settles O13, from the answer of every command. -/
theorem everyCommandCompletes : Obligations.EveryCommandCompletes := by
  intro c s
  obtain ⟨t, run⟩ := exec_next c s
  refine ⟨t, run, exec_pending run, fun off other => ?_⟩
  cases (exec_unpowered off c other).symm.trans run
  rfl

theorem reset_trim (reset : isReset c = true) (run : exec c s = .next t) : t.sto.nv.trim = s.sto.nv.trim := by
  rcases reset_effect reset run with rfl | rfl | ⟨_, _, _, _, _, _, rfl | rfl, rfl⟩
  · rfl
  · exact cutShort_trim _
  · rfl
  · exact cutShort_trim _

theorem softReset_nv (run : exec .softResetEffect s = .next t) : t.sto.nv = s.sto.nv := by
  cases run
  refine State.live_induction (P := fun t => t.sto.nv = s.sto.nv) ?_ rfl
  split <;> rfl

/-- Settles O14, from what every operation of the part leaves of the non-volatile blocks. -/
theorem storeChangesOnlyByWrites : Obligations.StoreChangesOnlyByWrites := by
  intro c s t run
  rcases exec_keeps run with reset | rfl | ⟨u, keeps, settled⟩
  · refine ⟨reset_trim reset run, fun _ supply power pin => ?_⟩
    rcases isReset_cases reset with rfl | rfl | rfl | rfl
    · exact absurd rfl power
    · exact absurd rfl pin
    · exact softReset_nv run
    · exact absurd rfl supply
  · exact ⟨rfl, fun _ _ _ _ => rfl⟩
  · have ended := keeps.trans (keeps_settle u)
    rw [settled]
    exact ⟨ended.trim, fun other _ _ _ => ended.nv other⟩

/-- Settles O15, from what every operation of the part leaves of a lockout that stands. -/
theorem lockoutEndsOnlyByReset : Obligations.LockoutEndsOnlyByReset := by
  intro c s t run locked freed
  rcases exec_keeps run with reset | rfl | ⟨u, keeps, settled⟩
  · rcases isReset_cases reset with rfl | rfl | rfl | rfl
    · exact .inr (.inr (.inr (.inr (.inl rfl))))
    · exact .inr (.inr (.inr (.inr (.inr (.inl rfl)))))
    · exact .inr (.inr (.inr (.inr (.inr (.inr rfl)))))
    · cases run
      rcases live_cases s State.cutOff with same | cut
      · exact absurd (locked.symm.trans ((congrArg State.locked same).symm.trans freed)) nofun
      · exact absurd (locked.symm.trans ((congrArg State.locked cut).symm.trans freed)) nofun
  · exact absurd (locked.symm.trans freed) nofun
  · rw [settled] at freed
    rcases (keeps.trans (keeps_settle u)).held locked with still | word | write | frame | report
    · exact absurd (still.symm.trans freed) nofun
    · exact .inl word
    · exact .inr (.inl write)
    · exact .inr (.inr (.inl frame))
    · exact .inr (.inr (.inr (.inl report)))

end Sys2Proof.Machine

/-! SUPPORT. What one round of the re-evaluation leaves true of the burner and of the rate (R41, R62, R71, R75, R88), and with it
the laws of the burner and of the firing rate over a step. -/

namespace Sys2Proof.Machine

variable {c : Instr} {s t : State}

/-! ### The readers of the plan, and the sequencer's state -/

@[simp] theorem takeRate_fre (s : State) (r : Int × LimitReason) :
    (s.takeRate r).fre = { s.fre with lastRate := r.1, reason := r.2 } := by
  rw [takeRate_eq]
  dsimp only
  split
  · rfl
  · split
    · rw [(setFanTarget_touches _ _).fre (by decide)]
    · rfl

@[simp] theorem serveMode_state (s : State) : s.serveMode.bsq.state = s.bsq.state := by
  unfold State.serveMode
  split
  · cases s.dta.plan.mode <;> dsimp only
    · exact applyCaps_state _
    · exact takeRate_state _ _
  · rfl

/-- R74, R75: a burn begins in PRE-CHECK, or ends at once in IDLE. -/
theorem startBurn_state (s : State) : s.startBurn.bsq.state = .preCheck ∨ s.startBurn.bsq.state = .idle := by
  unfold State.startBurn
  dsimp only
  split
  · exact .inr (goto_state _ _)
  · exact .inl (goto_state _ _)

/-- R74, R88: what the sequencer makes of the burner request: nothing, a burn, or a withdrawal into IDLE or POST-PURGE. -/
theorem judgeRequest_cases (s : State) :
    s.judgeRequest = s
      ∨ (s.dta.plan.request = true ∧ s.bsq.state = .idle ∧ s.judgeRequest = s.startBurn)
      ∨ (s.dta.plan.request = false ∧ (s.judgeRequest = s.goto .idle ∨ s.judgeRequest = s.goto .postPurge)) := by
  unfold State.judgeRequest
  split
  · next request =>
    split
    · next idle => exact .inr (.inl ⟨request, idle, rfl⟩)
    · exact .inl rfl
  · next request =>
    have off := Bool.eq_false_iff.2 request
    split
    · exact .inr (.inr ⟨off, .inl rfl⟩)
    · exact .inr (.inr ⟨off, .inl rfl⟩)
    · split
      · exact .inr (.inr ⟨off, .inr rfl⟩)
      · exact .inr (.inr ⟨off, .inl rfl⟩)
    · exact .inr (.inr ⟨off, .inr rfl⟩)
    · exact .inr (.inr ⟨off, .inr rfl⟩)
    · exact .inr (.inr ⟨off, .inr rfl⟩)
    · exact .inr (.inr ⟨off, .inr rfl⟩)
    · exact .inl rfl

/-- R88: the states that need no burner request. -/
abbrev SeqState.needsNoRequest (q : SeqState) : Prop := q ∈ [.startCheck, .idle, .postPurge, SeqState.lockout]

theorem needsNoRequest_startCheck : SeqState.startCheck.needsNoRequest := by decide

theorem SeqState.gasOpen_of_needsNoRequest {q : SeqState} (h : q.needsNoRequest) : q.gasOpen = false := by
  revert h
  cases q <;> decide

/-- R88: without a request the sequencer withdraws to a state that needs none. -/
theorem judgeRequest_withdraws (off : s.dta.plan.request = false) : s.judgeRequest.bsq.state.needsNoRequest := by
  unfold State.judgeRequest
  rw [if_neg (by simp [off])]
  split
  · exact (goto_state s _).symm ▸ by decide
  · exact (goto_state s _).symm ▸ by decide
  · rw [goto_state]; split <;> decide
  · exact (goto_state s _).symm ▸ by decide
  · exact (goto_state s _).symm ▸ by decide
  · exact (goto_state s _).symm ▸ by decide
  · exact (goto_state s _).symm ▸ by decide
  · next noPre noPurge noIgnition noSafety noStab noRun noInter =>
    cases state : s.bsq.state with
    | startCheck | idle | postPurge | lockout => decide
    | preCheck | prePurge | ignitionSpeed | safetyTime | stabilise | running | interPurge => contradiction

/-- R70: neither judgement leads into a gas state, so the sequencer is left in one only where it is left alone. -/
theorem judgeRequest_of_gas (gas : s.judgeRequest.bsq.state.gasOpen = true) : s.judgeRequest = s := by
  rcases judgeRequest_cases s with same | ⟨-, -, burn⟩ | ⟨off, -⟩
  · exact same
  · rw [burn] at gas
    rcases startBurn_state s with state | state <;> rw [state] at gas <;> exact absurd gas nofun
  · exact absurd (gas.symm.trans (SeqState.gasOpen_of_needsNoRequest (judgeRequest_withdraws off))) nofun

theorem judgePreCheck_of_gas (gas : s.judgePreCheck.bsq.state.gasOpen = true) : s.judgePreCheck = s := by
  unfold State.judgePreCheck at gas ⊢
  split at gas
  · rw [goto_state] at gas; exact absurd gas nofun
  · rename_i stays; exact if_neg stays

/-- R75: PRE-CHECK is left at once where its conditions are all met. -/
theorem judgePreCheck_waits (state : s.judgePreCheck.bsq.state = .preCheck) : s.judgePreCheck.preCheckDone = false := by
  unfold State.judgePreCheck at state ⊢
  split at state
  · rw [goto_state] at state; exact absurd state nofun
  · rename_i stays
    rw [if_neg stays]
    exact Bool.eq_false_iff.2 fun done => stays ⟨state, done⟩

theorem judgePreCheck_needsNoRequest (h : s.bsq.state.needsNoRequest) : s.judgePreCheck = s := by
  refine if_neg fun ⟨state, _⟩ => ?_
  rw [state] at h
  revert h
  decide

/-! ### The burner after a round -/

/-- The part of `BurnerLaw` that a round of the re-evaluation leaves. -/
structure PlanBurns (s : State) : Prop where
  pump : s.bsq.state.gasOpen = true → s.dta.plan.pump ≠ .off
  request : s.dta.plan.request = false → s.bsq.state.needsNoRequest
  preCheck : s.bsq.state = .preCheck → s.preCheckDone = false

theorem PlanBurns.congr (h : PlanBurns s) (plan : t.dta.plan = s.dta.plan) (bsq : t.bsq = s.bsq)
    (flame : t.mfe.flameOn = s.mfe.flameOn) (fan : t.mfe.fanSpeed = s.mfe.fanSpeed) : PlanBurns t := by
  refine ⟨?_, ?_, ?_⟩
  · rw [plan, bsq]; exact h.pump
  · rw [plan, bsq]; exact h.request
  · unfold State.preCheckDone; rw [bsq, flame, fan]; exact h.preCheck

/-- R41: while the gas is open, the first two rows of the pump table apply. -/
theorem evaluate_pump_gas (gas : s.bsq.state.gasOpen = true) : s.evaluate.dta.plan.pump ≠ .off := by
  have rows : ∀ (mode : Mode) (d : DiverterState) (scope : Scope) (a b o f : Bool),
      pumpFor mode (pumpRow d s.bsq.state mode scope a b o f) ≠ .off := by
    intro mode d scope a b o f
    unfold pumpRow
    rw [gas]
    split
    · simp [pumpFor]
    · simp only [if_true, pumpFor]
      split <;> simp
  exact rows _ _ _ _ _ _ _

/-- The plan's burner half, as the request and PRE-CHECK are judged on it. -/
theorem judged_burns (pump : s.bsq.state.gasOpen = true → s.dta.plan.pump ≠ .off) : PlanBurns s.judgeRequest.judgePreCheck := by
  have plan : s.judgeRequest.judgePreCheck.dta.plan = s.dta.plan :=
    ((judgeRequest_samePlan s).trans (judgePreCheck_samePlan _)).plan
  refine ⟨fun gas => ?_, fun off => ?_, judgePreCheck_waits⟩
  · have left := judgePreCheck_of_gas gas
    rw [left] at gas ⊢
    have left' := judgeRequest_of_gas gas
    rw [left'] at gas ⊢
    exact pump gas
  · rw [plan] at off
    have withdrawn := judgeRequest_withdraws off
    rw [judgePreCheck_needsNoRequest withdrawn]
    exact withdrawn

/-- The state of a round in which the plan's readers have served its mode and judge its request. -/
def State.served (s : State) : State := s.replan.serveMode.applyCaps

theorem round_eq (s : State) : s.round = s.served.judgeRequest.judgePreCheck.driveOutputs := rfl

theorem served_state (s : State) : s.served.bsq.state = s.bsq.state := by
  unfold State.served
  rw [applyCaps_state, serveMode_state]
  unfold State.replan State.testMeetsDemand
  split
  · exact congrArg Bsq.state ((endTest_touches s.guardTap.judgeKeepwarm _).bsq (by decide))
  · rfl

theorem served_samePlan (s : State) : SamePlan s.replan s.served :=
  ((serveMode_touches s.replan).samePlan (by simp)).trans ((applyCaps_touches _).samePlan (by simp))

theorem served_pump (gas : s.served.bsq.state.gasOpen = true) : s.served.dta.plan.pump ≠ .off := by
  rw [(served_samePlan s).plan]
  refine evaluate_pump_gas ?_
  unfold State.served at gas
  rw [applyCaps_state, serveMode_state] at gas
  exact gas

theorem round_burns (s : State) : PlanBurns s.round :=
  (judged_burns (s := s.served) served_pump).congr rfl rfl rfl rfl

theorem PlanBurns.ended (h : PlanBurns s) : PlanBurns s.drivePins.writeStore := by
  have touches := writeStore_touches s.drivePins
  exact h.congr (congrArg Dta.plan (touches.dta (by decide))) (touches.bsq (by decide))
    (congrArg Mfe.flameOn (touches.mfe (by decide))) (congrArg Mfe.fanSpeed (touches.mfe (by decide)))

theorem settle_burns (s : State) : PlanBurns s.settle := (round_burns s.round).ended

/-! ### The burner over a step -/

theorem BurnerLaw.gas (h : BurnerLaw s) : GasLaw s := ⟨h.gasFlag, h.sparkFlag, h.gv1, h.gv2, h.spark, h.flame⟩

theorem GasLaw.burner (h : GasLaw s) (k : PlanBurns s) : BurnerLaw s :=
  ⟨h.gasFlag, h.sparkFlag, h.gv1, h.gv2, h.spark, h.flame, k.pump, k.request, k.preCheck⟩

theorem burnerLaw_carried : Carried BurnerLaw where
  queue _ _ h := ⟨h.gasFlag, h.sparkFlag, h.gv1, h.gv2, h.spark, h.flame, h.pump, h.request, h.preCheck⟩
  event _ _ u keeps h := ((keeps_settle (c := .pinReset) u).gas (keeps.gas h.gas)).burner (settle_burns u)
  pass s h := ⟨h.gasFlag, h.sparkFlag, fun e => h.gv1 ((ChannelRecord.tick_frame _ _).1.symm.trans e),
    fun e => h.gv2 ((ChannelRecord.tick_frame _ _).1.symm.trans e),
    fun e => h.spark ((ChannelRecord.tick_frame s.ocu.spark _).1.symm.trans e), h.flame, h.pump, h.request, h.preCheck⟩
  restart _ _ _ _ _ _ _ _ _ := ⟨rfl, rfl, nofun, nofun, nofun, nofun, nofun, fun _ => needsNoRequest_startCheck, nofun⟩
  cutOff _ h := ⟨h.gasFlag, h.sparkFlag, h.gv1, h.gv2, h.spark, h.flame, h.pump, h.request, h.preCheck⟩

/-- Settles O4, from what every operation leaves of the gas and the spark, and what a round leaves of the request. -/
theorem gasAndSparkOnlyInTheirStates : Obligations.GasAndSparkOnlyInTheirStates := burnerLaw_carried.keptByStep

/-! ### The caps in force (R62) -/

/-- The part of `RateBoundLaw` that a round leaves. -/
def RateCapped (s : State) : Prop :=
  s.bsq.state = .running → s.fre.caps = s.formedCaps ∧ s.fre.lastRate ≤ max s.sto.table.rmin s.formedCaps.least

/-- What the caps are formed from. -/
theorem formedCaps_congr (served : t.fre.served = s.fre.served) (before : t.fre.lastServed = s.fre.lastServed)
    (table : t.sto.table = s.sto.table) (settings : t.sto.settings = s.sto.settings) (ntc : t.mfe.ntc = s.mfe.ntc)
    (div : t.dta.divState = s.dta.divState) : t.formedCaps = s.formedCaps := by
  have max : t.modeMax = s.modeMax := by unfold State.modeMax; rw [served, before, table, settings]
  unfold State.formedCaps State.flue State.deltaT State.flow State.returnTemp
  rw [max, table, ntc, div]

theorem RateCapped.congr (h : RateCapped s) (fre : t.fre = s.fre) (state : t.bsq.state = s.bsq.state)
    (table : t.sto.table = s.sto.table) (settings : t.sto.settings = s.sto.settings) (ntc : t.mfe.ntc = s.mfe.ntc)
    (div : t.dta.divState = s.dta.divState) : RateCapped t := by
  unfold RateCapped
  rw [formedCaps_congr (by rw [fre]) (by rw [fre]) table settings ntc div, fre, state, table]
  exact h

theorem boundedRate_least (caps : Caps) (a : ActiveCaps) (rmin : Int) (own : LimitReason) :
    (boundedRate caps a rmin caps.least none own).1 ≤ max rmin caps.least := by
  unfold boundedRate
  dsimp only
  split <;> dsimp only <;> omega

theorem applyCaps_caps (s : State) : RateCapped s.applyCaps := by
  intro running
  rw [applyCaps_state] at running
  have touches := applyCaps_touches s
  have fre : s.applyCaps.fre.caps = s.formedCaps ∧ s.applyCaps.fre.served = s.fre.served
      ∧ s.applyCaps.fre.lastServed = s.fre.lastServed
      ∧ s.applyCaps.fre.lastRate ≤ max s.sto.table.rmin s.formedCaps.least := by
    unfold State.applyCaps
    dsimp only
    split
    · rw [takeRate_fre]
      exact ⟨rfl, rfl, rfl, boundedRate_least _ _ _ _⟩
    · next low =>
      refine ⟨rfl, rfl, rfl, ?_⟩
      exact (Int.not_lt.1 fun high => low ⟨running, high⟩).trans (le_max_right _ _)
  obtain ⟨caps, served, before, rate⟩ := fre
  have sto := touches.sto (by decide)
  rw [formedCaps_congr served before (by rw [sto]) (by rw [sto]) (by rw [touches.mfe (by decide)])
    (by rw [touches.dta (by decide)]), sto]
  exact ⟨caps, rate⟩

theorem judged_caps (h : RateCapped s) : RateCapped s.judgeRequest.judgePreCheck := by
  intro running
  have gas : s.judgeRequest.judgePreCheck.bsq.state.gasOpen = true := by rw [running]; rfl
  have left := judgePreCheck_of_gas gas
  rw [left] at gas running ⊢
  have left' := judgeRequest_of_gas gas
  rw [left'] at running ⊢
  exact h running

theorem round_caps (s : State) : RateCapped s.round :=
  (judged_caps (applyCaps_caps s.replan.serveMode)).congr rfl rfl rfl rfl rfl rfl

theorem RateCapped.ended (h : RateCapped s) : RateCapped s.drivePins.writeStore := by
  have touches := writeStore_touches s.drivePins
  have sto := (writeStore_endsFrom s.drivePins).sto
  exact h.congr (touches.fre (by decide)) (congrArg Bsq.state (touches.bsq (by decide)))
    (by rw [sto]; rfl) (by rw [sto]; rfl)
    (congrArg Mfe.ntc (touches.mfe (by decide))) (congrArg Dta.divState (touches.dta (by decide)))

theorem settle_caps (s : State) : RateCapped s.settle := (round_caps s.round).ended

/-- R62: a channel's age is no input of the caps, so 1 ms of time leaves them as formed. -/
theorem pass_formedCaps (s : State) : s.pass.formedCaps = s.formedCaps := rfl

theorem default_valid : CombustionTable.default.valid = true := by decide

theorem tableLaw_carried : Carried fun s => TableLaw s ∧ RateBoundLaw s where
  queue _ _ h := ⟨⟨h.1.valid, h.1.invalid⟩, ⟨h.2.caps, h.2.floor, h.2.cap⟩⟩
  event _ _ u keeps h :=
    have settled := keeps.trans (keeps_settle u)
    ⟨settled.table h.1, fun e => (settle_caps u e).1, settled.floor h.1 h.2.floor, fun e => (settle_caps u e).2⟩
  pass _ h := ⟨⟨h.1.valid, h.1.invalid⟩, ⟨h.2.caps, h.2.floor, h.2.cap⟩⟩
  restart _ _ _ _ _ _ _ _ _ := ⟨⟨fun _ => default_valid, nofun⟩, ⟨nofun, nofun, nofun⟩⟩
  cutOff _ h := ⟨⟨h.1.valid, h.1.invalid⟩, ⟨h.2.caps, h.2.floor, h.2.cap⟩⟩

/-- Settles O7, from the firing-rate engine's operations and the caps that a round applies. -/
theorem noRateOutsideRunning : Obligations.NoRateOutsideRunning :=
  ⟨rateLaw_carried.keptByStep, tableLaw_carried.keptByStep⟩

end Sys2Proof.Machine

/-! SUPPORT. The heat plan over a step (R32 to R44, R52 to R54): the second round of an event's end finds the detectors at rest and
the burner request as the first left it, so that the plan's readers change nothing more that the plan depends on. -/

namespace Sys2Proof.Machine

variable {c : Instr} {s t : State}

/-! ### The detectors at rest (R28, R30, R31) -/

/-- A disabled tap detector holds no request, and the keep-warm entry neither ends nor begins. -/
structure DetectorsRest (s : State) : Prop where
  tap : s.tapEnabled = false → s.dta.table.tap = some (Entry.plain false)
  stays : s.dta.table.keepwarm.isSome = true → s.keepwarmEnds = false
  absent : s.dta.table.keepwarm = none → s.keepwarmBegins = false

/-- R30, R31: the settings in their ranges, an entry is not created at an outlet at which it would be removed. -/
theorem keepwarmLow_lt (range : s.sto.settings.inRange = true) : s.sto.settings.keepwarmLow ≤ 500 := by
  have all := range
  simp only [Settings.inRange, Bool.and_eq_true, within, decide_eq_true_eq] at all
  exact all.1.1.1.1.1.1.1.1.1.1.1.1.1.1.2.2

theorem onDifferential_pos (range : s.sto.settings.inRange = true) :
    0 < s.sto.settings.onDifferential ∧ 0 < s.sto.settings.offDifferential := by
  have all := range
  simp only [Settings.inRange, Bool.and_eq_true, within, decide_eq_true_eq] at all
  omega

/-- R30, R31: an entry that begins does not end at the same values. -/
theorem keepwarmEnds_of_begins (range : s.sto.settings.inRange = true) (begins : s.keepwarmBegins = true) :
    s.keepwarmEnds = false := by
  have low := keepwarmLow_lt range
  unfold State.keepwarmBegins at begins
  unfold State.keepwarmEnds
  cases outlet : s.outlet with
  | none => simp [outlet] at begins
  | some o =>
    simp only [outlet, Bool.and_eq_true, Bool.not_eq_true', decide_eq_true_eq, beq_iff_eq] at begins
    obtain ⟨⟨⟨⟨⟨enable, dhw⟩, tap⟩, cold⟩, -⟩, scope⟩ := begins
    have : ¬ 550 ≤ o := by omega
    simp [enable, dhw, tap, scope, this]

theorem guardTap_tap (s : State) (off : s.tapEnabled = false) : s.guardTap.dta.table.tap = some (Entry.plain false) := by
  simp [State.guardTap, off, Dta.setTap]

theorem keepwarmBegins_of_spacing (runs : s.dta.spacing.isSome = true) : s.keepwarmBegins = false := by
  unfold State.keepwarmBegins
  rw [← Option.not_isSome, runs]
  simp

/-- The keep-warm judgement with the settings in range leaves the entry at rest. -/
theorem judgeKeepwarm_rests (range : s.sto.settings.inRange = true) :
    (s.judgeKeepwarm.dta.table.keepwarm.isSome = true → s.judgeKeepwarm.keepwarmEnds = false)
      ∧ (s.judgeKeepwarm.dta.table.keepwarm = none → s.judgeKeepwarm.keepwarmBegins = false) := by
  unfold State.judgeKeepwarm
  split
  · next present =>
    split
    · exact ⟨nofun, fun _ => keepwarmBegins_of_spacing rfl⟩
    · next stays => exact ⟨fun _ => Bool.eq_false_iff.2 stays, fun absent => absurd (Option.isSome_iff_ne_none.1 present) (not_not_intro absent)⟩
  · next absent =>
    split
    · next begins => exact ⟨fun _ => keepwarmEnds_of_begins range begins, nofun⟩
    · next stays => exact ⟨fun present => absurd present absent, fun _ => Bool.eq_false_iff.2 stays⟩

theorem judgeKeepwarm_tap (s : State) : s.judgeKeepwarm.dta.table.tap = s.dta.table.tap := by
  unfold State.judgeKeepwarm Dta.endKeepwarm
  split <;> split <;> rfl

theorem detectors_rest (range : s.sto.settings.inRange = true) : DetectorsRest s.guardTap.judgeKeepwarm := by
  obtain ⟨stays, absent⟩ := judgeKeepwarm_rests (s := s.guardTap) range
  exact ⟨fun off => (judgeKeepwarm_tap _).trans (guardTap_tap s off), stays, absent⟩

/-- What the detectors, the mode and the request depend on. -/
structure SameDemand (s t : State) : Prop where
  table : t.dta.table = s.dta.table
  spacing : t.dta.spacing = s.dta.spacing
  settings : t.sto.settings = s.sto.settings
  ntc : t.mfe.ntc = s.mfe.ntc
  active : t.flt.active = s.flt.active
  lockout : t.flt.lockout = s.flt.lockout

theorem SameDemand.trans {u : State} (h : SameDemand s t) (k : SameDemand t u) : SameDemand s u :=
  ⟨k.table.trans h.table, k.spacing.trans h.spacing, k.settings.trans h.settings, k.ntc.trans h.ntc,
    k.active.trans h.active, k.lockout.trans h.lockout⟩

namespace SameDemand

theorem asks (h : SameDemand s t) (x : Source) : t.dta.asks x = s.dta.asks x := by unfold Dta.asks; rw [h.table]

theorem isActive (h : SameDemand s t) (k : FaultKey) : t.isActive k = s.isActive k := isActive_of_active h.active k

theorem scope (h : SameDemand s t) : t.scopeInForce = s.scopeInForce := by
  unfold State.scopeInForce State.locked
  rw [h.lockout, h.active, h.isActive]

theorem chAsking (h : SameDemand s t) : t.dta.chAsking = s.dta.chAsking := by
  unfold Dta.chAsking
  exact List.filter_congr fun x _ => h.asks x

theorem mode (h : SameDemand s t) : t.chooseMode = s.chooseMode := by
  unfold State.chooseMode
  rw [h.asks, h.asks, h.asks, h.isActive, h.chAsking]

theorem tapEnabled (h : SameDemand s t) : t.tapEnabled = s.tapEnabled := by
  unfold State.tapEnabled
  rw [h.settings, h.isActive]

theorem outlet (h : SameDemand s t) : t.outlet = s.outlet := by unfold State.outlet; rw [h.ntc]

theorem flow (h : SameDemand s t) : t.flow = s.flow := by unfold State.flow; rw [h.ntc]

theorem formedTargets (h : SameDemand s t) : t.formedTargets = s.formedTargets := by
  unfold State.formedTargets State.curveOutdoor State.outdoor
  rw [h.table, h.settings, h.ntc]

theorem rests (h : SameDemand s t) (rest : DetectorsRest s) : DetectorsRest t := by
  have ends : t.keepwarmEnds = s.keepwarmEnds := by
    unfold State.keepwarmEnds
    rw [h.outlet, h.asks, h.settings, h.scope]
  have begins : t.keepwarmBegins = s.keepwarmBegins := by
    unfold State.keepwarmBegins
    rw [h.outlet, h.asks, h.settings, h.scope, h.spacing]
  exact ⟨by rw [h.tapEnabled, h.table]; exact rest.tap, by rw [ends, h.table]; exact rest.stays,
    by rw [begins, h.table]; exact rest.absent⟩

end SameDemand

theorem DetectorsRest.guardTap_table (rest : DetectorsRest s) : s.guardTap.dta.table = s.dta.table := by
  unfold State.guardTap
  dsimp only
  split
  · next off =>
    have tap := rest.tap (by simpa using off)
    unfold Dta.setTap
    dsimp only
    rw [← tap]
  · split <;> rfl

theorem guardTap_demand (rest : DetectorsRest s) : SameDemand s s.guardTap where
  table := rest.guardTap_table
  spacing := by
    unfold State.guardTap
    dsimp only
    split
    · rfl
    · split <;> rfl
  settings := rfl
  ntc := rfl
  active := rfl
  lockout := rfl

theorem DetectorsRest.judgeKeepwarm_eq (rest : DetectorsRest s) : s.judgeKeepwarm = s := by
  unfold State.judgeKeepwarm
  split
  · next present => rw [if_neg (by simp [rest.stays present])]
  · next absent =>
    have none : s.dta.table.keepwarm = none := by simpa using absent
    rw [if_neg (by simp [rest.absent none])]

/-! ### What the readers leave -/

theorem goto_dta (s : State) (q : SeqState) : (s.goto q).dta = (s.leaveFor q).dta := by
  unfold State.goto
  rw [State.setFanTarget_dta]
  split <;> split <;> rfl

/-- R42: a change of state that closes no gas leaves the arbiter's record. -/
theorem goto_dta_shut (s : State) {q : SeqState} (shut : s.bsq.state.gasOpen = false) : (s.goto q).dta = s.dta := by
  rw [goto_dta]
  simp [State.leaveFor, shut]

/-- R42: at most the pump overrun of the arbiter's record differs. -/
def LeavesDemand (s t : State) : Prop := t.dta = { s.dta with overrun := t.dta.overrun }

theorem LeavesDemand.trans {u : State} (h : LeavesDemand s t) (k : LeavesDemand t u) : LeavesDemand s u := by
  unfold LeavesDemand at h k ⊢
  rw [k, h]

theorem goto_leaves (s : State) (q : SeqState) : LeavesDemand s (s.goto q) := by
  unfold LeavesDemand
  rw [goto_dta]
  unfold State.leaveFor
  dsimp only
  split <;> rfl

theorem startBurn_dta (s : State) (idle : s.bsq.state = .idle) : s.startBurn.dta = s.dta := by
  have entered : (State.goto { s with bsq := s.bsq.beginBurn } .preCheck).dta = s.dta :=
    goto_dta_shut { s with bsq := s.bsq.beginBurn } (by change s.bsq.state.gasOpen = false; rw [idle]; rfl)
  unfold State.startBurn
  dsimp only
  split
  · refine (goto_dta_shut _ ?_).trans entered
    change (State.goto { s with bsq := s.bsq.beginBurn } .preCheck).bsq.state.gasOpen = false
    rw [goto_state]
    rfl
  · exact entered

theorem judgeRequest_leaves (s : State) : LeavesDemand s s.judgeRequest := by
  rcases judgeRequest_cases s with same | ⟨-, idle, burn⟩ | ⟨-, idle | post⟩
  · unfold LeavesDemand; rw [same]
  · unfold LeavesDemand; rw [burn, startBurn_dta s idle]
  · rw [idle]; exact goto_leaves _ _
  · rw [post]; exact goto_leaves _ _

theorem judgePreCheck_leaves (s : State) : LeavesDemand s s.judgePreCheck := by
  unfold State.judgePreCheck
  split
  · exact goto_leaves _ _
  · rfl

/-- A round as the re-evaluation, the mode's service, and the judgement of the request. -/
theorem served_dta (s : State) : s.served.dta = s.replan.dta :=
  ((applyCaps_touches _).dta (by decide)).trans ((serveMode_touches _).dta (by decide))

theorem round_leaves (s : State) : LeavesDemand s.replan s.round := by
  have judged : LeavesDemand s.served s.round := (judgeRequest_leaves _).trans (judgePreCheck_leaves _)
  unfold LeavesDemand at judged ⊢
  rw [judged, served_dta]

/-- What the second evaluation starts from: the first one's inputs but for the plan. -/
def State.detected (s : State) : State := s.guardTap.judgeKeepwarm.testMeetsDemand.formTargets

theorem replan_eq (s : State) : s.replan = s.detected.evaluate := rfl

theorem testMeetsDemand_demand (s : State) : SameDemand s s.testMeetsDemand ∧ s.testMeetsDemand.dta.dhwPause = s.dta.dhwPause
    ∧ s.testMeetsDemand.dta.plan = s.dta.plan ∧ s.testMeetsDemand.dta.overrun = s.dta.overrun := by
  unfold State.testMeetsDemand State.endTest Dta.home
  split
  · split
    · split <;> exact ⟨⟨rfl, rfl, rfl, rfl, rfl, rfl⟩, rfl, rfl, rfl⟩
    · exact ⟨⟨rfl, rfl, rfl, rfl, rfl, rfl⟩, rfl, rfl, rfl⟩
  · exact ⟨⟨rfl, rfl, rfl, rfl, rfl, rfl⟩, rfl, rfl, rfl⟩

theorem formTargets_demand (s : State) : SameDemand s s.formTargets := ⟨rfl, rfl, rfl, rfl, rfl, rfl⟩

theorem round_demand (s : State) : SameDemand s.detected s.round := by
  have plan := round_samePlan s
  have ends : EndsFrom s.detected s.round := by
    refine (evaluate_endsFrom _).trans ?_
    rw [← replan_eq]
    exact ((((serveMode_endsFrom _).trans (applyCaps_endsFrom _)).trans (judgeRequest_endsFrom _)).trans
      (judgePreCheck_endsFrom _)).trans (driveOutputs_endsFrom _)
  exact ⟨plan.table, (congrArg Dta.spacing (round_leaves s)).trans rfl, plan.settings, ends.ntc,
    congrArg Flt.active plan.flt, congrArg Flt.lockout plan.flt⟩

/-- R32: the second evaluation of an event finds what the first one found. -/
theorem detected_again (range : s.sto.settings.inRange = true) : SameDemand s.detected s.round.detected
    ∧ s.round.detected.dta.plan = s.round.dta.plan
    ∧ (s.round.dta.dhwPause = false → s.round.detected.dta.dhwPause = false) := by
  have rest : DetectorsRest s.detected :=
    ((testMeetsDemand_demand s.guardTap.judgeKeepwarm).1.trans (formTargets_demand _)).rests (detectors_rest range)
  have rest' := (round_demand s).rests rest
  have again : DetectorsRest s.round.guardTap := (guardTap_demand rest').rests rest'
  obtain ⟨met, pause, plan, -⟩ := testMeetsDemand_demand s.round.guardTap
  have detected : s.round.detected = s.round.guardTap.testMeetsDemand.formTargets := by
    unfold State.detected
    rw [again.judgeKeepwarm_eq]
  rw [detected]
  refine ⟨((round_demand s).trans (guardTap_demand rest')).trans (met.trans (formTargets_demand _)), plan.trans ?_, fun off => pause.trans ?_⟩
  · unfold State.guardTap
    dsimp only
    split
    · rfl
    · split <;> rfl
  · unfold State.guardTap
    dsimp only
    split
    · simp [Dta.setTap, off]
    · split
      · exact off
      · rfl

end Sys2Proof.Machine

/-! SUPPORT. The heat plan's request, pump and zones after the two rounds of an event's end, and the CH targets (R34, R36, R41,
R52 to R54). -/

namespace Sys2Proof.Machine

variable {c : Instr} {s t : State}

/-! ### The burner request in mode CH (R36, R38) -/

theorem atOffPoint_false {flow target : Option Int} {on off : Int} (onPos : 0 < on) (offPos : 0 < off)
    (reached : atOnPoint flow target on = true) : atOffPoint flow target off = false := by
  cases flow <;> cases target <;> simp_all [atOnPoint, atOffPoint]
  omega

/-- R36: at or above the off point no request stands. -/
theorem chRequest_off {set : Settings} {flow target : Option Int} {frost fromCh old : Bool} {timer : Option Nat}
    (onPos : 0 < set.onDifferential) (offPos : 0 < set.offDifferential)
    (high : atOffPoint flow target set.offDifferential = true) : (chRequest set flow target frost fromCh old timer).1 = false := by
  have low : atOnPoint flow target set.onDifferential = false :=
    Bool.eq_false_iff.2 fun reached => absurd (high.symm.trans (atOffPoint_false onPos offPos reached)) nofun
  unfold chRequest
  cases old
  · simp [low]
  · simp [high]

/-- R36, R38: at or below the on point a request stands that no anti-cycle timer holds back. -/
theorem chRequest_on {set : Settings} {flow target : Option Int} {frost fromCh old : Bool} {timer : Option Nat}
    (onPos : 0 < set.onDifferential) (offPos : 0 < set.offDifferential)
    (low : atOnPoint flow target set.onDifferential = true)
    (free : (chRequest set flow target frost fromCh old timer).2 = none) :
    (chRequest set flow target frost fromCh old timer).1 = true := by
  have below := atOffPoint_false onPos offPos low
  unfold chRequest at free ⊢
  cases old
  · simp only [Bool.false_eq_true, if_false] at free ⊢
    simp [low, free]
  · simp [below]

/-- R36: a request that has been made at these values stands. -/
theorem chRequest_stands {set : Settings} {flow target : Option Int} {frost fromCh old : Bool} {timer : Option Nat}
    (onPos : 0 < set.onDifferential) (offPos : 0 < set.offDifferential)
    (made : (chRequest set flow target frost fromCh old timer).1 = true) (frost' fromCh' : Bool) (timer' : Option Nat) :
    (chRequest set flow target frost' fromCh' true timer').1 = true := by
  have below : atOffPoint flow target set.offDifferential = false :=
    Bool.eq_false_iff.2 fun high => absurd (made.symm.trans (chRequest_off onPos offPos high)) nofun
  simp [chRequest, below]

/-! ### The laws of the request and of the pump, after an evaluation -/

theorem evaluate_request (range : s.sto.settings.inRange = true) : RequestLaw s.evaluate := by
  obtain ⟨onPos, offPos⟩ := onDifferential_pos range
  constructor
  · intro f x mode flow target high
    have mode : s.chooseMode = .ch := mode
    have flow : s.flow = some f := flow
    have target : s.targetFor s.chooseMode = some x := target
    change ((s.modeRequest s.chooseMode (s.targetFor s.chooseMode)).1 && s.scopeInForce.allows) = false
    rw [target, mode]
    have off := chRequest_off (frost := s.dta.asks .frost) (fromCh := s.dta.plan.mode = .ch) (old := s.dta.plan.request)
      (timer := s.dta.antiCycle) onPos offPos (flow := s.flow) (target := some x) (by simpa [atOffPoint, flow] using high)
    exact Bool.and_eq_false_iff.2 (.inl off)
  · intro f x mode allows flow target low free
    have mode : s.chooseMode = .ch := mode
    have allows : s.scopeInForce.allows = true := allows
    have flow : s.flow = some f := flow
    have target : s.targetFor s.chooseMode = some x := target
    have free : (s.modeRequest s.chooseMode (s.targetFor s.chooseMode)).2 = none := free
    change ((s.modeRequest s.chooseMode (s.targetFor s.chooseMode)).1 && s.scopeInForce.allows) = true
    rw [target, mode] at free
    rw [target, mode, allows, Bool.and_true]
    exact chRequest_on onPos offPos (by simpa [atOnPoint, flow] using low) free

theorem evaluate_pump (s : State) : PumpLaw s.evaluate := ⟨rfl, ⟨rfl, rfl⟩⟩

/-- What the request depends on, for the law. -/
theorem RequestLaw.congr (h : RequestLaw s) (plan : t.dta.plan = s.dta.plan) (timer : t.dta.antiCycle = s.dta.antiCycle)
    (flow : t.flow = s.flow) (settings : t.sto.settings = s.sto.settings) (scope : t.scopeInForce = s.scopeInForce) :
    RequestLaw t := by
  refine ⟨?_, ?_⟩
  · rw [plan, flow, settings]; exact h.off
  · rw [plan, flow, settings, timer, scope]; exact h.on

/-- What the pump's row and the zone set depend on, for the law. -/
theorem PumpLaw.congr (h : PumpLaw s) (dta : t.dta = s.dta) (gas : t.bsq.state.gasOpen = s.bsq.state.gasOpen) : PumpLaw t := by
  have row : t.pumpRowNow = s.pumpRowNow := by
    unfold State.pumpRowNow pumpRow
    rw [dta, gas]
  refine ⟨?_, ?_⟩
  · rw [row, dta]; exact h.pump
  · rw [row, dta]; exact h.zones

theorem PumpLaw.driven (h : PumpLaw s) : PumpLaw s.driveOutputs := h.congr rfl rfl

/-! ### The second round -/

theorem detected_range (range : s.sto.settings.inRange = true) : s.detected.sto.settings.inRange = true :=
  (congrArg Settings.inRange (testMeetsDemand_demand s.guardTap.judgeKeepwarm).1.settings).trans range

/-- R32, R36: a request that the first round has made stands at the second evaluation. -/
theorem request_stands (range : s.sto.settings.inRange = true) (made : s.round.dta.plan.request = true) :
    s.round.replan.dta.plan.request = true := by
  obtain ⟨same, plan, pause⟩ := detected_again range
  obtain ⟨onPos, offPos⟩ := onDifferential_pos (detected_range range)
  have first : s.round.dta.plan = s.detected.evaluate.dta.plan := (round_samePlan s).plan
  have targets : ∀ m, s.round.detected.targetFor m = s.detected.targetFor m := fun m => by
    have formed : s.round.detected.fre.targets = s.detected.fre.targets := same.formedTargets
    cases m <;> simp [State.targetFor, same.chAsking, formed]
  have was : ((s.detected.modeRequest s.detected.chooseMode (s.detected.targetFor s.detected.chooseMode)).1
      && s.detected.scopeInForce.allows) = true := by rw [first] at made; exact made
  obtain ⟨wanted, allows⟩ := Bool.and_eq_true _ _ ▸ was
  change ((s.round.detected.modeRequest s.round.detected.chooseMode (s.round.detected.targetFor s.round.detected.chooseMode)).1
      && s.round.detected.scopeInForce.allows) = true
  rw [same.scope, same.mode, targets, allows, Bool.and_true]
  cases mode : s.detected.chooseMode <;> rw [mode] at wanted
  · exact Bool.noConfusion wanted
  · change (chRequest _ s.round.detected.flow _ _ _ s.round.detected.dta.plan.request _).1 = true
    rw [plan, made, same.flow, same.settings]
    exact chRequest_stands onPos offPos wanted _ _ _
  · have off : s.round.dta.dhwPause = false := by
      refine (congrArg Dta.dhwPause (round_leaves s)).trans ?_
      exact Bool.not_eq_true' _ ▸ wanted
    exact Bool.not_eq_true' _ ▸ pause off
  · rfl

/-- R70, R88: with the request as the first round left it, the second judgement closes no gas and starts no overrun. -/
theorem judged_again (withdrawn : s.dta.plan.request = false → s.bsq.state.needsNoRequest) :
    s.judgeRequest.judgePreCheck.dta = s.dta
      ∧ s.judgeRequest.judgePreCheck.bsq.state.gasOpen = s.bsq.state.gasOpen := by
  have request : s.judgeRequest.dta = s.dta ∧ s.judgeRequest.bsq.state.gasOpen = s.bsq.state.gasOpen := by
    rcases judgeRequest_cases s with same | ⟨-, idle, burn⟩ | ⟨off, left⟩
    · rw [same]; exact ⟨rfl, rfl⟩
    · rw [burn]
      refine ⟨startBurn_dta s idle, ?_⟩
      rcases startBurn_state s with state | state
      · rw [state, idle]; rfl
      · rw [state, idle]
    · have shut := SeqState.gasOpen_of_needsNoRequest (withdrawn off)
      refine ⟨?_, (SeqState.gasOpen_of_needsNoRequest (judgeRequest_withdraws off)).trans shut.symm⟩
      rcases left with idle | post
      · rw [idle]; exact goto_dta_shut s shut
      · rw [post]; exact goto_dta_shut s shut
  obtain ⟨dta, gas⟩ := request
  rw [← dta, ← gas]
  unfold State.judgePreCheck
  split
  · next done =>
    have shut : s.judgeRequest.bsq.state.gasOpen = false := by rw [done.1]; rfl
    exact ⟨goto_dta_shut _ shut, by rw [goto_state, shut]; rfl⟩
  · exact ⟨rfl, rfl⟩

theorem second_withdrawn (range : s.sto.settings.inRange = true) (off : s.round.served.dta.plan.request = false) :
    s.round.served.bsq.state.needsNoRequest := by
  rw [served_state]
  refine (round_burns s).request (Bool.eq_false_iff.2 fun made => ?_)
  rw [served_dta] at off
  exact absurd (off.symm.trans (request_stands range made)) nofun

/-- R41: the second round leaves the plan that its evaluation makes, with the inputs of the pump table. -/
theorem secondRound_pump (range : s.sto.settings.inRange = true) : PumpLaw s.round.round := by
  obtain ⟨dta, gas⟩ := judged_again (second_withdrawn range)
  have evaluated : PumpLaw s.round.replan := evaluate_pump _
  have served : PumpLaw s.round.served := by
    refine evaluated.congr (served_dta _) ?_
    unfold State.served
    rw [applyCaps_state, serveMode_state]
  rw [round_eq s.round]
  exact (served.congr dta gas).driven

theorem PumpLaw.ended (h : PumpLaw s) : PumpLaw s.drivePins.writeStore := by
  have touches := writeStore_touches s.drivePins
  exact h.congr (touches.dta (by decide)) (by rw [touches.bsq (by decide)]; rfl)

theorem round_request (range : s.sto.settings.inRange = true) : RequestLaw s.round := by
  have evaluated : RequestLaw s.replan := evaluate_request (detected_range range)
  have plan := round_samePlan s
  have demand := round_demand s
  exact evaluated.congr plan.plan ((congrArg Dta.antiCycle (round_leaves s)).trans rfl) demand.flow plan.settings demand.scope

theorem RequestLaw.ended (h : RequestLaw s) : RequestLaw s.drivePins.writeStore := by
  have touches := writeStore_touches s.drivePins
  have ends := writeStore_endsFrom s.drivePins
  have dta : s.drivePins.writeStore.dta = s.dta := touches.dta (by decide)
  have mfe : s.drivePins.writeStore.mfe = s.mfe := touches.mfe (by decide)
  have flt : s.drivePins.writeStore.flt = s.drivePins.flt := touches.flt (by decide)
  refine h.congr (by rw [dta]) (by rw [dta]) (by unfold State.flow; rw [mfe]) (by rw [ends.sto]; rfl) ?_
  unfold State.scopeInForce State.locked State.isActive
  rw [flt]
  rfl

/-- The request and the pump of the plan at the end of an event. -/
theorem settle_request (range : s.sto.settings.inRange = true) : RequestLaw s.settle ∧ PumpLaw s.settle := by
  have kept : s.round.sto.settings.inRange = true := by rw [(round_endsFrom s).sto]; exact range
  exact ⟨(round_request kept).ended, (secondRound_pump range).ended⟩

/-! ### The plan's laws over a step -/

theorem planLaw_carried : Carried PlanLaw where
  queue _ _ h := h.congr ⟨rfl, rfl, rfl, rfl, rfl, rfl, rfl⟩
  event _ _ u _ _ := settle_plan u
  pass _ h := ⟨h.mode, h.sources, h.scope, h.request, h.loop, h.target, h.dhwSetpoint, h.diverter⟩
  restart _ _ _ _ _ _ _ _ _ := ⟨rfl, rfl, rfl, nofun, ⟨rfl, rfl⟩, rfl, rfl, ⟨nofun, fun h => h.elim nofun nofun⟩⟩
  cutOff _ h := h.congr ⟨rfl, rfl, rfl, rfl, rfl, rfl, rfl⟩

theorem pass_antiCycle (s : State) (free : s.pass.dta.antiCycle = none) : s.dta.antiCycle = none :=
  (countdown_eq_none _).1 free

/-- R41, R42: 1 ms of time ends no overrun. -/
theorem pass_pump (h : PumpLaw s) : PumpLaw s.pass := by
  have runs : s.pass.dta.overrun.isSome = s.dta.overrun.isSome := Option.isSome_map ..
  have kind : chOverrunRuns s.pass.dta.overrun = chOverrunRuns s.dta.overrun := by
    change chOverrunRuns (s.dta.overrun.map _) = _
    rcases s.dta.overrun with _ | ⟨_ | _, _⟩
    · rfl
    · rfl
    · rfl
  have row : s.pass.pumpRowNow = s.pumpRowNow := by
    unfold State.pumpRowNow
    rw [runs]
    rfl
  refine ⟨?_, ?_⟩
  · rw [row]; exact h.pump
  · rw [row, kind]; exact h.zones

theorem default_inRange : Settings.default.inRange = true := by decide

theorem requestLaw_carried : Carried fun s => s.sto.settings.inRange = true ∧ RequestLaw s ∧ PumpLaw s where
  queue _ _ h := ⟨h.1, ⟨h.2.1.off, h.2.1.on⟩, ⟨h.2.2.pump, h.2.2.zones⟩⟩
  event _ _ u keeps h :=
    have range := keeps.settings h.1
    ⟨(keeps_settle (c := .pinReset) u).settings range, settle_request range⟩
  pass s h := ⟨h.1, ⟨h.2.1.off, fun f x mode allows flow target low free =>
    h.2.1.on f x mode allows flow target low (pass_antiCycle s free)⟩, pass_pump h.2.2⟩
  restart _ _ _ _ _ _ _ _ _ := ⟨default_inRange, ⟨nofun, nofun⟩, ⟨rfl, ⟨rfl, rfl⟩⟩⟩
  cutOff _ h := ⟨h.1, ⟨h.2.1.off, h.2.1.on⟩, ⟨h.2.2.pump, h.2.2.zones⟩⟩

/-! ### The CH targets (R52 to R54) -/

/-- R54: the targets in force are those of the table, the settings and the outdoor channel. -/
def TargetsFormed (s : State) : Prop := s.fre.targets = s.formedTargets

theorem replan_targets (s : State) : TargetsFormed s.replan := rfl

theorem round_targets (s : State) : TargetsFormed s.round := by
  have plan := round_samePlan s
  exact plan.targets.trans (round_demand s).formedTargets.symm

theorem settle_targets (s : State) : TargetsFormed s.settle := by
  unfold State.settle
  generalize formed : s.round.round = x
  have targets : TargetsFormed x := formed ▸ round_targets s.round
  have touches := writeStore_touches x.drivePins
  have ends := writeStore_endsFrom x.drivePins
  have dta : x.drivePins.writeStore.dta = x.dta := touches.dta (by decide)
  have mfe : x.drivePins.writeStore.mfe = x.mfe := touches.mfe (by decide)
  have fre : x.drivePins.writeStore.fre = x.fre := touches.fre (by decide)
  unfold TargetsFormed State.formedTargets State.curveOutdoor State.outdoor at targets ⊢
  rw [fre, dta, mfe, ends.sto]
  exact targets

theorem formedTargets_get {src : Source} {e : Entry} (ch : src ∈ chSources) (entry : s.dta.table.get src = some e) :
    s.formedTargets.get src = some (chTarget e s.sto.settings s.curveOutdoor) := by
  have mapped : s.formedTargets.get src
      = (s.dta.table.get src).map fun e => chTarget e s.sto.settings s.curveOutdoor := by
    simp only [chSources, List.mem_cons, List.not_mem_nil, or_false] at ch
    rcases ch with rfl | rfl | rfl | rfl | rfl | rfl <;> rfl
  rw [mapped, entry]
  rfl

theorem restarted_table {nv : Nv} {trim : Trim} {reload flag note : Bool} {brst : Option Nat} {src : Source} (ch : src ∈ chSources) :
    (s.restarted nv trim reload flag note brst).dta.table.get src = none := by
  simp only [chSources, List.mem_cons, List.not_mem_nil, or_false] at ch
  rcases ch with rfl | rfl | rfl | rfl | rfl | rfl <;> rfl

/-- After a command of a powered part other than a supply failure and a soft reset, the targets are formed, or a reset has left
no CH-class entry. -/
theorem exec_targets (on : s.powered = true) (supply : c ≠ .supplyFailure) (soft : c ≠ .softResetEffect)
    (run : exec c s = .next t) : TargetsFormed t ∨ ∀ src ∈ chSources, t.dta.table.get src = none := by
  cases reset : isReset c
  · obtain ⟨f, effect⟩ := exec_event c reset
    rw [effect, s.event_powered on] at run
    have settled : (f s).settle = t := Host.Outcome.next.inj run
    exact .inl (settled ▸ settle_targets (f s))
  · rcases isReset_cases reset with rfl | rfl | rfl | rfl
    · cases run
      exact .inr fun _ => restarted_table (s := s)
    · rw [show exec .pinReset s = .next (s.live fun s => State.afterReset s.sto.cutShort Trim.fallback true s.pending) from rfl,
        State.live, if_pos on] at run
      cases run
      exact .inr fun _ => restarted_table (s := s)
    · exact absurd rfl soft
    · exact absurd rfl supply

theorem chTargetsFormed {c : Instr} {s t : State} {src : Source} {e : Entry} (on : s.powered = true)
    (supply : c ≠ .supplyFailure) (soft : c ≠ .softResetEffect) (run : exec c s = .next t) (ch : src ∈ chSources)
    (entry : t.dta.table.get src = some e) :
    t.fre.targets.get src = some (chTarget e t.sto.settings t.curveOutdoor) := by
  rcases exec_targets on supply soft run with formed | absent
  · rw [formed]
    exact formedTargets_get ch entry
  · exact absurd (entry.symm.trans (absent src ch)) nofun

/-- Settles O8: the plan's laws over a step, and the targets that every command's end forms. -/
theorem heatPlanFollowsTheTable : Obligations.HeatPlanFollowsTheTable := by
  refine ⟨planLaw_carried.keptByStep, requestLaw_carried.keptByStep, ?_⟩
  intro c s t src e on supply soft run ch entry
  have formed := chTargetsFormed on supply soft run ch entry
  dsimp only
  rw [formed]
  unfold chTarget targetBase
  have outdoor : (if t.sto.settings.outdoorFitted && !(ntcGet t.mfe.ntc .outdoor).faulty
      then (ntcGet t.mfe.ntc .outdoor).value else none) = t.curveOutdoor := rfl
  rw [outdoor]
  cases e.flowRequest
  · cases t.curveOutdoor <;> cases e.roomPair <;> rfl
  · cases e.roomPair <;> rfl

end Sys2Proof.Machine

/-! SUPPORT. The resets and the supply (R66, R173, R174, R178), with what an event's effect and its end are. -/

namespace Sys2Proof.Machine

variable {c : Instr} {s t : State}

/-! ### An event and its end -/

theorem settle_follows (u : State) : Follows u u.settle := ⟨rfl, settle_endsFrom u⟩

theorem Follows.event (on : s.powered = true) (f : State → State) : Follows (f s) (s.event f) := by
  rw [s.event_powered on]
  exact settle_follows _

/-! ### POWER_ON_RESET and PIN_RESET -/

theorem exec_pinReset (on : s.powered = true) :
    exec .pinReset s = .next (State.afterReset s.sto.cutShort Trim.fallback true s.pending) := by
  change Host.Outcome.next (s.live _) = _
  rw [State.live, if_pos on]

/-- POWER_ON_RESET, and PIN_RESET with the supply there, start the part anew on the blocks as a write may have left them. -/
theorem exec_reset (h : c = .powerOnReset ∨ (c = .pinReset ∧ s.powered = true)) :
    exec c s = .next (State.afterReset s.sto.cutShort Trim.fallback true s.pending) := by
  rcases h with rfl | ⟨rfl, on⟩
  · rfl
  · exact exec_pinReset on

theorem cutShort_idle {x : Sto} (idle : x.inFlight = none) : x.cutShort = x.nv := by
  unfold Sto.cutShort
  rw [idle]

theorem atReset_ntc (ch : NtcChannel) : (ntcGet Mfe.atReset.ntc ch).window = [] ∧ (ntcGet Mfe.atReset.ntc ch).value = none
    ∧ (ntcGet Mfe.atReset.ntc ch).age = 0 ∧ (ntcGet Mfe.atReset.ntc ch).badRun = 0
    ∧ (ch ≠ .outdoor → (ntcGet Mfe.atReset.ntc ch).status = .ok) := by
  cases ch
  case outdoor => exact ⟨rfl, rfl, rfl, rfl, fun h => absurd rfl h⟩
  all_goals exact ⟨rfl, rfl, rfl, rfl, fun _ => rfl⟩

theorem atReset_entries {src : Source} (other : src ≠ .tap) : Dta.atReset.table.get src = none := by
  cases src
  case tap => exact absurd rfl other
  case room n => cases n <;> rfl
  all_goals rfl

theorem atReset_channels {ch : Channel} (other : ch ≠ .pump) :
    (Ocu.atReset.get ch).state = .idle ∧ (Ocu.atReset.get ch).duty = 0 := by
  cases ch
  case pump => exact absurd rfl other
  all_goals exact ⟨rfl, rfl⟩

theorem atReset_slots (n : RoomSlot) : (Rlc.atReset.slots.get n).lastReport = none ∧ (Rlc.atReset.slots.get n).misses = 0 := by
  cases n <;> exact ⟨rfl, rfl⟩

/-- Settles O17, block by block from the reset values. -/
theorem resetLeavesTheSpecValues : Obligations.ResetLeavesTheSpecValues := by
  intro s c reset
  refine ⟨_, exec_reset reset, rfl, rfl, fun idle => cutShort_idle idle, ⟨rfl, rfl, rfl, rfl, rfl, rfl, rfl, rfl⟩, atReset_ntc,
    ⟨rfl, rfl, rfl, rfl, rfl, rfl, rfl, rfl, rfl⟩, fun _ => atReset_entries, ?arbiter, ⟨rfl, rfl, rfl, rfl, rfl⟩,
    fun _ => atReset_channels, ⟨rfl, rfl⟩, ⟨rfl, rfl, rfl, rfl⟩, ⟨rfl, rfl, rfl, rfl, rfl, atReset_slots⟩, ?ports,
    ⟨rfl, rfl, rfl, rfl⟩⟩
  case arbiter => exact ⟨rfl, rfl, rfl, rfl, rfl, rfl, rfl, rfl, rfl, rfl, rfl⟩
  case ports => exact ⟨rfl, rfl, rfl, rfl, rfl, rfl, rfl, rfl, rfl, rfl⟩

/-! ### SOFT_RESET_EFFECT -/

/-- Settles O18: a soft reset that is ready is a pin reset but for the three things that it keeps. -/
theorem softResetKeepsThreeThings : Obligations.SoftResetKeepsThreeThings := by
  intro s r on soft delivered idle flushed
  have ready : s.softResetReady = true := by
    unfold State.softResetReady
    rw [soft]
    simpa [delivered, idle] using flushed
  refine ⟨s.softReset, _, exec_softResetEffect s on ready, exec_pinReset on, rfl, ?_, rfl, ?_⟩
  · rw [cutShort_idle idle]; rfl
  · rw [cutShort_idle idle]; rfl

/-! ### SUPPLY_FAILURE -/

theorem exec_supplyFailure (on : s.powered = true) : exec .supplyFailure s = .next s.cutOff := by
  change Host.Outcome.next (s.live _) = _
  rw [State.live, if_pos on]
  rfl

/-- R174: a slot whose write was cut short is handed over as empty, and the other slots stand. -/
theorem slot_cut (l : List (Stored (Option HistoryRecord))) (n : Nat) (r : Option HistoryRecord) :
    (∀ x, (l.set n (Stored.damaged historySlotWords r))[n]? = some x → handedSlot x = none)
      ∧ ∀ m, m ≠ n → (l.set n (Stored.damaged historySlotWords r))[m]? = l[m]? := by
  refine ⟨fun x here => ?_, fun m other => List.getElem?_set_ne other.symm⟩
  rw [List.getElem?_set_self'] at here
  obtain ⟨-, -, rfl⟩ := Option.map_eq_some_iff.1 here
  simp [handedSlot, damaged_bad]

/-- Settles O19, from the write of each item cut short. -/
theorem supplyFailureLeavesTheBlockBad : Obligations.SupplyFailureLeavesTheBlockBad := by
  intro s on
  refine ⟨s.cutOff, exec_supplyFailure on, rfl, rfl, rfl, fun idle => cutShort_idle idle, fun w flight => ?_⟩
  have cut : s.cutOff.sto.nv = s.sto.nv.write false w.image := by
    change s.sto.cutShort = _
    unfold Sto.cutShort
    rw [flight]
  rw [cut]
  cases w.image
  case slot n r =>
    obtain ⟨here, others⟩ := slot_cut s.sto.nv.history n r
    exact ⟨here, others, rfl⟩
  all_goals exact ⟨damaged_bad _ _, rfl⟩

end Sys2Proof.Machine

/-! SUPPORT. An event that comes without its cause has no effect of its own (log entry 3): one line for each command. -/

namespace Sys2Proof.Machine

variable {c : Instr} {s t : State}

theorem endMove_rest {d : Dta} (rest : d.divState.moving = false) : d.endMove = d := by
  unfold Dta.endMove
  split <;> first | rfl | (rename_i state; rw [state] at rest; exact absurd rest nofun)

theorem endPullIn_rest {o : Ocu} {v : GasValve}
    (other : (o.get (valveChannel v)).state ≠ .active ∨ (o.get (valveChannel v)).phase ≠ some .pullIn) : o.endPullIn v = o :=
  if_neg fun both => other.elim (fun h => h both.1) fun h => h both.2

/-- R77, R78: a state that limits no out-of-band time knows no proving timeout. -/
theorem provingTimeout_other (other : s.bsq.state.limitsOutTime = false) : s.provingTimeout = s := by
  unfold State.provingTimeout
  split <;> first | rfl | (rename_i state; rw [state] at other; exact absurd other nofun)

theorem endTest_rest (rest : s.ocu.test.timer = none) (cause : TestEnd) : s.endTest cause = s :=
  if_neg (by simp [Ocu.testing, rest])

/-- R163: the hold of a reply that no soft reset waits for changes nothing. -/
theorem endHold_rest {x : Option SoftReset} (rest : (x.all fun r =>
      r.port != .control || (match r.reply with | .ready _ => false | .replaced _ => false | _ => true)) = true) :
    x.map SoftReset.endHold = x := by
  cases x with
  | none => rfl
  | some r =>
    obtain ⟨port, reply, flush⟩ := r
    cases port <;> cases reply <;> first | rfl | exact absurd rest nofun

/-- Every command that lacks its cause is an event without effect. -/
theorem effect_idle (lacks : s.lacksCause c = true) : ∃ f : State → State, (∀ s, exec c s = .next (s.event f)) ∧ f s = s := by
  cases c <;> first
    | exact Bool.noConfusion lacks
    | refine ⟨_, fun _ => rfl, ?_⟩
  all_goals dsimp only [State.lacksCause] at lacks
  case channelOpenOrShort ch kind => exact if_pos (by simpa using lacks)
  case flowPairCountExpiry => exact if_neg (by simpa using lacks)
  case noCirculationCountExpiry => exact if_neg (by simpa [← Option.isSome_iff_ne_none] using lacks)
  case b09TimerExpiry => exact if_neg (by simpa using lacks)
  case flameProved => exact if_pos lacks
  case flameLost => exact if_neg (by simpa using lacks)
  case weakFlameBlockEnd => exact if_neg (by simp at lacks ⊢; exact Or.resolve_left lacks ∘ not_not_intro)
  case a08GoodGateCount => exact if_neg (by simpa using lacks)
  case tapStart => exact if_neg (by simp at lacks ⊢; grind)
  case tapStop => exact if_neg (by simpa using lacks)
  case antiCycleTimerExpiry => dsimp only; rw [← Option.isNone_iff_eq_none.1 lacks]
  case serviceEntryExpiry => exact if_neg (by simpa using lacks)
  case keepwarmSpacingTimerExpiry => dsimp only; rw [← Option.isNone_iff_eq_none.1 lacks]
  case keepwarmBurnTimeLimit => exact if_neg (by simpa using lacks)
  case pumpOverrunTimerExpiry => dsimp only; rw [← Option.isNone_iff_eq_none.1 lacks]
  case diverterMoveEnd => rw [endMove_rest (by simpa using lacks)]
  case chComputation => exact if_neg (by simpa using lacks)
  case preCheckTimerExpiry => exact if_neg (by simpa using lacks)
  case prePurgeTimeReached => exact if_neg (by simpa using lacks)
  case fanProvingTimeout => exact provingTimeout_other (by simpa using lacks)
  case ignitionSpeedRunReached => exact if_neg (by simp at lacks ⊢; grind)
  case safetyTimeExpiry => exact if_neg (by simpa using lacks)
  case stabilisationTimeExpiry => exact if_neg (by simpa using lacks)
  case interPurgeTimeReached => exact if_neg (by simpa using lacks)
  case outOfBandRunTimeout => exact if_neg (by simpa using lacks)
  case postPurgeTimeExpiry => exact if_neg (by simpa using lacks)
  case strayFlameTimeLimit => exact if_neg (by simp at lacks ⊢; grind)
  case b06TimerExpiry => exact if_neg (by simpa using lacks)
  case lockoutPurgeEnd => exact if_neg (by simpa using lacks)
  case lockoutPurgeRemainderEnd => exact if_neg (by simpa using lacks)
  case tripReport => rw [List.isEmpty_iff.1 lacks]
  case refusedOpen => rw [List.isEmpty_iff.1 lacks]
  case burnerMinute => exact if_neg (by rintro (state | state) <;> simp [state, SeqState.burns] at lacks)
  case tripLineActive line lowFor => exact if_neg (by simp [lineSettles] at lacks ⊢; grind)
  case tripLineInactive line highFor => exact if_neg (by simp [lineSettles] at lacks ⊢; grind)
  case channelPeriodStart ch => exact if_pos (by simpa using lacks)
  case pullInEnd valve => rw [endPullIn_rest (by simpa using lacks)]
  case coilCheckHold valve current => exact if_neg (by simp at lacks ⊢; grind)
  case coilCheckIdle valve current => exact if_neg (by simp at lacks ⊢; grind)
  case pumpDtStepTimerExpiry => exact if_neg (by simpa using lacks)
  case outputTestTimerExpiry => exact endTest_rest (by simpa using lacks) _
  case decayTimerExpiry => exact if_neg (by simpa using lacks)
  case pollStart => split at lacks <;> simp_all
  case pollSkip => split at lacks <;> simp_all
  case pollSendEnd => split at lacks <;> simp_all
  case answerWindowClose => split at lacks <;> simp_all
  case preambleRecognised =>
    dsimp only
    split
    · rfl
    · next quiet =>
      split at lacks
      · next sending => rw [sending]
      · simp_all
  case receiveByte b => rw [Option.isNone_iff_eq_none.1 lacks]
  case codeViolation => rw [Option.isNone_iff_eq_none.1 lacks]
  case onTimeRunComplete => exact if_neg (by simpa using lacks)
  case slotSilent n => exact if_neg (by simpa using lacks)
  case slotLost n => exact if_neg (by simpa using lacks)
  case loopShort current lasted => exact if_neg (by simp at lacks ⊢; grind)
  case loopOffTimerExpiry => exact if_neg (by simpa using lacks)
  case cleanTimerExpiry => exact if_neg (by simpa using lacks)
  case collectFrame clocked => exact if_pos (by simpa using lacks)
  case controlBadFrame bytes => exact if_neg (by simpa using lacks)
  case serviceFrameGap => simp [State.serviceGap, beq_iff_eq.1 lacks]
  case serviceReplySent => split at lacks <;> simp_all
  case controlReplyHoldExpiry => dsimp only [State.onSoftReset]; rw [endHold_rest lacks]
  case frameProcessingEnd p => exact if_neg (by simpa using lacks)
  case heartbeatTimerExpiry => exact if_neg (by simpa using lacks)
  case brstPulseEnd => dsimp only; rw [← Option.isNone_iff_eq_none.1 lacks]
  case storeWriteEnd b => rw [Option.isNone_iff_eq_none.1 lacks]
  case startupReadsComplete => exact if_neg (by simpa using lacks)

/-- Settles O16: with an effect that leaves the part, only the end of the event follows. -/
theorem eventsWithoutTheirCauseDoNothing : Obligations.EventsWithoutTheirCauseDoNothing := by
  intro s c on lacks
  obtain ⟨f, effect, idle⟩ := effect_idle lacks
  have follows := Follows.event on f
  rw [idle] at follows
  exact ⟨s.event f, effect s, follows⟩

end Sys2Proof.Machine

/-! SUPPORT. The timers of the measurement front end and of the arbiter, and the tap detector's edges (R11, R21, R26, R28 to R31,
R36 to R46, R81, R146, R155). -/

namespace Sys2Proof.Machine

variable {c : Instr} {s t : State}

/-- An event of a powered part, from what its effect makes of the part. -/
theorem exec_effect {f : State → State} {u : State} (on : s.powered = true) (run : exec c s = .next (s.event f))
    (effect : f s = u) : ∃ t, exec c s = .next t ∧ Follows u t :=
  ⟨s.event f, run, effect ▸ Follows.event on f⟩

/-- R94: a locking key of another block, outside START-CHECK and LOCKOUT and with no lockout held. -/
theorem raiseForeign_locksOut (k : FaultKey) (free : s.locked = false) (notStart : s.bsq.state ≠ .startCheck)
    (notLockout : s.bsq.state ≠ .lockout) : LocksOut k s (s.raiseForeign k) := by
  have begun := beginLockout_begins s k
  have raised : s.raiseLocking k = s.beginLockout k := if_neg (by simp [free])
  have bsq := begun.touches.bsq (by decide)
  have acts : (!s.locked && (s.raiseLocking k).bsq.state != .startCheck) = true := by
    rw [raised, bsq]
    simp [free, notStart]
  have entered : s.raiseForeign k = (s.beginLockout k).goto .lockout := by
    unfold State.raiseForeign
    dsimp only
    rw [if_pos acts, raised, State.gotoLockout, if_neg (by rwa [bsq])]
  exact entered ▸ begun.goto

/-! ### The detectors through the end of an event -/

/-- R42 to R46: of the arbiter's record at most what an evaluation, the end of an output test and the sequencer write. -/
structure LeavesDetectors (s t : State) : Prop where
  ends : EndsFrom s t
  dta : t.dta = { s.dta with
    plan := t.dta.plan, antiCycle := t.dta.antiCycle, divState := t.dta.divState, divLeft := t.dta.divLeft
    homing := t.dta.homing, overrun := t.dta.overrun }

theorem LeavesDetectors.of_demand (ends : EndsFrom s t) (h : LeavesDemand s t) : LeavesDetectors s t := by
  unfold LeavesDemand at h
  exact ⟨ends, by rw [h]⟩

theorem LeavesDetectors.of_dta (ends : EndsFrom s t) (dta : t.dta = s.dta) : LeavesDetectors s t := ⟨ends, by rw [dta]⟩

theorem endTest_leaves (s : State) (cause : TestEnd) : LeavesDetectors s (s.endTest cause) := by
  refine ⟨endTest_endsFrom s cause, ?_⟩
  unfold State.endTest Dta.home
  split
  · dsimp only
    split <;> rfl
  · rfl

/-- A relation that the two detectors keep, and whatever leaves what they write. -/
theorem StageKept.of_detectors {R : State → State → Prop} (refl : ∀ s, R s s) (trans : ∀ {s t u}, R s t → R t u → R s u)
    (guardTap : ∀ s, R s s.guardTap) (judgeKeepwarm : ∀ s, R s s.judgeKeepwarm)
    (leaves : ∀ {s t}, LeavesDetectors s t → R s t) : StageKept R where
  refl := refl
  trans := trans
  guardTap := guardTap
  judgeKeepwarm := judgeKeepwarm
  endTest s cause := leaves (endTest_leaves s cause)
  formTargets s := leaves (.of_dta (formTargets_endsFrom s) rfl)
  evaluate s := leaves ⟨evaluate_endsFrom s, rfl⟩
  serveMode s := leaves (.of_dta (serveMode_endsFrom s) ((serveMode_touches s).dta (by decide)))
  applyCaps s := leaves (.of_dta (applyCaps_endsFrom s) ((applyCaps_touches s).dta (by decide)))
  judgeRequest s := leaves (.of_demand (judgeRequest_endsFrom s) (judgeRequest_leaves s))
  judgePreCheck s := leaves (.of_demand (judgePreCheck_endsFrom s) (judgePreCheck_leaves s))
  driveOutputs s := leaves (.of_dta (driveOutputs_endsFrom s) rfl)
  drivePins s := leaves (.of_dta (drivePins_endsFrom s) rfl)
  remark s := leaves (.of_dta (remark_endsFrom s) ((remark_touches s).dta (by decide)))
  startWrite s := leaves (.of_dta (startWrite_endsFrom s) ((startWrite_touches s).dta (by decide)))

namespace StageKept
variable {R : State → State → Prop}

/-- What the end of an event leaves of the part as the detectors have been judged and a running test has met the demand. -/
theorem afterTest (k : StageKept R) (s : State) : R s.guardTap.judgeKeepwarm.testMeetsDemand s.settle :=
  k.trans (k.formTargets _) <| k.trans (k.evaluate _) <| k.trans (k.serveMode _) <| k.trans (k.applyCaps _) <|
    k.trans (k.judgeRequest _) <| k.trans (k.judgePreCheck _) <| k.trans (k.driveOutputs _) <| k.trans (k.round _) <|
    k.trans (k.drivePins _) <| k.trans (k.remark _) (k.startWrite _)

theorem afterKeepwarm (k : StageKept R) (s : State) : R s.guardTap.judgeKeepwarm s.settle := by
  refine k.trans ?_ (k.afterTest s)
  unfold State.testMeetsDemand
  split
  · exact k.endTest _ _
  · exact k.refl _

theorem afterGuard (k : StageKept R) (s : State) : R s.guardTap s.settle := k.trans (k.judgeKeepwarm _) (k.afterKeepwarm s)

end StageKept

/-- R28: what the tap detector holds: the entry and its two runs. -/
def Dta.draw (d : Dta) : Option Entry × Nat × Nat := (d.table.tap, d.startRun, d.stopRun)

/-- R28: what a disabled tap detector holds. -/
def noDraw : Option Entry × Nat × Nat := (some (Entry.plain false), 0, 0)

/-- R28: an enabled tap detector, and one at rest, hold what they held. -/
def KeepsDraw (s t : State) : Prop :=
  t.tapEnabled = s.tapEnabled ∧ (s.tapEnabled = true ∨ s.dta.draw = noDraw → t.dta.draw = s.dta.draw)

theorem EndsFrom.tapEnabled (h : EndsFrom s t) : t.tapEnabled = s.tapEnabled := by
  have active : t.isActive .b11 = s.isActive .b11 := isActive_of_active (by rw [h.flt]) .b11
  unfold State.tapEnabled
  rw [active, h.sto]

theorem guardTap_cases (s : State) :
    s.guardTap.dta = (if !s.tapEnabled then s.dta.setTap false else if s.dta.asks .tap then s.dta
      else { s.dta with dhwPause := false }) := rfl

theorem guardTap_disabled (off : s.tapEnabled = false) : s.guardTap.dta.draw = noDraw := by
  rw [guardTap_cases, off]
  rfl

theorem keepsDraw_stageKept : StageKept KeepsDraw :=
  .of_detectors (fun _ => ⟨rfl, fun _ => rfl⟩)
    (fun h k => ⟨k.1.trans h.1, fun e => (k.2 (e.imp h.1.trans (h.2 e).trans)).trans (h.2 e)⟩)
    (fun s => ⟨(guardTap_endsFrom s).tapEnabled, fun e => by
      rw [guardTap_cases]
      rcases e with on | rest
      · rw [if_neg (by simp [on])]
        split <;> rfl
      · split
        · exact rest.symm
        · split <;> rfl⟩)
    (fun s => ⟨(judgeKeepwarm_endsFrom s).tapEnabled, fun _ => by
      unfold State.judgeKeepwarm
      dsimp only
      split <;> split <;> rfl⟩)
    (fun h => ⟨h.ends.tapEnabled, fun _ => by unfold Dta.draw; rw [h.dta]⟩)

/-- R28: the end of an event leaves an enabled tap detector, and puts a disabled one to rest. -/
theorem settle_draw (s : State) : s.settle.dta.draw = if s.tapEnabled then s.dta.draw else noDraw := by
  split
  · next on => exact (keepsDraw_stageKept.settle s).2 (.inl on)
  · next off =>
    have rest := guardTap_disabled (s := s) (by simpa using off)
    exact ((keepsDraw_stageKept.afterGuard s).2 (.inr rest)).trans rest

/-- R39: a DHW pause is set at no stage of an event's end. -/
theorem clearPause_stageKept : StageKept fun s t => s.dta.dhwPause = false → t.dta.dhwPause = false :=
  .of_detectors (fun _ => id) (fun h k => k ∘ h)
    (fun s off => by
      rw [guardTap_cases]
      split
      · simp [Dta.setTap, off]
      · split
        · exact off
        · rfl)
    (fun s off => by
      unfold State.judgeKeepwarm
      dsimp only
      split <;> split <;> exact off)
    (fun h off => by rw [h.dta]; exact off)

/-- R31: while TAP asks and is heard, no KEEPWARM entry is created. -/
def KeepsNoKeepwarm (s t : State) : Prop :=
  s.tapEnabled = true → s.dta.asks .tap = true → s.dta.table.keepwarm = none →
    t.tapEnabled = true ∧ t.dta.asks .tap = true ∧ t.dta.table.keepwarm = none

theorem guardTap_asking (on : s.tapEnabled = true) (asks : s.dta.asks .tap = true) : s.guardTap = s := by
  unfold State.guardTap
  simp [on, asks]

theorem judgeKeepwarm_asking (asks : s.dta.asks .tap = true) :
    s.judgeKeepwarm.dta.asks .tap = true ∧ s.judgeKeepwarm.dta.table.keepwarm = none := by
  have ends : s.keepwarmEnds = true := by simp [State.keepwarmEnds, asks]
  have begins : s.keepwarmBegins = false := by simp [State.keepwarmBegins, asks]
  unfold State.judgeKeepwarm
  rw [if_pos ends, begins]
  dsimp only
  split
  · exact ⟨asks, rfl⟩
  · next absent => exact ⟨asks, by simpa using absent⟩

theorem keepsNoKeepwarm_stageKept : StageKept KeepsNoKeepwarm :=
  .of_detectors (fun _ on asks none => ⟨on, asks, none⟩)
    (fun h k on asks none => by
      obtain ⟨on, asks, none⟩ := h on asks none
      exact k on asks none)
    (fun s on asks none => by rw [guardTap_asking on asks]; exact ⟨on, asks, none⟩)
    (fun s on asks _ => ⟨(judgeKeepwarm_endsFrom s).tapEnabled.trans on, judgeKeepwarm_asking asks⟩)
    (fun h on asks none => by
      refine ⟨h.ends.tapEnabled.trans on, ?_, ?_⟩
      · unfold Dta.asks at asks ⊢; rw [h.dta]; exact asks
      · rw [h.dta]; exact none)

/-- R31: a draw leaves no KEEPWARM entry. -/
theorem settle_keepwarm_asking (on : s.tapEnabled = true) (asks : s.dta.asks .tap = true) : s.settle.dta.table.keepwarm = none := by
  obtain ⟨asks', none⟩ := judgeKeepwarm_asking asks
  have after := keepsNoKeepwarm_stageKept.afterKeepwarm s
  rw [guardTap_asking on asks] at after
  exact (after ((judgeKeepwarm_endsFrom s).tapEnabled.trans on) asks' none).2.2

/-! ### An output test through the end of an event (R189) -/

/-- R189: a test that does not run is left as it is. -/
def KeepsTest (s t : State) : Prop := s.ocu.test.timer = none → t.ocu.test = s.ocu.test

theorem setFanTarget_test (s : State) (r : Nat) : (s.setFanTarget r).ocu.test = s.ocu.test := rfl

theorem takeRate_test (s : State) (r : Int × LimitReason) : (s.takeRate r).ocu.test = s.ocu.test := by
  rw [takeRate_eq]
  dsimp only
  split
  · rfl
  · split <;> rfl

theorem applyCaps_test (s : State) : s.applyCaps.ocu.test = s.ocu.test := by
  unfold State.applyCaps
  dsimp only
  split
  · exact takeRate_test _ _
  · rfl

theorem serveMode_test (s : State) : s.serveMode.ocu.test = s.ocu.test := by
  unfold State.serveMode
  split
  · cases s.dta.plan.mode <;> dsimp only
    · exact applyCaps_test _
    · exact takeRate_test _ _
  · rfl

theorem startBurn_test (s : State) : s.startBurn.ocu.test = s.ocu.test := by
  have entered : (State.goto { s with bsq := s.bsq.beginBurn } .preCheck).ocu.test = s.ocu.test := goto_test _ rfl
  unfold State.startBurn
  dsimp only
  split
  · exact (goto_test _ rfl).trans entered
  · exact entered

theorem judgeRequest_test (s : State) : s.judgeRequest.ocu.test = s.ocu.test := by
  rcases judgeRequest_cases s with same | ⟨-, -, burn⟩ | ⟨-, idle | post⟩
  · rw [same]
  · rw [burn, startBurn_test]
  · rw [idle, goto_test _ rfl]
  · rw [post, goto_test _ rfl]

theorem judgePreCheck_test (s : State) : s.judgePreCheck.ocu.test = s.ocu.test := by
  unfold State.judgePreCheck
  split
  · exact goto_test _ rfl
  · rfl

theorem commandPump_test (o : Ocu) (r : PumpRequest) : (o.commandPump r).test = o.test := by
  unfold Ocu.commandPump
  split
  · rfl
  · dsimp only
    split <;> rfl

theorem keepsTest_stageKept : StageKept KeepsTest where
  refl _ _ := rfl
  trans h k rest := by
    have same := h rest
    exact (k (by rw [same]; exact rest)).trans same
  guardTap _ _ := rfl
  judgeKeepwarm _ _ := rfl
  endTest s cause rest := by rw [endTest_rest rest]
  formTargets _ _ := rfl
  evaluate _ _ := rfl
  serveMode s _ := serveMode_test s
  applyCaps s _ := applyCaps_test s
  judgeRequest s _ := judgeRequest_test s
  judgePreCheck s _ := judgePreCheck_test s
  driveOutputs s _ := commandPump_test s.ocu s.dta.plan.pump
  drivePins _ _ := rfl
  remark s _ := by rw [(remark_touches s).ocu (by decide)]
  startWrite s _ := by rw [(startWrite_touches s).ocu (by decide)]

/-- R189: a requesting entry ends a running test by the end of its event. -/
theorem settle_test_asking (asks : s.guardTap.judgeKeepwarm.dta.anyAsking = true) : s.settle.ocu.test.timer = none := by
  have ended : s.guardTap.judgeKeepwarm.testMeetsDemand.ocu.test.timer = none := by
    unfold State.testMeetsDemand
    rw [if_pos asks]
    exact endTest_timer _ _
  rw [keepsTest_stageKept.afterTest s ended]
  exact ended

/-! ### The counts and timers of the faults -/

/-- Settles O26, from the keys that enter and leave at each count and timer. -/
theorem countsAndTimersRaiseAndClear : Obligations.CountsAndTimersRaiseAndClear := by
  refine ⟨fun s on watching => ?b09, fun s on runs => ?b09End, fun s on raised => ?a08, fun s on runs => ?b06,
    fun s on raised => ?a10, fun s on runs => ?a11, fun s on armed free notStart notLockout => ?f05⟩
  case b09 =>
    obtain ⟨t, run, follows⟩ := exec_effect (c := .noCirculationCountExpiry) on rfl (if_pos (by rw [watching]; rfl))
    exact ⟨_, t, run, follows, enterKey_enters _ _⟩
  case b09End =>
    obtain ⟨t, run, follows⟩ := exec_effect (c := .b09TimerExpiry) on rfl (if_pos runs)
    exact ⟨_, t, run, follows, leaveKey_leaves _ _⟩
  case a08 =>
    obtain ⟨t, run, follows⟩ := exec_effect (c := .a08GoodGateCount) on rfl (if_pos raised)
    exact ⟨_, t, run, follows, leaveKey_leaves _ _⟩
  case b06 =>
    obtain ⟨t, run, follows⟩ := exec_effect (c := .b06TimerExpiry) on rfl (if_pos runs)
    exact ⟨_, t, run, follows, leaveKey_leaves _ _⟩
  case a10 =>
    obtain ⟨t, run, follows⟩ := exec_effect (c := .onTimeRunComplete) on rfl (if_pos raised)
    exact ⟨_, t, run, follows, leaveKey_leaves _ _⟩
  case a11 =>
    obtain ⟨t, run, follows⟩ := exec_effect (c := .cleanTimerExpiry) on rfl (if_pos runs)
    exact ⟨_, t, run, follows, leaveKey_leaves _ _⟩
  case f05 =>
    obtain ⟨t, run, follows⟩ := exec_effect (c := .flowPairCountExpiry) on rfl (if_pos armed)
    exact ⟨_, t, run, follows, raiseForeign_locksOut .f05 free notStart notLockout⟩

/-! ### The tap detector's edges (R28) -/

theorem asks_of_mem {d : Dta} {src : Source} (asks : d.asks src = true) : d.anyAsking = true := by
  refine List.any_eq_true.2 ⟨src, ?_, asks⟩
  rcases src with _ | n | _ | _ | _ | _
  case room => cases n <;> decide
  all_goals decide

theorem setTap_endsFrom (s : State) (on : Bool) : EndsFrom s { s with dta := s.dta.setTap on } := by
  constructor <;> first | rfl | exact ⟨rfl, rfl, rfl, rfl, rfl, rfl, rfl, rfl⟩

theorem asks_of_draw {d e : Dta} (same : d.draw = e.draw) : d.asks .tap = e.asks .tap := by
  unfold Dta.asks
  rw [show d.table.get .tap = e.table.get .tap from congrArg Prod.fst same]

/-- R32, R33, R44: with TAP heard and SERVICE silent the plan is that of the draw. -/
theorem PlanLaw.of_draw (h : PlanLaw s) (service : s.dta.asks .service = false) (tap : s.dta.asks .tap = true)
    (heard : s.isActive .b11 = false) : s.dta.plan.mode = .dhw ∧ s.dta.plan.sources = [.tap] ∧ s.dta.plan.diverter = .dhw
      ∧ s.dta.plan.dhwSetpoint = s.sto.settings.dhwSetpoint := by
  have mode : s.chooseMode = .dhw := by simp [State.chooseMode, service, tap, heard]
  have sources : s.sourcesFor .dhw = [.tap] := by simp [State.sourcesFor, tap, heard]
  refine ⟨h.mode.trans mode, ?_, h.diverter.1 mode, ?_⟩
  · rw [h.sources, mode, sources]
  · rw [h.dhwSetpoint, sources, if_neg (by simp)]

/-- Settles O30, from the detectors as they are left and the plan that is made of them. -/
theorem tapDrawTakesTheBurner : Obligations.TapDrawTakesTheBurner := by
  refine ⟨fun s on dhw heard quiet => ?start, fun s on asks => ?stop⟩
  case start =>
    have enabled : s.tapEnabled = true := by simp [State.tapEnabled, dhw, heard]
    have effect : (if s.tapEnabled && !s.dta.asks .tap then { s with dta := s.dta.setTap true } else s)
        = { s with dta := s.dta.setTap true } := if_pos (by simp [enabled, quiet])
    obtain ⟨t, run, settled, ends⟩ := exec_effect (c := .tapStart) on rfl effect
    have draw : t.dta.draw = (some (Entry.plain true), 0, 0) := by
      rw [settled, settle_draw, if_pos (show State.tapEnabled { s with dta := s.dta.setTap true } = true from enabled)]
      rfl
    have asks : t.dta.asks .tap = true := by
      rw [asks_of_draw (e := s.dta.setTap true) (by rw [draw]; rfl)]
      rfl
    have all := (setTap_endsFrom s true).trans ends
    refine ⟨t, run, all, asks, ?_, ?_, congrArg (·.2.1) draw, congrArg (·.2.2) draw, fun service => ?_⟩
    · rw [settled]
      exact settle_keepwarm_asking enabled rfl
    · rw [settled]
      refine settle_test_asking (asks_of_mem (src := .tap) ?_)
      rw [guardTap_asking (s := { s with dta := s.dta.setTap true }) enabled rfl]
      exact (judgeKeepwarm_asking rfl).1
    · have plan : PlanLaw t := settled ▸ settle_plan _
      have silent : t.dta.asks .service = false := by
        rw [← service]
        unfold Dta.asks
        rw [all.table]
        rfl
      have b11 : t.isActive .b11 = false := (isActive_of_active (by rw [all.flt]) .b11).trans heard
      obtain ⟨mode, sources, diverter, setpoint⟩ := plan.of_draw silent asks b11
      exact ⟨mode, sources, diverter, setpoint.trans (by rw [all.sto])⟩
  case stop =>
    obtain ⟨t, run, settled, ends⟩ := exec_effect (c := .tapStop) on rfl (if_pos asks)
    have draw : t.dta.draw = noDraw := by
      rw [settled, settle_draw]
      split <;> rfl
    have quiet : t.dta.asks .tap = false := by
      rw [asks_of_draw (e := s.dta.setTap false) (by rw [draw]; rfl)]
      rfl
    have plan : PlanLaw t := settled ▸ settle_plan _
    have pause : t.dta.dhwPause = false := by
      rw [settled]
      exact clearPause_stageKept.settle _ (Bool.and_false _)
    refine ⟨t, run, (setTap_endsFrom s false).trans ends, quiet, pause, congrArg (·.2.1) draw, congrArg (·.2.2) draw, ?_⟩
    rw [plan.sources]
    cases t.chooseMode
    all_goals simp [State.sourcesFor, quiet, Dta.chAsking, chSources]

end Sys2Proof.Machine

/-! SUPPORT. The expiries of the arbiter's timers, and the burner request of a re-evaluation (R26, R30, R31, R36 to R46). -/

namespace Sys2Proof.Machine

variable {c : Instr} {s t : State}

/-! ### What an expiry leaves through the end of its event -/

/-- R30: while the spacing timer runs, no KEEPWARM entry is created. -/
def KeepsSpacing (s t : State) : Prop :=
  s.dta.table.keepwarm = none → s.dta.spacing.isSome = true → t.dta.table.keepwarm = none ∧ t.dta.spacing = s.dta.spacing

theorem keepsSpacing_stageKept : StageKept KeepsSpacing :=
  .of_detectors (fun _ none _ => ⟨none, rfl⟩)
    (fun h k none runs => by
      obtain ⟨none', same⟩ := h none runs
      obtain ⟨none'', same'⟩ := k none' (by rw [same]; exact runs)
      exact ⟨none'', same'.trans same⟩)
    (fun s none _ => by
      rw [guardTap_cases]
      split
      · exact ⟨none, rfl⟩
      · split <;> exact ⟨none, rfl⟩)
    (fun s none runs => by
      unfold State.judgeKeepwarm
      rw [keepwarmBegins_of_spacing runs, none]
      exact ⟨none, rfl⟩)
    (fun h none _ => by rw [h.dta]; exact ⟨none, rfl⟩)

theorem endMove_toDhw {d : Dta} (h : d.divState = .movingToDhw) :
    d.endMove = { d with divState := .atDhw, divLeft := 0, homing := false } := by
  unfold Dta.endMove
  rw [h]

theorem endMove_toCh {d : Dta} (h : d.divState = .movingToCh) :
    d.endMove = { d with divState := .atCh, divLeft := 0, homing := false } := by
  unfold Dta.endMove
  rw [h]

theorem endKeepwarm_endsFrom (s : State) : EndsFrom s { s with dta := s.dta.endKeepwarm } := by
  constructor <;> first | rfl | exact ⟨rfl, rfl, rfl, rfl, rfl, rfl, rfl, rfl⟩

/-! ### The request of a re-evaluation -/

theorem evaluate_ch {target : Int} (mode : s.chooseMode = .ch) (allows : s.scopeInForce.allows = true)
    (target' : s.targetFor .ch = some target) :
    let r := chRequest s.sto.settings s.flow (some target) (s.dta.asks .frost) (s.dta.plan.mode = .ch) s.dta.plan.request
      s.dta.antiCycle
    s.evaluate.dta.plan.mode = .ch ∧ s.evaluate.dta.plan.target = some target ∧ s.evaluate.dta.plan.request = r.1
      ∧ s.evaluate.dta.antiCycle = r.2 := by
  have req : s.modeRequest s.chooseMode (s.targetFor s.chooseMode) = chRequest s.sto.settings s.flow (some target)
      (s.dta.asks .frost) (s.dta.plan.mode = .ch) s.dta.plan.request s.dta.antiCycle := by rw [mode, target']; rfl
  refine ⟨mode, ?_, ?_, congrArg Prod.snd req⟩
  · exact (congrArg s.targetFor mode).trans target'
  · change ((s.modeRequest s.chooseMode (s.targetFor s.chooseMode)).1 && s.scopeInForce.allows) = _
    rw [allows, Bool.and_true, req]

/-- R36 to R38: the request in mode CH with flow and target present, case by case. -/
theorem chRequest_cases (set : Settings) (flow target : Int) (frost fromCh : Bool) (old : Option Nat) :
    let timer := if flow ≤ target - 150 then none else old
    (target + set.offDifferential ≤ flow → chRequest set (some flow) (some target) frost fromCh true old
        = (false, if fromCh then antiCycleFor set.antiCycleMin timer else timer))
      ∧ (flow < target + set.offDifferential → chRequest set (some flow) (some target) frost fromCh true old = (true, timer))
      ∧ chRequest set (some flow) (some target) frost fromCh false old
        = (decide (flow ≤ target - set.onDifferential) && (timer.isNone || frost), timer) := by
  have timer : cancelAntiCycle old (some flow) (some target) = if flow ≤ target - 150 then none else old := by
    simp [cancelAntiCycle, atOnPoint]
  unfold chRequest
  rw [timer]
  refine ⟨fun high => ?_, fun low => ?_, ?_⟩
  · simp [atOffPoint, high]
  · simp [atOffPoint, Int.not_le.2 low]
  · simp [atOnPoint]

/-- Settles O31: the effect of each expiry, and the cases of a re-evaluation's request. -/
theorem arbiterTimersExpire : Obligations.ArbiterTimersExpire := by
  refine ⟨fun s on => exec_effect on rfl rfl, fun s on => exec_effect on rfl rfl, fun s on => exec_effect on rfl rfl,
    fun s on moving => exec_effect on rfl (by rw [endMove_toDhw moving]),
    fun s on moving => exec_effect on rfl (by rw [endMove_toCh moving]), fun s e on entry expires => ?service,
    fun s on present => ?keepwarm, fun s flow target mode allows flowIs targetIs => ?ch,
    fun s outlet mode sources outletIs => ?pause, fun s mode => ?dhw⟩
  case service =>
    obtain ⟨t, run, settled, ends⟩ := exec_effect (c := .serviceEntryExpiry) on rfl (if_pos (by rw [entry]; exact expires))
    have none : t.dta.table.service = none := by rw [ends.table]; rfl
    have plan : PlanLaw t := settled ▸ settle_plan _
    have silent : t.dta.asks .service = false := by simp [Dta.asks, SourceSet.get, none, requests]
    refine ⟨t, run, none, ?_, ends⟩
    rw [plan.sources]
    cases mode : t.chooseMode
    case service => simp [State.chooseMode, silent] at mode; grind
    all_goals simp [State.sourcesFor, Dta.chAsking, chSources]
    split <;> simp
  case keepwarm =>
    obtain ⟨t, run, settled, ends⟩ := exec_effect (c := .keepwarmBurnTimeLimit) on rfl (if_pos present)
    obtain ⟨none, spacing⟩ := keepsSpacing_stageKept.settle { s with dta := s.dta.endKeepwarm } rfl rfl
    exact ⟨t, run, settled ▸ none, settled ▸ spacing, (endKeepwarm_endsFrom s).trans ends⟩
  case ch =>
    obtain ⟨planMode, planTarget, request, timer⟩ := evaluate_ch mode allows targetIs
    rw [flowIs] at request timer
    dsimp only
    rw [planMode, planTarget, request, timer]
    obtain ⟨high, low, off⟩ := chRequest_cases s.sto.settings flow target (s.dta.asks .frost) (s.dta.plan.mode = .ch)
      s.dta.antiCycle
    refine ⟨rfl, rfl, fun old above => ?_, fun old below => ?_, fun old reached free => ?_, fun old held => ?_⟩
    · rw [old, high above]
      refine ⟨rfl, ?_⟩
      by_cases fromCh : s.dta.plan.mode = .ch
      · simp only [fromCh, decide_true, if_true, true_and, antiCycleFor]
        by_cases minutes : 0 < s.sto.settings.antiCycleMin
        · rw [if_neg (by omega), if_pos minutes]
        · rw [if_pos (by omega), if_neg minutes]
      · simp [fromCh]
    · rw [old, low below]
      exact ⟨rfl, rfl⟩
    · rw [old, off]
      refine ⟨?_, rfl⟩
      rcases free with none | frost
      · simp [reached, none]
      · simp [reached, frost]
    · rw [old, off]
      refine ⟨?_, rfl⟩
      rcases held with above | ⟨runs, frost⟩
      · simp [Int.not_le.2 above]
      · rw [← Option.not_isSome, runs, frost]
        simp
  case pause =>
    refine ⟨judgePause_frame s, fun paused => ?_, fun free => ?_⟩
    all_goals
      unfold State.judgePause
      rw [if_pos ⟨mode, sources⟩, outletIs]
      dsimp only
    · rw [if_pos paused]
      split <;> simp_all
    · rw [if_neg (by simp [free])]
      split <;> simp_all
  case dhw =>
    have req : s.modeRequest s.chooseMode (s.targetFor s.chooseMode) = (!s.dta.dhwPause, s.dta.antiCycle) := by rw [mode]; rfl
    refine ⟨?_, congrArg Prod.snd req⟩
    change ((s.modeRequest s.chooseMode (s.targetFor s.chooseMode)).1 && s.scopeInForce.allows) = _
    rw [req]

end Sys2Proof.Machine

/-! SUPPORT. The conversion cycle (R1 to R4, R7, R9, R12, R29, R43): the windows of the channels, the sensor faults and the
temperature conditions that follow them, and the frost detector. -/

namespace Sys2Proof.Machine

variable {s t : State}

/-! ### Windows and sums -/

theorem pushWindow_drop {α : Type} (n : Nat) (w : List α) (x : α) :
    pushWindow (n + 1) w x = (w ++ [x]).drop (w.length - n) := by
  unfold pushWindow
  split
  · next full => rw [List.drop_append_of_le_length (by omega), Nat.add_sub_add_right]
  · next short => rw [Nat.sub_eq_zero_of_le (by omega), List.drop_zero]

theorem sumInt_eq (l : List Int) : sumInt l = l.sum := (List.sum_eq_foldl (xs := l)).symm

/-! ### One conversion (R1 to R3) -/

theorem convertAll_get {n : NtcSet NtcRecord} {x offsets : NtcSet Int} {fitted : Bool} (ch : NtcChannel)
    (converted : ch = .outdoor → fitted = true) :
    ntcGet (convertAll n x offsets fitted) ch = (ntcGet n ch).convert (ntcGet x ch) (ntcGet offsets ch) := by
  cases ch
  case outdoor => exact if_pos (converted rfl)
  all_goals rfl

theorem NtcRecord.convert_good (r : NtcRecord) {x : Int} (offset : Int) (low : -350 ≤ x) (high : x ≤ 1400) :
    r.convert x offset = r.good x offset := by
  have good : badReading x = none := by
    unfold badReading
    rw [if_neg (by omega), if_neg (by omega)]
  unfold NtcRecord.convert
  rw [good]

theorem NtcRecord.convert_bad (r : NtcRecord) {x : Int} (offset : Int) {kind : BadKind}
    (out : kind = .low ∧ x < -350 ∨ kind = .high ∧ 1400 < x) : r.convert x offset = r.bad kind := by
  have bad : badReading x = some kind := by
    unfold badReading
    rcases out with ⟨rfl, low⟩ | ⟨rfl, high⟩
    · rw [if_pos low]
    · rw [if_neg (by omega), if_pos high]
  unfold NtcRecord.convert
  rw [bad]

theorem NtcRecord.good_full {r : NtcRecord} {x : Int} (offset : Int) (full : (pushWindow 8 r.window x).length = 8) :
    (r.good x offset).status = .ok ∧ (r.good x offset).value = some (windowValue (pushWindow 8 r.window x) offset) := by
  simp [NtcRecord.good, full]

theorem NtcRecord.good_short {r : NtcRecord} {x : Int} (offset : Int) (short : (pushWindow 8 r.window x).length ≠ 8) :
    (r.good x offset).status = r.status ∧ (r.good x offset).value = r.value := by
  simp [NtcRecord.good, short]

theorem NtcRecord.good_frame (r : NtcRecord) (x offset : Int) : (r.good x offset).window = pushWindow 8 r.window x
    ∧ (r.good x offset).age = 0 ∧ (r.good x offset).badRun = 0 := by
  unfold NtcRecord.good
  dsimp only
  split <;> exact ⟨rfl, rfl, rfl⟩

theorem NtcRecord.bad_third {r : NtcRecord} {kind : BadKind} (third : r.nextRun kind = 3) : r.bad kind = r.fail kind :=
  if_pos third

theorem NtcRecord.bad_early {r : NtcRecord} {kind : BadKind} (early : r.nextRun kind ≠ 3) : r.bad kind =
    { r with badKind := kind, badRun := r.nextRun kind, window := if r.status = .ok then r.window else [] } :=
  if_neg early

theorem badStatus_eq (kind : BadKind) :
    badStatus kind = if kind = .low then NtcStatus.openCircuit else NtcStatus.shortCircuit := by cases kind <;> rfl

/-! ### The checks leave the channels -/

/-- The checks after the sensors' own (R9 to R12) change the presence of no key but their own. -/
theorem laterChecks_keepsKey (s : State) {k : FaultKey} (checked : k ∉ [.f05, .b05, .b09, FaultKey.f06]) :
    KeepsKey k s.judgeSensors s.judgeCycle := by
  simp only [List.mem_cons, List.not_mem_nil, or_false, not_or] at checked
  obtain ⟨pair, heat, circulation, flue⟩ := checked
  have overTemperature (s : State) : KeepsKey k s s.judgeOverTemperature := by
    unfold State.judgeOverTemperature
    split
    · exact .refl k s
    · exact ⟨by rw [(hysteresis_touches s _ _ _).mfe (by decide)], by rw [hysteresis_isActive, if_neg heat]⟩
  exact (((judgePair_keepsKey _ pair).inTurn.trans (overTemperature _).inTurn).trans
    (judgeCirculation_keepsKey _ circulation).inTurn).trans (judgeFlue_keepsKey _ flue).inTurn

theorem judgeCycle_ntc (s : State) : s.judgeCycle.mfe.ntc = s.mfe.ntc :=
  ((judgeSensors_keepsKey s (k := .f01) (by decide)).trans (laterChecks_keepsKey s (by decide))).ntc

/-- What a conversion cycle and the end of its event leave of the checks' work. -/
theorem afterCycle_keepsKey (s : State) (k : FaultKey) :
    KeepsKey k s.judgeCycle s.judgeCycle.reportTemperatures.judgeFrost.judgePause.settle :=
  (afterChecks_keepsKey _ k).trans ((settle_endsFrom _).keepsKey k)

theorem exec_cycle_ntc (s : State) (readings : NtcSet Int) (polOut : Nat) (on : s.powered = true) :
    ∃ t, exec (.ntcConversionCycle readings polOut) s = .next t
      ∧ t.mfe.ntc = convertAll s.mfe.ntc readings s.sto.trim.offsets s.sto.settings.outdoorFitted :=
  ⟨_, exec_ntcConversionCycle s readings polOut on,
    (afterCycle_keepsKey (s.converted readings polOut) .f01).ntc.trans (judgeCycle_ntc _)⟩

/-- Settles O22, channel by channel, from what one conversion makes of a channel's record. -/
theorem readingsFillOrFailTheChannel : Obligations.ReadingsFillOrFailTheChannel := by
  refine ⟨fun s readings polOut ch on fitted low high => ?good, fun s readings polOut ch kind on fitted out => ?bad⟩
  case good =>
    intro r w
    obtain ⟨t, run, ntc⟩ := exec_cycle_ntc s readings polOut on
    refine ⟨t, run, ?_⟩
    have window : pushWindow 8 r.window (ntcGet readings ch) = w := pushWindow_drop 7 _ _
    rw [ntc, convertAll_get ch fitted, NtcRecord.convert_good _ _ low high]
    obtain ⟨frame, age, run⟩ := r.good_frame (ntcGet readings ch) (ntcGet s.sto.trim.offsets ch)
    refine ⟨frame.trans window, age, run, fun full => ?_, fun short => NtcRecord.good_short _ (window ▸ short)⟩
    obtain ⟨status, value⟩ := NtcRecord.good_full (r := r) (ntcGet s.sto.trim.offsets ch) (window ▸ full)
    refine ⟨status, value.trans ?_⟩
    rw [window, windowValue, sumInt_eq]
  case bad =>
    intro r run
    obtain ⟨t, exec, ntc⟩ := exec_cycle_ntc s readings polOut on
    refine ⟨t, exec, ?_⟩
    rw [ntc, convertAll_get ch fitted, NtcRecord.convert_bad _ _ out]
    by_cases third : r.nextRun kind = 3
    · rw [NtcRecord.bad_third third]
      exact ⟨rfl, third.symm, rfl, fun _ => ⟨rfl, rfl, badStatus_eq kind⟩, fun other => absurd third other⟩
    · rw [NtcRecord.bad_early third]
      exact ⟨rfl, rfl, rfl, fun equal => absurd equal third, fun _ => ⟨rfl, rfl, rfl⟩⟩

/-! ### Sensor faults and temperature conditions (R7, R9, R12) -/

/-- R7: each sensor fault is in the active fault set exactly while its channel is faulty. -/
structure SensorsFollow (n : NtcSet NtcRecord) (t : State) : Prop where
  flow : t.isActive .b03 = (n.flowA.faulty || n.flowB.faulty)
  ret : t.isActive .b04 = n.ret.faulty
  dhwOut : t.isActive .b11 = n.dhwOut.faulty
  dhwIn : t.isActive .a06 = n.dhwIn.faulty
  flue : t.isActive .b10 = n.flue.faulty
  outdoor : t.isActive .a01 = n.outdoor.faulty

theorem judgeSensors_follow (s : State) : SensorsFollow s.mfe.ntc s.judgeSensors := by
  constructor <;> simp [State.judgeSensors, follow_isActive]

theorem SensorsFollow.kept {n : NtcSet NtcRecord} (h : SensorsFollow n s)
    (kept : ∀ k ∈ [.b03, .b04, .b11, .a06, .b10, FaultKey.a01], t.isActive k = s.isActive k) : SensorsFollow n t where
  flow := (kept _ (by decide)).trans h.flow
  ret := (kept _ (by decide)).trans h.ret
  dhwOut := (kept _ (by decide)).trans h.dhwOut
  dhwIn := (kept _ (by decide)).trans h.dhwIn
  flue := (kept _ (by decide)).trans h.flue
  outdoor := (kept _ (by decide)).trans h.outdoor

/-- R7: the checks after the sensors' own judge none of their faults. -/
theorem judgeCycle_sensors (s : State) : SensorsFollow s.mfe.ntc s.judgeCycle := by
  have apart : ∀ k ∈ [.b03, .b04, .b11, .a06, .b10, FaultKey.a01], k ∉ [.f05, .b05, .b09, FaultKey.f06] := by decide
  exact (judgeSensors_follow s).kept fun k sensor => (laterChecks_keepsKey s (apart k sensor)).active

/-- R9, R12: the temperature conditions are those of the channel values. -/
structure TemperaturesReported (n : NtcSet NtcRecord) (c : LockingConditions) : Prop where
  flowPair : c.flowPair = true ↔ ∃ a b, n.flowA.value = some a ∧ n.flowB.value = some b ∧ 60 < (a - b).natAbs
  flue : c.flue = true ↔ ∃ f, n.flue.value = some f ∧ 1100 ≤ f

theorem reportTemperatures_reported (s : State) : TemperaturesReported s.mfe.ntc s.reportTemperatures.flt.conditions := by
  constructor
  · change (s.mfe.pairApart == some true) = true ↔ _
    unfold Mfe.pairApart
    cases s.mfe.ntc.flowA.value <;> cases s.mfe.ntc.flowB.value <;> simp
  · change (match s.flue with | some f => decide (1100 ≤ f) | none => false) = true ↔ _
    unfold State.flue
    cases s.mfe.ntc.flue.value <;> simp

/-- R7, R9, R12: where an event has judged the sensors and then reported the temperatures, both stand at its end. -/
theorem sensorsAndTemperatures {u : State} (sensors : SensorsFollow s.mfe.ntc u) (ntc : u.mfe.ntc = s.mfe.ntc)
    (keeps : ∀ k, KeepsKey k u t) (conditions : t.flt.conditions = u.reportTemperatures.flt.conditions) :
    SensorsFollow t.mfe.ntc t ∧ TemperaturesReported t.mfe.ntc t.flt.conditions := by
  have same : t.mfe.ntc = u.mfe.ntc := (keeps .f01).ntc
  rw [conditions, same]
  exact ⟨ntc ▸ sensors.kept fun k _ => (keeps k).active, reportTemperatures_reported u⟩

theorem cycle_sensors (s : State) :
    let t := s.judgeCycle.reportTemperatures.judgeFrost.judgePause.settle
    SensorsFollow t.mfe.ntc t ∧ TemperaturesReported t.mfe.ntc t.flt.conditions := by
  refine sensorsAndTemperatures (judgeCycle_sensors s) (judgeCycle_ntc s) (afterCycle_keepsKey s) ?_
  rw [(settle_endsFrom _).flt]
  change s.judgeCycle.reportTemperatures.judgeFrost.flt.conditions = _
  rw [(judgeFrost_touches _).flt (by decide)]

/-- CHANNEL_OPEN_OR_SHORT before its sensors are judged. -/
def State.channelFailed (s : State) (ch : NtcChannel) (kind : BadKind) : State :=
  { s with mfe := { s.mfe with ntc := ntcPut s.mfe.ntc ch ((ntcGet s.mfe.ntc ch).fail kind) } }

theorem exec_channelOpenOrShort {ch : NtcChannel} (kind : BadKind) (on : s.powered = true)
    (fitted : (ntcGet s.mfe.ntc ch).status ≠ .notFitted) :
    ∃ t, exec (.channelOpenOrShort ch kind) s = .next t
      ∧ Follows (s.channelFailed ch kind).judgeSensors.reportTemperatures t :=
  exec_effect (c := .channelOpenOrShort ch kind) on rfl (if_neg fitted)

theorem failed_sensors {u : State} (h : Follows u.judgeSensors.reportTemperatures t) :
    SensorsFollow t.mfe.ntc t ∧ TemperaturesReported t.mfe.ntc t.flt.conditions := by
  refine sensorsAndTemperatures (judgeSensors_follow u) (judgeSensors_keepsKey u (k := .f01) (by decide)).ntc
    (fun k => (reportTemperatures_keepsKey _ k).trans (h.ends.keepsKey k)) ?_
  rw [h.ends.flt]

/-- R120, R121: what the raises and clears of an event and its report of the temperatures write beside what its end writes: the
fault unit's set and history with the notices, and the two temperature conditions. -/
structure WritesFaults (s t : State) : Prop where
  ends : EndsFrom { s with flt := t.flt, prt := { s.prt with notices := t.prt.notices, overflow := t.prt.overflow } } t
  flt : t.flt = { s.flt with
    active := t.flt.active, ring := t.flt.ring, early := t.flt.early, lastCreation := t.flt.lastCreation
    alarmActive := t.flt.alarmActive, alarmHigh := t.flt.alarmHigh
    conditions := { s.flt.conditions with flowPair := t.flt.conditions.flowPair, flue := t.flt.conditions.flue } }

theorem WritesFaults.refl (s : State) : WritesFaults s s := ⟨.refl s, rfl⟩

theorem WritesFaults.trans {u : State} (h : WritesFaults s t) (k : WritesFaults t u) : WritesFaults s u := by
  refine ⟨?_, by rw [k.flt, h.flt]⟩
  obtain ⟨h, -⟩ := h
  obtain ⟨k, -⟩ := k
  exact {
    powered := k.powered.trans h.powered
    pending := k.pending.trans h.pending
    clock := k.clock.trans h.clock
    mfe := by rw [k.mfe, h.mfe]
    flt := by rfl
    rlc := by rw [k.rlc, h.rlc]
    prt := by rw [k.prt, h.prt]
    sto := by rw [k.sto, h.sto]
    table := by rw [k.table, h.table]
    frostStage := k.frostStage.trans h.frostStage
    lines := k.lines.trans h.lines
    bsq := by
      obtain ⟨h1, h2, h3, h4, h5, h6, h7, h8⟩ := h.bsq
      obtain ⟨k1, k2, k3, k4, k5, k6, k7, k8⟩ := k.bsq
      exact ⟨k1.trans h1, k2.trans h2, k3.trans h3, k4.trans h4, k5.trans h5, k6.trans h6, k7.trans h7, k8.trans h8⟩ }

theorem EndsFrom.writesFaults (h : EndsFrom s t) : WritesFaults s t := by
  refine ⟨{ h with flt := rfl, prt := ?_ }, by rw [h.flt]⟩
  rw [h.prt]

theorem Touches.writesFaults (h : Touches [.flt, .prt, .sto] s t) (sto : t.sto = { s.sto with dirty := t.sto.dirty })
    (prt : t.prt = s.prt ∨ ∃ n, t.prt = s.prt.post n)
    (flt : t.flt = { s.flt with
      active := t.flt.active, ring := t.flt.ring, early := t.flt.early, lastCreation := t.flt.lastCreation }) :
    WritesFaults s t where
  ends := {
    powered := h.powered
    pending := h.pending
    clock := h.clock (by decide)
    mfe := by rw [h.mfe (by decide)]
    flt := rfl
    rlc := by rw [h.rlc (by decide)]
    prt := by
      rcases prt with same | ⟨n, posted⟩
      · rw [same]
      · rw [posted, s.prt.post_frame n]
    sto := by rw [sto]
    table := by rw [h.dta (by decide)]
    frostStage := by rw [h.dta (by decide)]
    lines := by rw [h.ocu (by decide)]
    bsq := by rw [h.bsq (by decide)]; exact ⟨rfl, rfl, rfl, rfl, rfl, rfl, rfl, rfl⟩ }
  flt := by rw [flt]

theorem follow_writesFaults (s : State) (k : FaultKey) (present : Bool) : WritesFaults s (s.follow k present) := by
  cases present
  · have leaves := leaveKey_leaves s k
    exact leaves.touches.writesFaults leaves.sto leaves.posts (by rw [leaves.flt])
  · have enters := enterKey_enters s k
    exact enters.touches.writesFaults enters.sto enters.posts (by rw [enters.flt])

theorem followInTurn_writesFaults (s : State) (k : FaultKey) (present : Bool) :
    WritesFaults s (s.inTurn (·.follow k present)) :=
  (follow_writesFaults s k present).trans (inTurn_endsFrom s (·.follow k present)).writesFaults

theorem judgeSensors_writesFaults (s : State) : WritesFaults s s.judgeSensors :=
  ((((followInTurn_writesFaults s _ _).trans (followInTurn_writesFaults _ _ _)).trans
    (followInTurn_writesFaults _ _ _)).trans (followInTurn_writesFaults _ _ _)).trans
    (followInTurn_writesFaults _ _ _) |>.trans (followInTurn_writesFaults _ _ _)

theorem reportTemperatures_writesFaults (s : State) : WritesFaults s s.reportTemperatures where
  ends := .refl s.reportTemperatures
  flt := rfl

/-- Settles O23, from the sensor faults and the temperature conditions as an event leaves them. -/
theorem sensorFaultsFollowTheChannels : Obligations.SensorFaultsFollowTheChannels := by
  refine ⟨fun s c on event => ?follow, fun s ch kind on fitted => ?frame⟩
  case follow =>
    have judged : ∃ t, exec c s = .next t ∧ SensorsFollow t.mfe.ntc t ∧ TemperaturesReported t.mfe.ntc t.flt.conditions := by
      rcases event with ⟨readings, polOut, rfl⟩ | ⟨ch, kind, rfl, fitted⟩
      · exact ⟨_, exec_ntcConversionCycle s readings polOut on, cycle_sensors _⟩
      · obtain ⟨t, run, follows⟩ := exec_channelOpenOrShort kind on fitted
        exact ⟨t, run, failed_sensors follows⟩
    obtain ⟨t, run, sensors, temperatures⟩ := judged
    exact ⟨t, run, sensors.flow, sensors.ret, sensors.dhwOut, sensors.dhwIn, sensors.flue, sensors.outdoor,
      temperatures.flowPair, temperatures.flue⟩
  case frame =>
    intro r status
    obtain ⟨t, run, follows⟩ := exec_channelOpenOrShort kind on fitted
    have writes : WritesFaults (s.channelFailed ch kind) t :=
      ((judgeSensors_writesFaults _).trans (reportTemperatures_writesFaults _)).trans follows.ends.writesFaults
    have record : r.fail kind = ⟨[], none, status, r.age, kind, 3⟩ := by unfold NtcRecord.fail; rw [badStatus_eq]
    refine ⟨t, run, ?_, writes.flt, fun k other => ?_⟩
    · rw [← record]
      exact writes.ends
    · exact (((judgeSensors_keepsKey (s.channelFailed ch kind) other).trans (reportTemperatures_keepsKey _ k)).trans
        (follows.ends.keepsKey k)).active

/-! ### The frost detector (R29, R43) -/

/-- The frost detector's entry and pump stage, and the entries of the board and the rooms. -/
def Dta.frostView (d : Dta) : Option Entry × Bool × Option Entry × SlotSet (Option Entry) :=
  (d.table.frost, d.frostStage, d.table.board, d.table.room)

/-- An operation that leaves the frost detector alone. -/
def KeepsFrost (s t : State) : Prop := t.dta.frostView = s.dta.frostView

theorem EndsFrom.keepsFrost (h : EndsFrom s t) : KeepsFrost s t := by
  unfold KeepsFrost Dta.frostView
  rw [h.table, h.frostStage]

theorem Touches.keepsFrost {l : List Block} (h : Touches l s t) (dta : .dta ∉ l) : KeepsFrost s t := by
  unfold KeepsFrost
  rw [h.dta dta]

theorem KeepsFrost.trans {u : State} (h : KeepsFrost s t) (k : KeepsFrost t u) : KeepsFrost s u := Eq.trans k h

theorem KeepsFrost.inTurn {f : State → State} (h : KeepsFrost s (f s)) : KeepsFrost s (s.inTurn f) :=
  h.trans (inTurn_endsFrom s f).keepsFrost

theorem KeepsFrost.ite {p : Prop} [Decidable p] {u : State} (h : KeepsFrost s t) (k : KeepsFrost s u) :
    KeepsFrost s (if p then t else u) := by split <;> assumption

theorem beginLockout_keepsFrost (s : State) (k : FaultKey) : KeepsFrost s (s.beginLockout k) := by
  have key : KeepsFrost s ((s.recordLockout k).enterKey k) := (enterKey_touches _ k).keepsFrost (by decide)
  rw [beginLockout_eq]
  generalize (s.recordLockout k).enterKey k = m at key ⊢
  have freed : KeepsFrost m { m with dta := { m.dta with table := { m.dta.table with service := none } } } := rfl
  exact (key.trans freed).trans (endTest_endsFrom _ _).keepsFrost

theorem raiseForeign_keepsFrost (s : State) (k : FaultKey) : KeepsFrost s (s.raiseForeign k) := by
  have record : KeepsFrost s (s.recordRaise k true) := (recordRaise_touches s k true).keepsFrost (by decide)
  have raised : KeepsFrost s (s.raiseLocking k) := .ite (.ite rfl record) (beginLockout_keepsFrost s k)
  exact .ite (raised.trans (gotoLockout_endsFrom _).keepsFrost) raised

theorem mfe_keepsFrost (s : State) (x : Mfe) : KeepsFrost s { s with mfe := x } := rfl

theorem judgePair_keepsFrost (s : State) : KeepsFrost s s.judgePair := by
  have expiry : KeepsFrost s s.pairExpiry := (mfe_keepsFrost s _).trans (raiseForeign_keepsFrost _ _)
  unfold State.judgePair
  split
  · exact mfe_keepsFrost s _
  · exact mfe_keepsFrost s _
  · split
    · split
      · exact expiry
      · exact mfe_keepsFrost s _
    · rfl

theorem judgeOverTemperature_keepsFrost (s : State) : KeepsFrost s s.judgeOverTemperature := by
  unfold State.judgeOverTemperature
  split
  · rfl
  · exact (hysteresis_touches s _ _ _).keepsFrost (by decide)

theorem judgeCirculation_keepsFrost (s : State) : KeepsFrost s s.judgeCirculation := by
  have expiry : KeepsFrost s s.circulationExpiry :=
    (mfe_keepsFrost s _).trans ((enterKey_touches _ .b09).keepsFrost (by decide))
  unfold State.judgeCirculation
  split
  · rfl
  · exact .ite (.ite expiry (mfe_keepsFrost s _)) (mfe_keepsFrost s _)

theorem judgeFlue_keepsFrost (s : State) : KeepsFrost s s.judgeFlue := by
  unfold State.judgeFlue
  split
  · rfl
  · split
    · exact (mfe_keepsFrost s _).trans (raiseForeign_keepsFrost _ _)
    · split
      · exact mfe_keepsFrost s _
      · rfl

theorem judgeCycle_keepsFrost (s : State) : KeepsFrost s s.judgeCycle := by
  have sensors : KeepsFrost s s.judgeSensors := (judgeSensors_writesFaults s).ends.keepsFrost
  exact (((sensors.trans (judgePair_keepsFrost _).inTurn).trans (judgeOverTemperature_keepsFrost _).inTurn).trans
    (judgeCirculation_keepsFrost _).inTurn).trans (judgeFlue_keepsFrost _).inTurn

/-- R29, R43: what the frost detector makes of its record at a flow value that may be absent. -/
def Dta.frostAt (d : Dta) : Option Int → Dta
  | none => d
  | some f => d.judgeFrost f

theorem judgeFrost_dta (s : State) : s.judgeFrost.dta = s.dta.frostAt s.flow := by
  unfold State.judgeFrost
  cases s.flow <;> rfl

theorem frostAt_view {d e : Dta} (same : d.frostView = e.frostView) (flow : Option Int) :
    (d.frostAt flow).frostView = (e.frostAt flow).frostView := by
  simp only [Dta.frostView, Prod.mk.injEq] at same
  obtain ⟨frost, stage, board, room⟩ := same
  cases flow with
  | none => simp [Dta.frostAt, Dta.frostView, frost, stage, board, room]
  | some f => simp [Dta.frostAt, Dta.judgeFrost, Dta.frostView, frost, stage, board, room]

/-- R29, R43: once the checks are made, the detector and the stage become those that the flow value makes of them. -/
theorem judged_frost (h : Follows s.reportTemperatures.judgeFrost.judgePause t) :
    t.dta.frostView = (s.dta.frostAt t.flow).frostView := by
  have flow : t.flow = s.flow := ((afterChecks_keepsKey s .f01).trans (h.ends.keepsKey .f01)).flow
  have judged : s.reportTemperatures.judgeFrost.dta = s.dta.frostAt s.flow := judgeFrost_dta s.reportTemperatures
  have paused (u : State) : KeepsFrost u u.judgePause := by rw [judgePause_frame]; rfl
  have ended : t.dta.frostView = s.reportTemperatures.judgeFrost.dta.frostView := (paused _).trans h.ends.keepsFrost
  rw [ended, judged, flow]

/-- Settles O25, from the frost detector as a conversion cycle leaves it. -/
theorem frostFollowsTheFlow : Obligations.FrostFollowsTheFlow := by
  intro s readings polOut on
  have checks : KeepsFrost s (s.converted readings polOut).judgeCycle := judgeCycle_keepsFrost (s.converted readings polOut)
  obtain ⟨t, run, follows⟩ : ∃ t, exec (.ntcConversionCycle readings polOut) s = .next t
      ∧ Follows (s.converted readings polOut).judgeCycle.reportTemperatures.judgeFrost.judgePause t :=
    ⟨_, exec_ntcConversionCycle s readings polOut on, settle_follows _⟩
  generalize (s.converted readings polOut).judgeCycle = u at checks follows
  refine ⟨t, run, ?_⟩
  have view : t.dta.frostView = (s.dta.frostAt t.flow).frostView :=
    (judged_frost follows).trans (frostAt_view checks _)
  simp only [Dta.frostView, Prod.mk.injEq] at view
  obtain ⟨frost, stage, board, room⟩ := view
  refine ⟨fun absent => ?_, fun f present => ?_, ?_, ?_⟩
  · rw [frost, stage, absent]
    exact ⟨rfl, rfl⟩
  · rw [frost, stage, present]
    refine ⟨?_, rfl⟩
    change (if s.dta.table.frost.isNone then _ else if _ then _ else s.dta.table.frost) = _
    cases s.dta.table.frost <;> rfl
  · rw [board]
    cases t.flow <;> rfl
  · rw [room]
    cases t.flow <;> rfl

end Sys2Proof.Machine

/-! SUPPORT. Water pressure and the flame (R13 to R17): the records that a reading, a sample and the end of a block write, and
what the sequencer leaves of them. -/

namespace Sys2Proof.Machine

variable {s t : State}

/-! ### What the fault unit and the sequencer leave of the measurements -/

/-- Of the measured values only the weak-flame block may differ, of the fault unit no condition, and the store's contents and
the clock stand. -/
structure LeavesMeasured (s t : State) : Prop where
  mfe : t.mfe = { s.mfe with blockSum := t.mfe.blockSum, blockCount := t.mfe.blockCount }
  conditions : t.flt.conditions = s.flt.conditions
  nv : t.sto.nv = s.sto.nv
  clock : t.clock = s.clock

theorem LeavesMeasured.refl (s : State) : LeavesMeasured s s := ⟨rfl, rfl, rfl, rfl⟩

theorem LeavesMeasured.trans {u : State} (h : LeavesMeasured s t) (k : LeavesMeasured t u) : LeavesMeasured s u :=
  ⟨by rw [k.mfe, h.mfe], k.conditions.trans h.conditions, k.nv.trans h.nv, k.clock.trans h.clock⟩

theorem LeavesMeasured.ite {p : Prop} [Decidable p] {u : State} (h : LeavesMeasured s t) (k : LeavesMeasured s u) :
    LeavesMeasured s (if p then t else u) := by split <;> assumption

theorem EndsFrom.leavesMeasured (h : EndsFrom s t) : LeavesMeasured s t :=
  ⟨h.mfe, by rw [h.flt], by rw [h.sto], h.clock⟩

theorem goto_leavesMeasured (s : State) (q : SeqState) : LeavesMeasured s (s.goto q) := (goto_endsFrom s q).leavesMeasured

theorem bsq_leavesMeasured (s : State) (x : Bsq) : LeavesMeasured s { s with bsq := x } := ⟨rfl, rfl, rfl, rfl⟩

theorem recordRaise_leavesMeasured (s : State) (k : FaultKey) (b : Bool) : LeavesMeasured s (s.recordRaise k b) where
  mfe := by rw [(recordRaise_touches s k b).mfe (by decide)]
  conditions := by rw [Flt.eq_of_kept (recordRaise_kept s k b)]
  nv := by rw [recordRaise_sto]
  clock := (recordRaise_touches s k b).clock (by decide)

theorem enterKey_leavesMeasured (s : State) (k : FaultKey) : LeavesMeasured s (s.enterKey k) := by
  have key := enterKey_enters s k
  exact ⟨by rw [key.touches.mfe (by decide)], by rw [key.flt], by rw [key.sto], key.touches.clock (by decide)⟩

theorem leaveKey_leavesMeasured (s : State) (k : FaultKey) : LeavesMeasured s (s.leaveKey k) := by
  have key := leaveKey_leaves s k
  exact ⟨by rw [key.touches.mfe (by decide)], by rw [key.flt], by rw [key.sto], key.touches.clock (by decide)⟩

theorem hysteresis_leavesMeasured (s : State) (k : FaultKey) (raise clear : Bool) :
    LeavesMeasured s (s.hysteresis k raise clear) :=
  .ite (enterKey_leavesMeasured s k) (.ite (leaveKey_leavesMeasured s k) (.refl s))

theorem beginLockout_leavesMeasured (s : State) (k : FaultKey) : LeavesMeasured s (s.beginLockout k) := by
  have begun := beginLockout_begins s k
  exact ⟨by rw [begun.touches.mfe (by decide)], begun.conditions.1, by rw [begun.sto], begun.touches.clock (by decide)⟩

theorem raiseLocking_leavesMeasured (s : State) (k : FaultKey) : LeavesMeasured s (s.raiseLocking k) :=
  .ite (.ite (.refl s) (recordRaise_leavesMeasured s k true)) (beginLockout_leavesMeasured s k)

theorem lockWith_leavesMeasured (s : State) (k : FaultKey) : LeavesMeasured s (s.lockWith k) :=
  (raiseLocking_leavesMeasured s k).trans (gotoLockout_endsFrom _).leavesMeasured

theorem takeTrip_leavesMeasured (s : State) (causes : TripSet) : LeavesMeasured s (s.takeTrip causes) := by
  have limit : LeavesMeasured s s.takeLimit := by
    unfold State.takeLimit
    split
    · exact bsq_leavesMeasured s _
    · exact raiseLocking_leavesMeasured s .f04
    · exact lockWith_leavesMeasured s .f04
  have block : LeavesMeasured s s.takeBlock := by
    unfold State.takeBlock
    split
    case h_8 => exact .refl s
    all_goals exact goto_leavesMeasured s _
  exact .ite limit block

theorem failedAttempt_leavesMeasured (s : State) : LeavesMeasured s s.failedAttempt :=
  (bsq_leavesMeasured s _).trans (.ite (goto_leavesMeasured _ _) (lockWith_leavesMeasured _ _))

theorem lossInRunning_leavesMeasured (s : State) : LeavesMeasured s s.lossInRunning :=
  .ite (lockWith_leavesMeasured s _) ((bsq_leavesMeasured s _).trans (goto_leavesMeasured _ _))

theorem unlessTripped_leavesMeasured {f : State → State} (other : LeavesMeasured s (f s)) :
    LeavesMeasured s (s.unlessTripped f) := by
  unfold State.unlessTripped
  split
  · exact takeTrip_leavesMeasured s _
  · exact other

theorem enterSafetyTime_leavesMeasured (s : State) : LeavesMeasured s s.enterSafetyTime :=
  (goto_leavesMeasured s .safetyTime).trans ⟨rfl, rfl, rfl, rfl⟩

theorem takeFlameLost_leavesMeasured (s : State) : LeavesMeasured s s.takeFlameLost := by
  unfold State.takeFlameLost
  split
  · exact unlessTripped_leavesMeasured (failedAttempt_leavesMeasured s)
  · exact unlessTripped_leavesMeasured (lossInRunning_leavesMeasured s)
  · exact .ite (enterSafetyTime_leavesMeasured s) (.refl s)
  · exact .refl s

theorem takeFlameProved_leavesMeasured (s : State) : LeavesMeasured s s.takeFlameProved := by
  unfold State.takeFlameProved
  split
  · have counted : LeavesMeasured s (State.countStart { s with bsq := { s.bsq with provingFailures := 0 } }) :=
      ⟨rfl, rfl, rfl, rfl⟩
    exact counted.trans (goto_leavesMeasured _ .stabilise)
  · exact .refl s

/-! ### Water pressure (R13, R14) -/

theorem pushWindow_isFull {α : Type} (n : Nat) (w : List α) (x : α) :
    (pushWindow (n + 1) w x).length = n + 1 ↔ n ≤ w.length := by
  rw [pushWindow_drop, List.length_drop, List.length_append, List.length_singleton]
  omega

theorem pressureFails_measured (s : State) :
    s.pressureFails.mfe = { s.mfe with pressWindow := [], pressValue := none } := by
  unfold State.pressureFails
  rw [(enterKey_touches _ _).mfe (by decide)]

theorem pressureFails_trim (s : State) : s.pressureFails.sto.trim = s.sto.trim := by
  unfold State.pressureFails
  rw [(enterKey_enters _ _).sto]

theorem pressureFails_isActive (s : State) (k : FaultKey) :
    s.pressureFails.isActive k = if k = .b02 then true else s.isActive k := by
  exact follow_isActive { s with mfe := { s.mfe with pressWindow := [], pressValue := none } } .b02 k true

/-- R13: a reading that joins the window and does not fill it. -/
theorem pressureGood_short {mv : Nat} (short : s.mfe.pressWindow.length < 3) : s.pressureGood mv =
    { s with mfe := { s.mfe with
      pressWindow := pushWindow 4 s.mfe.pressWindow (pressureOf mv s.sto.trim.pressOffset), pressAge := 0, pressBadRun := 0 } } :=
  if_neg fun full => absurd ((pushWindow_isFull 3 _ _).1 full) (by omega)

/-- R13: the part as a full window has given its pressure, before the faults are judged on it. -/
def State.pressureTaken (s : State) (w : List Int) : State :=
  { s with mfe := { s.mfe with pressWindow := w, pressAge := 0, pressBadRun := 0, pressValue := some (divz w.sum 4) } }

theorem pressureGood_full {mv : Nat} (full : 3 ≤ s.mfe.pressWindow.length) :
    let w := pushWindow 4 s.mfe.pressWindow (pressureOf mv s.sto.trim.pressOffset)
    s.pressureGood mv = ((s.pressureTaken w).inTurn (·.leaveKey .b02)).judgePressure (divz w.sum 4) := by
  intro w
  have taken : s.pressureGood mv = ((({ s with mfe := { s.mfe with
      pressWindow := w, pressAge := 0, pressBadRun := 0, pressValue := some (divz (sumInt w) 4) } } : State).inTurn
      (·.leaveKey .b02)).judgePressure (divz (sumInt w) 4)) := if_pos ((pushWindow_isFull 3 _ _).2 full)
  rw [taken, sumInt_eq]
  rfl

theorem judgePressure_leavesMeasured (s : State) (p : Int) : LeavesMeasured s (s.judgePressure p) :=
  ((hysteresis_leavesMeasured s _ _ _).trans (hysteresis_leavesMeasured _ _ _ _)).trans (hysteresis_leavesMeasured _ _ _ _)

/-- R14: the three pressure faults, each between its own limits; no other key is judged. -/
theorem judgePressure_isActive (s : State) (p : Int) (k : FaultKey) : (s.judgePressure p).isActive k =
    if k = .a05 then (if 280 < p then true else if p ≤ 260 then false else s.isActive k)
    else if k = .a04 then (if p < 90 then true else if 100 ≤ p then false else s.isActive k)
    else if k = .b01 then (if p < 60 then true else if 80 ≤ p then false else s.isActive k)
    else s.isActive k := by
  unfold State.judgePressure
  simp only [hysteresis_isActive, decide_eq_true_eq]
  by_cases b01 : k = .b01
  · subst b01
    rfl
  · by_cases a04 : k = .a04
    · subst a04
      rfl
    · by_cases a05 : k = .a05
      · subst a05
        rfl
      · simp [b01, a04, a05]

/-- R13: what stands of a reading's own record at the end of its event. -/
theorem exec_pressureGood {mv : Nat} (on : s.powered = true) (low : 300 ≤ mv) (high : mv ≤ 4700) :
    ∃ t, exec (.pressureReading mv) s = .next t ∧ Follows (s.judgePressureAge.pressureGood mv) t :=
  exec_effect (c := .pressureReading mv) on rfl (if_pos ⟨low, high⟩)

theorem exec_pressureBad {mv : Nat} (on : s.powered = true) (out : mv < 300 ∨ 4700 < mv) :
    ∃ t, exec (.pressureReading mv) s = .next t ∧ Follows s.judgePressureAge.pressureBad t :=
  exec_effect (c := .pressureReading mv) on rfl (if_neg (by omega))

theorem judgePressureAge_fresh (fresh : s.mfe.pressAge ≤ 1000) : s.judgePressureAge = s := if_neg (by omega)

theorem judgePressureAge_old (old : 1000 < s.mfe.pressAge) : s.judgePressureAge = s.pressureFails := if_pos old

theorem EndsFrom.isActive (h : EndsFrom s t) (k : FaultKey) : t.isActive k = s.isActive k :=
  isActive_of_active (by rw [h.flt]) k

/-- R13: the third bad reading in a row takes the pressure away, whatever its age was. -/
theorem pressureBad_third (third : 2 ≤ s.mfe.pressBadRun) : s.pressureBad =
    State.pressureFails { s with mfe := { s.mfe with pressBadRun := 3 } } := by
  have run : min 3 (s.mfe.pressBadRun + 1) = 3 := by omega
  unfold State.pressureBad
  dsimp only
  rw [run, if_pos rfl]

theorem judgePressureAge_frame (s : State) :
    s.judgePressureAge.mfe = { s.mfe with
      pressWindow := s.judgePressureAge.mfe.pressWindow, pressValue := s.judgePressureAge.mfe.pressValue }
    ∧ ∀ k, k ≠ .b02 → s.judgePressureAge.isActive k = s.isActive k := by
  unfold State.judgePressureAge
  split
  · exact ⟨by rw [pressureFails_measured], fun k other => by rw [pressureFails_isActive, if_neg other]⟩
  · exact ⟨rfl, fun _ _ => rfl⟩

/-- Settles O27, from the window that a reading fills, joins, or loses. -/
theorem pressureIsJudgedOnAFullWindow : Obligations.PressureIsJudgedOnAFullWindow := by
  refine ⟨fun s mv on low high fresh => ?fresh, fun s mv on low high old => ?old, fun s mv on out third => ?third⟩
  case fresh =>
    intro x w p
    obtain ⟨t, run, follows⟩ := exec_pressureGood on low high
    rw [judgePressureAge_fresh fresh] at follows
    have window : pushWindow 4 s.mfe.pressWindow (pressureOf mv s.sto.trim.pressOffset) = w := pushWindow_drop 3 _ _
    by_cases full : 3 ≤ s.mfe.pressWindow.length
    · rw [pressureGood_full full, window] at follows
      have cleared : LeavesMeasured (s.pressureTaken w) ((s.pressureTaken w).inTurn (·.leaveKey .b02)) :=
        (leaveKey_leavesMeasured _ _).trans (inTurn_endsFrom (s.pressureTaken w) (·.leaveKey .b02)).leavesMeasured
      have mfe := ((cleared.trans (judgePressure_leavesMeasured _ p)).trans follows.ends.leavesMeasured).mfe
      have active (k : FaultKey) : t.isActive k
          = (((s.pressureTaken w).inTurn (·.leaveKey .b02)).judgePressure p).isActive k := follows.ends.isActive k
      have stands (k : FaultKey) (other : k ≠ .b02) :
          ((s.pressureTaken w).inTurn (·.leaveKey .b02)).isActive k = s.isActive k := by
        rw [inTurn_isActive, leaveKey_isActive, bne_iff_ne.2 other, Bool.and_true]
        rfl
      have gone : ((s.pressureTaken w).inTurn (·.leaveKey .b02)).isActive .b02 = false := by
        rw [inTurn_isActive, leaveKey_isActive, bne_self_eq_false, Bool.and_false]
      simp only [judgePressure_isActive] at active
      refine ⟨t, run, ?_, fun _ => ⟨(active .b02).trans gone, stands .b01 nofun ▸ active .b01, stands .a04 nofun ▸ active .a04,
        stands .a05 nofun ▸ active .a05⟩, fun short => absurd full (by omega), fun k other => ?_⟩
      · rw [mfe, if_pos full]
        rfl
      · simp only [List.mem_cons, List.not_mem_nil, or_false, not_or] at other
        obtain ⟨b01, b02, a04, a05⟩ := other
        rw [active, if_neg a05, if_neg a04, if_neg b01, stands k b02]
    · have short : s.mfe.pressWindow.length < 3 := by omega
      rw [pressureGood_short short, window] at follows
      refine ⟨t, run, ?_, fun more => absurd more full, fun _ => ?_, fun k _ => follows.ends.isActive k⟩
      · rw [follows.ends.leavesMeasured.mfe, if_neg full]
      · rw [follows.ends.flt]
  case old =>
    obtain ⟨t, run, follows⟩ := exec_pressureGood on low high
    have empty := pressureFails_measured s
    rw [judgePressureAge_old old, pressureGood_short (by rw [empty]; exact Nat.zero_lt_succ 2), empty, pressureFails_trim] at follows
    refine ⟨t, run, ?_, ?_, fun k other => ?_⟩
    · rw [follows.ends.leavesMeasured.mfe]
      rfl
    · exact (follows.ends.isActive .b02).trans (pressureFails_isActive s .b02)
    · exact (follows.ends.isActive k).trans ((pressureFails_isActive s k).trans (if_neg other))
  case third =>
    obtain ⟨t, run, follows⟩ := exec_pressureBad on out
    obtain ⟨frame, keys⟩ := judgePressureAge_frame s
    have before : 2 ≤ s.judgePressureAge.mfe.pressBadRun := by rw [frame]; exact third
    rw [pressureBad_third before] at follows
    refine ⟨t, run, ?_, ?_, fun k other => ?_⟩
    · rw [follows.ends.leavesMeasured.mfe, pressureFails_measured, frame]
    · exact (follows.ends.isActive .b02).trans (pressureFails_isActive _ .b02)
    · exact ((follows.ends.isActive k).trans ((pressureFails_isActive _ k).trans (if_neg other))).trans (keys k other)

/-! ### The flame (R15 to R17) -/

theorem judgeBlock_leavesMeasured (s : State) (sum : Nat) : LeavesMeasured s (s.judgeBlock sum) :=
  hysteresis_leavesMeasured s _ _ _

theorem endBlock_leavesMeasured (s : State) (sum : Nat) : LeavesMeasured s (s.endBlock sum) :=
  (LeavesMeasured.mk (s := s) (t := { s with mfe := { s.mfe with blockSum := 0, blockCount := 0 } }) rfl rfl rfl rfl).trans
    (judgeBlock_leavesMeasured _ sum)

theorem addToBlock_leavesMeasured (s : State) (sample : Nat) : LeavesMeasured s (s.addToBlock sample) :=
  .ite (.ite (endBlock_leavesMeasured s _) ⟨rfl, rfl, rfl, rfl⟩) (.refl s)

theorem flameProved_leavesMeasured (s : State) : LeavesMeasured (s.setFlame true) s.flameProved :=
  takeFlameProved_leavesMeasured _

theorem flameLost_leavesMeasured (s : State) : LeavesMeasured (s.setFlame false) s.flameLost :=
  takeFlameLost_leavesMeasured _

theorem judgeFlame_on {x : Nat} (off : s.mfe.flameOn = false) (high : 10 ≤ x) (run : 2 ≤ s.mfe.provingRun) :
    s.judgeFlame x = s.flameProved := by
  unfold State.judgeFlame
  rw [if_neg (by simp [off]), if_pos high, if_pos (by omega)]

theorem judgeFlame_off {x : Nat} (isOn : s.mfe.flameOn = true) (low : x < 6) (run : 1 ≤ s.mfe.lossRun) :
    s.judgeFlame x = s.flameLost := by
  unfold State.judgeFlame
  rw [if_pos isOn, if_pos low, if_pos (by omega)]

/-- R16: a sample that neither proves nor loses the flame moves the run of the state it stands in, and nothing else. -/
theorem judgeFlame_runs {x : Nat} (notOn : ¬ (s.mfe.flameOn = false ∧ 10 ≤ x ∧ 2 ≤ s.mfe.provingRun))
    (notOff : ¬ (s.mfe.flameOn = true ∧ x < 6 ∧ 1 ≤ s.mfe.lossRun)) : s.judgeFlame x =
      { s with mfe := { s.mfe with
        provingRun := if s.mfe.flameOn then s.mfe.provingRun else if 10 ≤ x then s.mfe.provingRun + 1 else 0
        lossRun := if s.mfe.flameOn then (if x < 6 then s.mfe.lossRun + 1 else 0) else s.mfe.lossRun } } := by
  unfold State.judgeFlame
  by_cases isOn : s.mfe.flameOn = true
  · simp only [isOn, if_true]
    split
    · next low => rw [if_neg fun run => notOff ⟨isOn, low, Nat.le_of_succ_le_succ run⟩]
    · rfl
  · have off : s.mfe.flameOn = false := by simpa using isOn
    simp only [off, Bool.false_eq_true, if_false]
    split
    · next high => rw [if_neg fun run => notOn ⟨off, high, Nat.le_of_succ_le_succ run⟩]
    · rfl

/-- R15: the sample is taken and a block in RUNNING goes on, before the flame is judged. -/
def State.sampled (s : State) (x : Nat) : State :=
  ({ s with mfe := { s.mfe with ionSample := x } } : State).addToBlock x

theorem sampled_leavesMeasured (s : State) (x : Nat) :
    LeavesMeasured { s with mfe := { s.mfe with ionSample := x } } (s.sampled x) := addToBlock_leavesMeasured _ x

theorem exec_ionisationSample {current x : Nat} (on : s.powered = true) (sample : ionSampleOf current s.sto.trim.gain = x) :
    ∃ t, exec (.ionisationSample current) s = .next t ∧ Follows ((s.sampled x).judgeFlame x) t :=
  exec_effect (c := .ionisationSample current) on rfl (sample ▸ rfl)

/-- R17: what a block that has been judged leaves at zero stays there, whether RUNNING goes on or is left. -/
def LeavesBlock (s t : State) : Prop :=
  t.mfe = s.mfe ∨ t.mfe = { s.mfe with blockSum := 0, blockCount := 0 }

theorem goto_mfe (s : State) (q : SeqState) : (s.goto q).mfe = (s.leaveFor q).mfe := by
  unfold State.goto
  dsimp only
  split <;> split <;> rfl

theorem goto_leavesBlock (s : State) (q : SeqState) : LeavesBlock s (s.goto q) := by
  unfold LeavesBlock
  rw [goto_mfe]
  unfold State.leaveFor
  dsimp only
  split
  · exact .inr rfl
  · exact .inl rfl

theorem LeavesBlock.trans {u : State} (h : LeavesBlock s t) (k : LeavesBlock t u) : LeavesBlock s u := by
  unfold LeavesBlock at *
  rcases h with h | h <;> rcases k with k | k <;> rw [k, h] <;> simp

theorem LeavesBlock.of_touches {l : List Block} (h : Touches l s t) (mfe : .mfe ∉ l) : LeavesBlock s t := .inl (h.mfe mfe)

theorem startBurn_leavesBlock (s : State) : LeavesBlock s s.startBurn := by
  have entered : LeavesBlock s (State.goto { s with bsq := s.bsq.beginBurn } .preCheck) := goto_leavesBlock { s with bsq := _ } _
  have asked : LeavesBlock s (State.goto { s with bsq := s.bsq.beginBurn } .preCheck).askRearm := entered
  unfold State.startBurn
  dsimp only
  split
  · exact asked.trans (goto_leavesBlock _ _)
  · exact asked

theorem leavesBlock_stageKept : StageKept LeavesBlock where
  refl _ := .inl rfl
  trans := .trans
  guardTap _ := .inl rfl
  judgeKeepwarm _ := .inl rfl
  endTest s cause := .of_touches (endTest_touches s cause) (by decide)
  formTargets _ := .inl rfl
  evaluate _ := .inl rfl
  serveMode s := .of_touches (serveMode_touches s) (by decide)
  applyCaps s := .of_touches (applyCaps_touches s) (by decide)
  judgeRequest s := by
    rcases judgeRequest_cases s with same | ⟨-, -, burn⟩ | ⟨-, idle | post⟩
    · exact .inl (by rw [same])
    · exact burn ▸ startBurn_leavesBlock s
    · exact idle ▸ goto_leavesBlock s _
    · exact post ▸ goto_leavesBlock s _
  judgePreCheck s := by
    unfold State.judgePreCheck
    split
    · exact goto_leavesBlock s _
    · exact .inl rfl
  driveOutputs _ := .inl rfl
  drivePins _ := .inl rfl
  remark s := .of_touches (remark_touches s) (by decide)
  startWrite s := .of_touches (startWrite_touches s) (by decide)

theorem settle_leavesBlock (s : State) : LeavesBlock s s.settle := leavesBlock_stageKept.settle s

/-- What one sample may write of the measured values: the sample, the flame state with its runs, and the weak-flame block. -/
structure LeavesOthers (s t : State) : Prop where
  mfe : t.mfe = { s.mfe with
    ionSample := t.mfe.ionSample, flameOn := t.mfe.flameOn, provingRun := t.mfe.provingRun, lossRun := t.mfe.lossRun
    blockSum := t.mfe.blockSum, blockCount := t.mfe.blockCount }
  nv : t.sto.nv = s.sto.nv
  clock : t.clock = s.clock

theorem LeavesOthers.then {u : State} (h : LeavesOthers s t) (k : LeavesMeasured t u) : LeavesOthers s u :=
  ⟨by rw [k.mfe, h.mfe], k.nv.trans h.nv, k.clock.trans h.clock⟩

theorem sampled_leavesOthers (s : State) (x : Nat) : LeavesOthers s (s.sampled x) :=
  (LeavesOthers.mk (t := { s with mfe := { s.mfe with ionSample := x } }) rfl rfl rfl).then (sampled_leavesMeasured s x)

theorem LeavesOthers.setFlame (h : LeavesOthers s t) (b : Bool) : LeavesOthers s (t.setFlame b) :=
  ⟨by change _ = { s.mfe with
        ionSample := t.mfe.ionSample, flameOn := b, provingRun := 0, lossRun := 0, blockSum := t.mfe.blockSum
        blockCount := t.mfe.blockCount }
      unfold State.setFlame
      rw [h.mfe], h.nv, h.clock⟩

theorem LeavesOthers.runs (h : LeavesOthers s t) (proving loss : Nat) :
    LeavesOthers s { t with mfe := { t.mfe with provingRun := proving, lossRun := loss } } :=
  ⟨by rw [h.mfe], h.nv, h.clock⟩

/-- R16: the flame state, the runs and the flame condition after one sample `x`, from those before it. -/
structure FlameJudged (s : State) (x : Nat) (t : State) : Prop where
  sample : t.mfe.ionSample = x
  goesOn : s.mfe.flameOn = false ∧ 10 ≤ x ∧ 2 ≤ s.mfe.provingRun →
    t.mfe.flameOn = true ∧ t.mfe.provingRun = 0 ∧ t.flt.conditions.flame = true
  goesOff : s.mfe.flameOn = true ∧ x < 6 ∧ 1 ≤ s.mfe.lossRun →
    t.mfe.flameOn = false ∧ t.mfe.lossRun = 0 ∧ t.flt.conditions.flame = false
  stays : ¬ (s.mfe.flameOn = false ∧ 10 ≤ x ∧ 2 ≤ s.mfe.provingRun) → ¬ (s.mfe.flameOn = true ∧ x < 6 ∧ 1 ≤ s.mfe.lossRun) →
    t.mfe.flameOn = s.mfe.flameOn ∧ t.flt.conditions = s.flt.conditions
      ∧ (s.mfe.flameOn = false → t.mfe.provingRun = if 10 ≤ x then s.mfe.provingRun + 1 else 0)
      ∧ (s.mfe.flameOn = true → t.mfe.lossRun = if x < 6 then s.mfe.lossRun + 1 else 0)
  others : LeavesOthers s t

theorem FlameJudged.then {x : Nat} {u : State} (h : FlameJudged s x t) (k : LeavesMeasured t u) : FlameJudged s x u := by
  obtain ⟨sample, goesOn, goesOff, stays, others⟩ := h
  refine ⟨?_, ?_, ?_, ?_, others.then k⟩ <;> rw [k.mfe]
  · exact sample
  · rw [k.conditions]; exact goesOn
  · rw [k.conditions]; exact goesOff
  · rw [k.conditions]; exact stays

theorem sampled_judged (s : State) (x : Nat) : FlameJudged s x ((s.sampled x).judgeFlame x) := by
  have taken := sampled_leavesMeasured s x
  have others := sampled_leavesOthers s x
  have sample : (s.sampled x).mfe.ionSample = x := by rw [taken.mfe]
  have flame : (s.sampled x).mfe.flameOn = s.mfe.flameOn := by rw [taken.mfe]
  have proving : (s.sampled x).mfe.provingRun = s.mfe.provingRun := by rw [taken.mfe]
  have loss : (s.sampled x).mfe.lossRun = s.mfe.lossRun := by rw [taken.mfe]
  by_cases isOn : s.mfe.flameOn = false ∧ 10 ≤ x ∧ 2 ≤ s.mfe.provingRun
  · obtain ⟨off, high, run⟩ := isOn
    rw [judgeFlame_on (flame.trans off) high (proving.symm ▸ run)]
    refine FlameJudged.then ?_ (flameProved_leavesMeasured _)
    exact ⟨sample, fun _ => ⟨rfl, rfl, rfl⟩, fun isOff => (nomatch off.symm.trans isOff.1), fun no => absurd ⟨off, high, run⟩ no,
      others.setFlame true⟩
  · by_cases isOff : s.mfe.flameOn = true ∧ x < 6 ∧ 1 ≤ s.mfe.lossRun
    · obtain ⟨lit, low, run⟩ := isOff
      rw [judgeFlame_off (flame.trans lit) low (loss.symm ▸ run)]
      refine FlameJudged.then ?_ (flameLost_leavesMeasured _)
      exact ⟨sample, fun yes => absurd yes isOn, fun _ => ⟨rfl, rfl, rfl⟩, fun _ no => absurd ⟨lit, low, run⟩ no,
        others.setFlame false⟩
    · rw [judgeFlame_runs (by rwa [flame, proving]) (by rwa [flame, loss]), flame, proving, loss]
      refine ⟨sample, fun yes => absurd yes isOn, fun yes => absurd yes isOff, fun _ _ => ⟨flame, taken.conditions, ?_, ?_⟩,
        others.runs _ _⟩
      · exact fun off => if_neg (by simp [off])
      · exact fun lit => if_pos lit

/-- R17: the end of a block leaves the two sums at zero and judges A03 alone. -/
theorem endBlock_frame (s : State) (sum : Nat) :
    (s.endBlock sum).mfe = { s.mfe with blockSum := 0, blockCount := 0 }
    ∧ ∀ k, (s.endBlock sum).isActive k = if k = .a03 then (if sum / 1200 < 20 then true else if 25 ≤ sum / 1200 then false
        else s.isActive k) else s.isActive k := by
  refine ⟨(hysteresis_touches _ _ _ _).mfe (by decide), fun k => ?_⟩
  unfold State.endBlock State.judgeBlock
  rw [hysteresis_isActive]
  simp only [decide_eq_true_eq]
  by_cases a03 : k = .a03
  · subst a03
    rfl
  · rw [if_neg a03, if_neg a03]
    rfl

/-- Settles O28, from what a sample and the end of a block write, and what the sequencer leaves of it. -/
theorem flameIsJudgedBySamplesAndBlocks : Obligations.FlameIsJudgedBySamplesAndBlocks := by
  refine ⟨fun s current on => ?sample, fun s on running gathered => ?block⟩
  case sample =>
    intro x goesOn goesOff
    obtain ⟨t, run, follows⟩ := exec_ionisationSample (x := x) (current := current) on rfl
    have judged := (sampled_judged s x).then follows.ends.leavesMeasured
    have mfe := judged.others.mfe
    exact ⟨t, run, judged.sample, judged.goesOn, judged.goesOff, judged.stays, by rw [mfe], by rw [mfe], by rw [mfe],
      by rw [mfe], judged.others.nv, judged.others.clock⟩
  case block =>
    intro mean
    obtain ⟨t, run, follows⟩ := exec_effect (c := .weakFlameBlockEnd) on rfl (if_pos ⟨running, gathered⟩)
    obtain ⟨ended, active⟩ := endBlock_frame s s.mfe.blockSum
    have keys (k : FaultKey) := (follows.ends.isActive k).trans (active k)
    have mfe : t.mfe = (s.endBlock s.mfe.blockSum).mfe := by
      rcases follows.settled ▸ settle_leavesBlock (s.endBlock s.mfe.blockSum) with same | zero
      · exact same
      · rw [zero, ended]
    have table : t.dta.table = { s.dta.table with tap := t.dta.table.tap, keepwarm := t.dta.table.keepwarm } := by
      rw [follows.ends.table, show (s.endBlock s.mfe.blockSum).dta = s.dta from (hysteresis_touches _ _ _ _).dta (by decide)]
    exact ⟨t, run, mfe.trans ended, keys .a03, fun k other => (keys k).trans (if_neg other), by rw [table], by rw [table],
      ((endBlock_leavesMeasured _ _).trans follows.ends.leavesMeasured).nv⟩

end Sys2Proof.Machine

/-! SUPPORT. The end of a pulse gate (R18 to R21, R28, R77): the counts, A08, the tap detector and the band judgement. -/

namespace Sys2Proof.Machine

variable {s t : State}

/-! ### The counts (R18, R19) -/

theorem risingEdges_eq (last : Bool) (l : List Bool) :
    risingEdges last l = ((last :: l).zip l).countP fun x => !x.1 && x.2 := by
  induction l generalizing last with
  | nil => rfl
  | cons x rest ih =>
    rw [List.zip_cons_cons, List.countP_cons, risingEdges, ih]
    cases last <;> cases x <;> simp [Nat.add_comm]

theorem overRange_iff (n : Nat) : overRange n = true ↔ 275 ≤ n := by simp [overRange]

theorem overRange_false (n : Nat) : overRange n = false ↔ n < 275 := by simp [overRange]

/-! ### A08 (R21) -/

theorem judgeA08_mfe (s : State) (wild : Bool) :
    (s.judgeA08 wild).mfe = { s.mfe with goodGates := if wild then 0 else min 40 (s.mfe.goodGates + 1) } := by
  unfold State.judgeA08
  cases wild with
  | true => exact (enterKey_touches _ _).mfe (by decide)
  | false =>
    dsimp only
    rw [if_neg Bool.false_ne_true, if_neg Bool.false_ne_true]
    split
    · next full =>
      rw [Nat.min_eq_left full]
      exact (leaveKey_touches _ _).mfe (by decide)
    · next more => rw [Nat.min_eq_right (by omega)]

theorem judgeA08_isActive (s : State) (wild : Bool) (k : FaultKey) : (s.judgeA08 wild).isActive k =
    if k = .a08 then (if wild then true else s.isActive .a08 && decide (s.mfe.goodGates + 1 < 40)) else s.isActive k := by
  have kept (n : Nat) : State.isActive { s with mfe := { s.mfe with goodGates := n } } = s.isActive := rfl
  unfold State.judgeA08
  cases wild with
  | true =>
    rw [if_pos rfl]
    exact follow_isActive _ .a08 k true
  | false =>
    rw [if_neg Bool.false_ne_true]
    by_cases full : 40 ≤ s.mfe.goodGates + 1
    · rw [if_pos full]
      refine (follow_isActive { s with mfe := { s.mfe with goodGates := 40 } } .a08 k false).trans ?_
      simp [show ¬ s.mfe.goodGates + 1 < 40 by omega, kept]
    · rw [if_neg full, kept]
      by_cases a08 : k = .a08
      · simp [a08, show s.mfe.goodGates + 1 < 40 by omega]
      · rw [if_neg a08]

theorem judgeA08_touches (s : State) (wild : Bool) : Touches [.mfe, .flt, .prt, .sto] s (s.judgeA08 wild) :=
  have counted (n : Nat) : Touches [.mfe, .flt, .prt, .sto] s { s with mfe := { s.mfe with goodGates := n } } :=
    (touches_mfe s _).mono (by decide)
  .ite ((counted 0).andThen (enterKey_touches _ _) (by decide))
    (.ite ((counted 40).andThen (leaveKey_touches _ _) (by decide)) (counted _))

theorem judgeA08_settings (s : State) (wild : Bool) : (s.judgeA08 wild).sto.settings = s.sto.settings := by
  have entered (n : Nat) : (State.enterKey { s with mfe := { s.mfe with goodGates := n } } .a08).sto.settings = s.sto.settings := by
    rw [(enterKey_enters _ _).sto]
  have left (n : Nat) : (State.leaveKey { s with mfe := { s.mfe with goodGates := n } } .a08).sto.settings = s.sto.settings := by
    rw [(leaveKey_leaves _ _).sto]
  unfold State.judgeA08
  split
  · exact entered 0
  · split
    · exact left 40
    · rfl

/-! ### The tap detector (R28) -/

theorem dta_endsFrom (s : State) (x : Dta) (table : x.table = { s.dta.table with tap := x.table.tap, keepwarm := x.table.keepwarm })
    (frost : x.frostStage = s.dta.frostStage) : EndsFrom s { s with dta := x } where
  powered := rfl
  pending := rfl
  clock := rfl
  mfe := rfl
  flt := rfl
  rlc := rfl
  prt := rfl
  sto := rfl
  table := table
  frostStage := frost
  lines := rfl
  bsq := ⟨rfl, rfl, rfl, rfl, rfl, rfl, rfl, rfl⟩

theorem judgeTap_endsFrom (s : State) : EndsFrom s s.judgeTap := by
  have runs (start stop : Nat) : EndsFrom s { s with dta := { s.dta with startRun := start, stopRun := stop } } :=
    dta_endsFrom s _ rfl rfl
  rw [judgeTap_cases]
  exact .ite (.ite (.ite (.ite (setTap_endsFrom s _) (runs _ _)) (runs _ _))
    (.ite (.ite (setTap_endsFrom s _) (runs _ _)) (runs _ _))) (.refl s)

theorem tap_of_draw {d e : Dta} (same : d.draw = e.draw) :
    d.asks .tap = e.asks .tap ∧ d.startRun = e.startRun ∧ d.stopRun = e.stopRun :=
  ⟨asks_of_draw same, congrArg (·.2.1) same, congrArg (·.2.2) same⟩

/-! ### The end of a gate -/

/-- R18 to R21: the counts and A08, before the tap detector. -/
def State.gateTaken (s : State) (turbine tacho : List Bool) : State :=
  ({ s with mfe := s.mfe.endGate turbine tacho s.sto.trim.turbineK } : State).judgeA08
    (overRange (s.mfe.turbineCount turbine) || overRange (s.mfe.tachoCount tacho))

theorem gateEnded_eq (s : State) (turbine tacho : List Bool) :
    s.gateEnded turbine tacho = (s.gateTaken turbine tacho).judgeTap.settle := rfl

theorem dhwCompute_endsFrom (s : State) : EndsFrom s s.dhwCompute := by
  unfold State.dhwCompute
  split
  · exact (takeRate_endsFrom s _).trans (fre_endsFrom _ _)
  · exact .refl s

/-- R57, R77: what follows the tap detector's re-evaluation within the gate's own event. -/
def State.gateComputed (s : State) (served : Bool) : State :=
  (if served && s.servesDhw then s.dhwCompute else s).judgeFan

theorem gateComputed_unserved (s : State) : s.gateComputed false = s.judgeFan := rfl

theorem gateComputed_endsFrom (s : State) (served : Bool) : EndsFrom s (s.gateComputed served) := by
  have computed : EndsFrom s (if served && s.servesDhw then s.dhwCompute else s) := .ite (dhwCompute_endsFrom s) (.refl s)
  exact computed.trans (bsq_endsFrom _ _ (Bsq.judgeBand_kept _ _ _))

theorem gateComputed_dta (s : State) (served : Bool) : (s.gateComputed served).dta = s.dta := by
  unfold State.gateComputed
  split
  · exact (dhwCompute_touches s).dta (by decide)
  · rfl

theorem exec_pulseGateEnd (turbine tacho : List Bool) (on : s.powered = true) :
    ∃ t, exec (.pulseGateEnd turbine tacho) s = .next t
      ∧ Follows ((s.gateEnded turbine tacho).gateComputed s.servesDhw) t :=
  exec_effect (c := .pulseGateEnd turbine tacho) on rfl rfl

/-- The gate's counts and A08 stand at the end of its event. -/
theorem gate_ends {turbine tacho : List Bool} (h : Follows ((s.gateEnded turbine tacho).gateComputed s.servesDhw) t) :
    EndsFrom (s.gateTaken turbine tacho) t :=
  ((judgeTap_endsFrom _).trans (settle_endsFrom _)).trans ((gateComputed_endsFrom _ _).trans h.ends)

theorem gateTaken_dta (s : State) (turbine tacho : List Bool) : (s.gateTaken turbine tacho).dta = s.dta :=
  (judgeA08_touches _ _).dta (by decide)

theorem gateTaken_tapEnabled (s : State) (turbine tacho : List Bool) :
    (s.gateTaken turbine tacho).tapEnabled = s.tapEnabled := by
  have b11 : (s.gateTaken turbine tacho).isActive .b11 = s.isActive .b11 := judgeA08_isActive _ _ .b11
  have settings : (s.gateTaken turbine tacho).sto.settings = s.sto.settings := judgeA08_settings _ _
  unfold State.tapEnabled
  rw [b11, settings]

/-- R28: the tap detector at the end of a gate's event: what it makes of its record, or the rest of a disabled one. -/
theorem gate_draw {turbine tacho : List Bool} (h : Follows ((s.gateEnded turbine tacho).gateComputed s.servesDhw) t) :
    t.dta.draw = if s.tapEnabled then (s.gateTaken turbine tacho).judgeTap.dta.draw else noDraw := by
  have enabled : ((s.gateEnded turbine tacho).gateComputed s.servesDhw).tapEnabled = s.tapEnabled :=
    (((settle_endsFrom _).trans (gateComputed_endsFrom _ _)).tapEnabled.trans (judgeTap_endsFrom _).tapEnabled).trans
      (gateTaken_tapEnabled s turbine tacho)
  have first : (s.gateEnded turbine tacho).dta.draw = if s.tapEnabled then (s.gateTaken turbine tacho).judgeTap.dta.draw
      else noDraw := by
    rw [gateEnded_eq, settle_draw, (judgeTap_endsFrom _).tapEnabled, gateTaken_tapEnabled]
  rw [h.settled, settle_draw, enabled, gateComputed_dta, first]
  split <;> rfl

/-- R28: what an enabled tap detector makes of its record at a gate's tap flow. -/
def Dta.tapAt (d : Dta) (flow : Nat) : Dta :=
  if d.asks .tap then
    if flow < 150 then if 3 ≤ d.stopRun then d.setTap false else { d with stopRun := d.stopRun + 1 }
    else { d with stopRun := 0 }
  else if 200 ≤ flow then if 1 ≤ d.startRun then d.setTap true else { d with startRun := d.startRun + 1 }
  else { d with startRun := 0 }

theorem judgeTap_dta (enabled : s.tapEnabled = true) : s.judgeTap.dta = s.dta.tapAt s.mfe.tapFlow := by
  unfold State.judgeTap
  rw [if_pos enabled]
  simp only [Dta.tapAt, Nat.add_one_le_add_one_iff]

theorem gate_tap {turbine tacho : List Bool} (h : Follows ((s.gateEnded turbine tacho).gateComputed s.servesDhw) t) :
    let d := if s.tapEnabled then s.dta.tapAt t.mfe.tapFlow else s.dta.setTap false
    t.dta.asks .tap = d.asks .tap ∧ t.dta.startRun = d.startRun ∧ t.dta.stopRun = d.stopRun := by
  have flow : t.mfe.tapFlow = (s.gateTaken turbine tacho).mfe.tapFlow := by rw [(gate_ends h).mfe]
  refine tap_of_draw ((gate_draw h).trans ?_)
  split
  · next enabled =>
    rw [judgeTap_dta ((gateTaken_tapEnabled s turbine tacho).trans enabled), gateTaken_dta, flow]
  · rfl

/-- R28: each branch of the tap detector, by its request, the tap flow and its run. -/
theorem tapAt_start {d : Dta} {flow : Nat} (off : d.asks .tap = false) (high : 200 ≤ flow) (run : 1 ≤ d.startRun) :
    d.tapAt flow = d.setTap true := by
  unfold Dta.tapAt
  rw [if_neg (by simp [off]), if_pos high, if_pos run]

theorem tapAt_starting {d : Dta} {flow : Nat} (off : d.asks .tap = false) (high : 200 ≤ flow) (run : d.startRun = 0) :
    d.tapAt flow = { d with startRun := 1 } := by
  unfold Dta.tapAt
  rw [if_neg (by simp [off]), if_pos high, if_neg (by omega), run]

theorem tapAt_silent {d : Dta} {flow : Nat} (off : d.asks .tap = false) (low : flow < 200) :
    d.tapAt flow = { d with startRun := 0 } := by
  unfold Dta.tapAt
  rw [if_neg (by simp [off]), if_neg (by omega)]

theorem tapAt_stop {d : Dta} {flow : Nat} (asks : d.asks .tap = true) (low : flow < 150) (run : 3 ≤ d.stopRun) :
    d.tapAt flow = d.setTap false := by
  unfold Dta.tapAt
  rw [if_pos asks, if_pos low, if_pos run]

theorem tapAt_stopping {d : Dta} {flow : Nat} (asks : d.asks .tap = true) (low : flow < 150) (run : d.stopRun < 3) :
    d.tapAt flow = { d with stopRun := d.stopRun + 1 } := by
  unfold Dta.tapAt
  rw [if_pos asks, if_pos low, if_neg (by omega)]

theorem tapAt_drawing {d : Dta} {flow : Nat} (asks : d.asks .tap = true) (high : 150 ≤ flow) :
    d.tapAt flow = { d with stopRun := 0 } := by
  unfold Dta.tapAt
  rw [if_pos asks, if_neg (by omega)]

theorem gateTaken_mfe (s : State) (turbine tacho : List Bool) : (s.gateTaken turbine tacho).mfe =
    { s.mfe.endGate turbine tacho s.sto.trim.turbineK with
      goodGates := if overRange (s.mfe.turbineCount turbine) || overRange (s.mfe.tachoCount tacho) then 0
        else min 40 (s.mfe.goodGates + 1) } := judgeA08_mfe _ _

/-- R18 to R21: what the counts of a gate give. -/
structure GateCounted (s : State) (nt nf : Nat) (t : State) : Prop where
  counters : t.mfe.turbineCounter = 0 ∧ t.mfe.tachoCounter = 0
  goodTurbine : nt < 275 → t.mfe.turbineGates = pushWindow 4 s.mfe.turbineGates nt
    ∧ t.mfe.tapFlow = tapFlowOf (pushWindow 4 s.mfe.turbineGates nt) s.sto.trim.turbineK
  wildTurbine : 275 ≤ nt → t.mfe.turbineGates = s.mfe.turbineGates ∧ t.mfe.tapFlow = s.mfe.tapFlow
  goodTacho : nf < 275 → t.mfe.fanSpeed = nf * 120
  wildTacho : 275 ≤ nf → t.mfe.fanSpeed = s.mfe.fanSpeed
  wild : 275 ≤ nt ∨ 275 ≤ nf → t.isActive .a08 = true ∧ t.mfe.goodGates = 0
  good : nt < 275 → nf < 275 → t.mfe.goodGates = min 40 (s.mfe.goodGates + 1)
    ∧ t.isActive .a08 = (s.isActive .a08 && decide (s.mfe.goodGates + 1 < 40))
  others : ∀ k, k ≠ .a08 → t.isActive k = s.isActive k
  rest : t.mfe.ntc = s.mfe.ntc ∧ t.mfe.flameOn = s.mfe.flameOn ∧ t.mfe.pressValue = s.mfe.pressValue

theorem gateTaken_counted (s : State) (turbine tacho : List Bool) :
    GateCounted s (s.mfe.turbineCount turbine) (s.mfe.tachoCount tacho) (s.gateTaken turbine tacho) := by
  have active (k : FaultKey) := judgeA08_isActive
    { s with mfe := s.mfe.endGate turbine tacho s.sto.trim.turbineK }
    (overRange (s.mfe.turbineCount turbine) || overRange (s.mfe.tachoCount tacho)) k
  change ∀ k, (s.gateTaken turbine tacho).isActive k = _ at active
  have mfe := gateTaken_mfe s turbine tacho
  constructor
  case counters => rw [mfe]; exact ⟨rfl, rfl⟩
  case goodTurbine =>
    intro good
    have inRange := (overRange_false _).2 good
    have gates : s.mfe.nextGates (s.mfe.turbineCount turbine) = pushWindow 4 s.mfe.turbineGates (s.mfe.turbineCount turbine) :=
      if_neg (by simp [inRange])
    rw [mfe, ← gates]
    exact ⟨rfl, if_neg (by simp [inRange])⟩
  case wildTurbine =>
    intro wild
    have beyond := (overRange_iff _).2 wild
    rw [mfe]
    exact ⟨if_pos beyond, if_pos beyond⟩
  case goodTacho =>
    intro good
    rw [mfe]
    exact if_neg (by simp [(overRange_false _).2 good])
  case wildTacho =>
    intro wild
    rw [mfe]
    exact if_pos ((overRange_iff _).2 wild)
  case wild =>
    intro wild
    have beyond : (overRange (s.mfe.turbineCount turbine) || overRange (s.mfe.tachoCount tacho)) = true := by
      rw [Bool.or_eq_true, overRange_iff, overRange_iff]
      exact wild
    rw [active, mfe, beyond]
    exact ⟨rfl, rfl⟩
  case good =>
    intro turbineGood tachoGood
    have inRange : (overRange (s.mfe.turbineCount turbine) || overRange (s.mfe.tachoCount tacho)) = false := by
      rw [(overRange_false _).2 turbineGood, (overRange_false _).2 tachoGood, Bool.or_false]
    rw [active, mfe, inRange]
    exact ⟨rfl, rfl⟩
  case others =>
    intro k other
    rw [active, if_neg other]
    rfl
  case rest => rw [mfe]; exact ⟨rfl, rfl, rfl⟩

theorem GateCounted.ends {nt nf : Nat} {u : State} (h : GateCounted s nt nf t) (e : EndsFrom t u) : GateCounted s nt nf u := by
  obtain ⟨counters, goodTurbine, wildTurbine, goodTacho, wildTacho, wild, good, others, rest⟩ := h
  constructor
  case wild => rw [e.isActive, e.mfe]; exact wild
  case good => rw [e.isActive, e.mfe]; exact good
  case others => exact fun k other => (e.isActive k).trans (others k other)
  all_goals rw [e.mfe]; assumption

theorem Band.judge_eq (b : Band) (isIn : Bool) : b.judge isIn =
    { b with inBand := isIn, inRun := if isIn then b.inRun else 0, outRun := if isIn then 0 else b.outRun } := by
  cases isIn <;> rfl

/-- Settles O29, from the counts, the tap detector's record and the band judgement at a gate's end. -/
theorem gateEndTakesThePulses : Obligations.GateEndTakesThePulses := by
  refine ⟨fun s turbine tacho on => ?counts, fun s turbine tacho on => ?tap, fun s turbine tacho on other => ?order,
    fun v => ?band⟩
  case counts =>
    intro edges nt nf gates
    obtain ⟨t, run, follows⟩ := exec_pulseGateEnd turbine tacho on
    have counted := (gateTaken_counted s turbine tacho).ends (gate_ends follows)
    have window : pushWindow 4 s.mfe.turbineGates nt = gates := pushWindow_drop 3 _ _
    have taken : s.mfe.turbineCount turbine = nt ∧ s.mfe.tachoCount tacho = nf := by
      unfold Mfe.turbineCount Mfe.tachoCount
      rw [risingEdges_eq, risingEdges_eq]
      exact ⟨rfl, rfl⟩
    rw [taken.1, taken.2] at counted
    obtain ⟨⟨turbineZero, tachoZero⟩, goodTurbine, wildTurbine, goodTacho, wildTacho, wild, good, others, rest⟩ := counted
    rw [window] at goodTurbine
    exact ⟨t, run, turbineZero, tachoZero, goodTurbine, wildTurbine, goodTacho, wildTacho, wild, good, others, rest⟩
  case tap =>
    intro enabled
    obtain ⟨t, run, follows⟩ := exec_pulseGateEnd turbine tacho on
    have tap := gate_tap follows
    have enabled_iff : s.tapEnabled = true ↔ enabled := by simp [State.tapEnabled, enabled]
    refine ⟨t, run, fun e off high runs => ?_, fun e off high runs => ?_, fun e off low => ?_, fun e asks low runs => ?_,
      fun e asks low runs => ?_, fun e asks high => ?_, fun disabled => ?_⟩
    · rwa [if_pos (enabled_iff.2 e), tapAt_start off high runs] at tap
    · rw [if_pos (enabled_iff.2 e), tapAt_starting off high runs] at tap
      exact ⟨tap.1.trans off, tap.2⟩
    · rw [if_pos (enabled_iff.2 e), tapAt_silent off low] at tap
      exact ⟨tap.1.trans off, tap.2⟩
    · rwa [if_pos (enabled_iff.2 e), tapAt_stop asks low runs] at tap
    · rw [if_pos (enabled_iff.2 e), tapAt_stopping asks low runs] at tap
      exact ⟨tap.1.trans asks, tap.2⟩
    · rw [if_pos (enabled_iff.2 e), tapAt_drawing asks high] at tap
      exact ⟨tap.1.trans asks, tap.2⟩
    · rwa [if_neg (fun e => disabled (enabled_iff.1 e))] at tap
  case order =>
    intro wild v
    obtain ⟨t, run, follows⟩ := exec_pulseGateEnd turbine tacho on
    have unserved : s.servesDhw = false := by
      unfold State.servesDhw
      rcases other with state | mode
      · simp [state]
      · simp [mode]
    rw [unserved, gateComputed_unserved] at follows
    exact ⟨t, run, follows⟩
  case band =>
    intro isIn
    have kept (q : SeqState) : q.keepsBand = true
        ↔ q ∈ [.prePurge, .ignitionSpeed, .interPurge, .safetyTime, .stabilise, SeqState.running] := by cases q <;> decide
    refine ⟨fun keeps => ?_, fun rest => ?_⟩
    · unfold State.judgeFan Bsq.judgeBand
      rw [if_pos ((kept _).2 keeps)]
      rw [Band.judge_eq]
      rfl
    · unfold State.judgeFan Bsq.judgeBand
      rw [if_neg (rest ∘ (kept _).1)]

end Sys2Proof.Machine

/-! SUPPORT. The burner sequencer's own states (R67 to R85): what a change of state writes, RUNNING as it is entered, and a burn
as it begins. -/

namespace Sys2Proof.Machine

variable {s t u : State}

/-! ### A change to a state without gas -/

/-- The output channels as a state without gas is entered. -/
theorem goto_ocu (s : State) {q : SeqState} (shut : q.gasOpen = false) : (s.goto q).ocu =
    Ocu.commandFan { (s.ocu.closeValve .gv1).closeValve .gv2 with
      spark := ((s.ocu.closeValve .gv1).closeValve .gv2).spark.stop }
      (stateFanTarget s.sto.table (purgeOnEntry s.bsq s.sto.table q) (s.leaveFor q).fre.lastRate q) := by
  rw [goto_eq_shutFor s shut]
  rfl

/-- The sequencer's record as a state without gas is entered. -/
theorem goto_bsq (s : State) {q : SeqState} (shut : q.gasOpen = false) : (s.goto q).bsq =
    { s.bsq.enter s.sto.table q with
      gasOpen := false, spark := false
      fanTarget := stateFanTarget s.sto.table (purgeOnEntry s.bsq s.sto.table q) (s.leaveFor q).fre.lastRate q
      band := (s.goto q).bsq.band } := by
  rw [goto_eq_shutFor s shut]
  unfold State.setFanTarget Bsq.judgeBand
  dsimp only
  split <;> rfl

/-- R68, R70 to R72: a state without gas is entered. -/
theorem goto_enters (s : State) {q : SeqState} (shut : q.gasOpen = false) : EntersState q s (s.goto q) where
  touches := goto_touches s q
  ends := goto_endsFrom s q
  state := goto_state s q
  timeIn := goto_timeIn s q
  gas _ := goto_gasOff s shut
  spark _ := goto_sparkOff s shut
  fan := goto_fan s q

/-- A state that is neither a gas state nor RUNNING is left without a change of the other blocks. -/
theorem leaveFor_quiet (s : State) (q : SeqState) (old : s.bsq.state.gasOpen = false) : s.leaveFor q = s := by
  have notRunning : s.bsq.state ≠ .running := by intro e; rw [e] at old; exact Bool.noConfusion old
  simp [State.leaveFor, old, notRunning]

theorem goto_quiet (s : State) (q : SeqState) (old : s.bsq.state.gasOpen = false) :
    (s.goto q).dta = s.dta ∧ (s.goto q).fre = s.fre ∧ (s.goto q).mfe = s.mfe := by
  rw [goto_dta, goto_fre, goto_mfe, leaveFor_quiet s q old]
  exact ⟨rfl, rfl, rfl⟩

theorem goto_quiet_touches (s : State) (q : SeqState) (old : s.bsq.state.gasOpen = false) :
    Touches [.bsq, .ocu] s (s.goto q) := by
  obtain ⟨dta, fre, mfe⟩ := goto_quiet s q old
  have touches := goto_touches s q
  exact { touches with
    mfe := fun _ => mfe
    dta := fun _ => dta
    fre := fun _ => fre
    bsq := fun no => absurd (List.mem_cons_self ..) no
    ocu := fun no => absurd (by decide) no
    flt := fun _ => touches.flt (by decide)
    rlc := fun _ => touches.rlc (by decide)
    prt := fun _ => touches.prt (by decide)
    sto := fun _ => touches.sto (by decide)
    clock := fun _ => touches.clock (by decide) }

theorem ChannelRecord.stop_tripCauses (r : ChannelRecord) : r.stop.tripCauses = r.tripCauses := by
  unfold ChannelRecord.stop
  dsimp only
  split <;> rfl

theorem Ocu.closeValve_tripCauses (o : Ocu) (v : GasValve) (ch : Channel) :
    ((o.closeValve v).get ch).tripCauses = (o.get ch).tripCauses := by
  by_cases own : ch = valveChannel v
  · subst own
    unfold Ocu.closeValve
    dsimp only
    split
    · cases v <;> rfl
    · rw [Ocu.get_set]
  · rw [Ocu.closeValve_get_other o v ch own]

/-- The three channels that a burn re-arms, as a state without gas is entered: none is ACTIVE, and each keeps its causes. -/
theorem goto_rearmChannel (s : State) {q : SeqState} (shut : q.gasOpen = false) {ch : Channel} (isRearmed : ch ∈ rearmChannels) :
    ((s.goto q).ocu.get ch).state ≠ .active ∧ ((s.goto q).ocu.get ch).tripCauses = (s.ocu.get ch).tripCauses := by
  have gas := goto_gasOff s shut
  have spark := goto_sparkOff s shut
  have closed (ch : Channel) : (((s.ocu.closeValve .gv1).closeValve .gv2).get ch).tripCauses = (s.ocu.get ch).tripCauses :=
    (Ocu.closeValve_tripCauses _ .gv2 ch).trans (Ocu.closeValve_tripCauses _ .gv1 ch)
  simp only [rearmChannels, List.mem_cons, List.not_mem_nil, or_false] at isRearmed
  rcases isRearmed with rfl | rfl | rfl
  · exact ⟨spark.2, by rw [goto_ocu s shut]; exact (ChannelRecord.stop_tripCauses _).trans (closed .spark)⟩
  · exact ⟨gas.2.1, by rw [goto_ocu s shut]; exact closed .gv1⟩
  · exact ⟨gas.2.2, by rw [goto_ocu s shut]; exact closed .gv2⟩

/-! ### RUNNING is entered (R84, R48) -/

/-- RUNNING with the gas and the gas channels as they were, the mode served, its caps formed, and the fan at the rate's speed. -/
structure Firing (s u : State) : Prop where
  state : u.bsq.state = .running
  timer : u.bsq.timer = none
  spark : u.bsq.spark = false
  gas : u.bsq.gasOpen = s.bsq.gasOpen ∧ u.ocu.gv1 = s.ocu.gv1 ∧ u.ocu.gv2 = s.ocu.gv2
  served : u.fre.served = s.dta.plan.mode
  caps : u.fre.caps = s.startCaps ∧ u.formedCaps = s.startCaps
  fan : u.bsq.fanTarget = s.sto.table.speedFor u.fre.lastRate
  dta : u.dta = s.dta
  mfe : u.mfe = s.mfe
  sto : u.sto = s.sto

/-- What a new fan target leaves of the sequencer's record. -/
theorem setFanTarget_bsq (s : State) (r : Nat) :
    (s.setFanTarget r).bsq = { s.bsq with fanTarget := r, band := (s.setFanTarget r).bsq.band } := by
  unfold State.setFanTarget Bsq.judgeBand
  dsimp only
  split <;> rfl

theorem fired_eq (s : State) : s.fired =
    { ({ s with bsq := s.bsq.enter s.sto.table .running } : State).commandSpark false with fre := s.startFre } := by
  unfold State.fired
  rw [leaveFor_running s]
  rfl

theorem underway_eq (s : State) : s.underway =
    State.setFanTarget { ({ s with bsq := s.bsq.enter s.sto.table .running } : State).commandSpark false with fre := s.startFre }
      (s.sto.table.speedFor s.startFre.lastRate) := by
  unfold State.underway
  rw [fired_eq]
  rfl

theorem underway_fre (s : State) : s.underway.fre = s.startFre := by rw [underway_eq]; rfl

theorem underway_firing (s : State) : Firing s s.underway := by
  have bsq := setFanTarget_bsq { ({ s with bsq := s.bsq.enter s.sto.table .running } : State).commandSpark false with
    fre := s.startFre } (s.sto.table.speedFor s.startFre.lastRate)
  rw [← underway_eq] at bsq
  have other := underway_eq s
  constructor
  case state => rw [bsq]; rfl
  case timer => rw [bsq]; rfl
  case spark => rw [bsq]; rfl
  case gas => rw [bsq, other]; exact ⟨rfl, rfl, rfl⟩
  case fan => rw [bsq, other]; rfl
  all_goals rw [other]
  · rfl
  · exact ⟨rfl, rfl⟩
  all_goals rfl

theorem Firing.fre (h : Firing s u) (x : Fre) (served : x.served = u.fre.served) (lastServed : x.lastServed = u.fre.lastServed)
    (caps : x.caps = u.fre.caps) (lastRate : x.lastRate = u.fre.lastRate) : Firing s { u with fre := x } where
  state := h.state
  timer := h.timer
  spark := h.spark
  gas := h.gas
  served := served.trans h.served
  caps := ⟨caps.trans h.caps.1, (formedCaps_congr (s := u) (t := { u with fre := x }) served lastServed rfl rfl rfl rfl).trans h.caps.2⟩
  fan := h.fan.trans (congrArg _ lastRate.symm)
  dta := h.dta
  mfe := h.mfe
  sto := h.sto

/-- R65: a rate that is taken in RUNNING carries the fan with it. -/
theorem Firing.takeRate (h : Firing s u) (r : Int × LimitReason) : Firing s (u.takeRate r) := by
  have fre := takeRate_fre u r
  have caps : (u.takeRate r).formedCaps = u.formedCaps :=
    formedCaps_congr (by rw [fre]) (by rw [fre]) (by rw [(takeRate_touches u r).sto (by decide)])
      (by rw [(takeRate_touches u r).sto (by decide)]) (by rw [(takeRate_touches u r).mfe (by decide)])
      (by rw [(takeRate_touches u r).dta (by decide)])
  rw [takeRate_eq] at fre caps ⊢
  dsimp only at fre caps ⊢
  split at caps
  · next same =>
    rw [if_pos same] at fre ⊢
    exact { h with
      served := h.served, caps := ⟨h.caps.1, caps.trans h.caps.2⟩, fan := h.fan.trans (congrArg _ same.symm) }
  · next other =>
    rw [if_pos h.state] at caps fre
    rw [if_neg other, if_pos h.state]
    have bsq := setFanTarget_bsq { u with fre := { u.fre with lastRate := r.1, reason := r.2 } } (u.sto.table.speedFor r.1)
    exact {
      state := by rw [bsq]; exact h.state
      timer := by rw [bsq]; exact h.timer
      spark := by rw [bsq]; exact h.spark
      gas := by rw [bsq]; exact h.gas
      served := h.served
      caps := ⟨h.caps.1, caps.trans h.caps.2⟩
      fan := by rw [bsq, ← h.sto]; rfl
      dta := h.dta
      mfe := h.mfe
      sto := h.sto }

theorem boundedRate_value (c : Caps) (a : ActiveCaps) (rmin wanted : Int) (ramp : Option Int) (own : LimitReason) :
    (boundedRate c a rmin wanted ramp own).1
      = max rmin (match ramp with | none => min wanted c.least | some l => min (min wanted c.least) l) := by
  unfold boundedRate
  cases ramp <;> dsimp only <;> split <;> dsimp only <;> omega

theorem startRate_value (s : State) : s.startRate.1 =
    if s.startCaps.least < s.sto.table.ignitionRate then max s.sto.table.rmin s.startCaps.least
    else s.sto.table.ignitionRate := by
  unfold State.startRate
  split
  · rw [boundedRate_value]
    dsimp only
    rw [min_self]
  · rfl

/-- R48, R63: the record of RUNNING as its mode's controller has started. -/
structure FiringStarted (s u : State) : Prop extends Firing s u where
  rate : s.dta.plan.mode ≠ .service → u.fre.lastRate = s.startRate.1
  selection : s.dta.plan.mode = .service →
    u.fre.lastRate = max s.sto.table.rmin (min s.requestedRate s.startCaps.least)
  interval : s.dta.plan.mode = .ch ∨ s.dta.plan.mode = .service → u.fre.chTimer = some 1000
  dhw : s.dta.plan.mode = .dhw → u.fre.dhwI = 0

theorem enterRunning_started (s : State) : FiringStarted s s.enterRunning := by
  have firing := underway_firing s
  have rate : s.underway.fre.lastRate = s.startRate.1 := by rw [underway_fre]; rfl
  rw [enterRunning_eq]
  cases mode : s.dta.plan.mode with
  | none =>
    exact { firing with
      rate := fun _ => rate
      selection := fun e => nomatch mode.symm.trans e
      interval := fun e => e.elim (fun e => nomatch mode.symm.trans e) (fun e => nomatch mode.symm.trans e)
      dhw := fun e => nomatch mode.symm.trans e }
  | ch =>
    exact { firing.fre { s.underway.bumplessLoad.fre with chTimer := some 1000 } rfl rfl rfl rfl with
      rate := fun _ => rate
      selection := fun e => nomatch mode.symm.trans e
      interval := fun _ => rfl
      dhw := fun e => nomatch mode.symm.trans e }
  | dhw =>
    exact { firing.fre { s.underway.fre with dhwI := 0 } rfl rfl rfl rfl with
      rate := fun _ => rate
      selection := fun e => nomatch mode.symm.trans e
      interval := fun e => e.elim (fun e => nomatch mode.symm.trans e) (fun e => nomatch mode.symm.trans e)
      dhw := fun _ => rfl }
  | service =>
    have asked : s.underway.requestedRate = s.requestedRate := by
      unfold State.requestedRate
      rw [firing.dta, firing.sto]
    have taken : s.underway.serviceForm.fre.lastRate = max s.sto.table.rmin (min s.requestedRate s.startCaps.least) := by
      unfold State.serviceForm
      rw [takeRate_fre, boundedRate_value, firing.caps.2, asked, firing.sto]
    exact { (firing.takeRate _).fre { s.underway.serviceForm.fre with chTimer := some 1000 } rfl rfl rfl rfl with
      rate := fun other => absurd mode other
      selection := fun _ => taken
      interval := fun _ => rfl
      dhw := fun e => nomatch mode.symm.trans e }

/-! ### A burn begins (R67, R74, R75) -/

theorem TripSet.nonempty_iff (x : TripSet) : x.nonempty = false ↔ x = ⟨false, false, false⟩ := by
  obtain ⟨a, b, c⟩ := x
  cases a <;> cases b <;> cases c <;> decide

/-- R75: PRE-CHECK as a burn enters it. -/
def State.burnEntered (s : State) : State := State.goto { s with bsq := s.bsq.beginBurn } .preCheck

theorem startBurn_eq (s : State) : s.startBurn =
    if s.burnEntered.rearmRefused then s.burnEntered.askRearm.goto .idle else s.burnEntered.askRearm := rfl

theorem rearmResult_of_lines {r : ChannelRecord} (rest : r.state ≠ .active) (lines : TripSet) :
    r.rearmResult lines = if lines.nonempty then .refused else .pending := if_neg rest

theorem askRearm_asked {r : ChannelRecord} (rest : r.state ≠ .active) {lines : TripSet} (free : lines.nonempty = false) :
    (r.askRearm lines).rearmPending = true := by
  unfold ChannelRecord.askRearm
  rw [rearmResult_of_lines rest, free]
  rfl

/-- The three channels are at rest, with the causes and the lines that the part had before the burn. -/
structure BurnEntered (s u : State) : Prop where
  bsq : u.bsq = { s.bsq.beginBurn.enter s.sto.table .preCheck with
    gasOpen := false, spark := false, fanTarget := 0, band := u.bsq.band }
  lines : u.ocu.lines = s.ocu.lines
  rest : ∀ ch ∈ rearmChannels, (u.ocu.get ch).state ≠ .active ∧ (u.ocu.get ch).tripCauses = (s.ocu.get ch).tripCauses
  touches : Touches [.bsq, .ocu] s u

theorem burnEntered_frame (idle : s.bsq.state = .idle) : BurnEntered s s.burnEntered where
  bsq := goto_bsq { s with bsq := s.bsq.beginBurn } rfl
  lines := (goto_endsFrom { s with bsq := s.bsq.beginBurn } .preCheck).lines
  rest _ isRearmed := goto_rearmChannel { s with bsq := s.bsq.beginBurn } rfl isRearmed
  touches := ((touches_bsq s _).mono (by decide)).trans (goto_quiet_touches _ _ (congrArg SeqState.gasOpen idle))

namespace BurnEntered
variable (h : BurnEntered s u)
include h

theorem rearmResult {ch : Channel} (isRearmed : ch ∈ rearmChannels) :
    (u.ocu.get ch).rearmResult u.ocu.lines = if s.ocu.lines.nonempty then .refused else .pending := by
  rw [rearmResult_of_lines (h.rest ch isRearmed).1, h.lines]

theorem refusing_free (free : s.ocu.lines.nonempty = false) : u.ocu.refusing = [] := by
  refine List.filter_eq_nil_iff.2 fun ch isRearmed => ?_
  rw [h.rearmResult isRearmed, free]
  decide

theorem refusing_active (on : s.ocu.lines.nonempty = true) : u.ocu.refusing = rearmChannels := by
  refine List.filter_eq_self.2 fun ch isRearmed => ?_
  rw [h.rearmResult isRearmed, on]
  rfl

/-- R75, R108: with no trip line active every re-arm is pending, and none is done yet. -/
theorem asked_free (free : s.ocu.lines.nonempty = false) :
    u.askRearm.bsq = { u.bsq with rearmRefusals := [], sparkRearmed := false, valveRearmed := ⟨false, false⟩ }
    ∧ ∀ ch ∈ rearmChannels, (u.askRearm.ocu.get ch).rearmPending = true ∧ (u.askRearm.ocu.get ch).state ≠ .active := by
  have waits (ch : Channel) (isRearmed : ch ∈ rearmChannels) : (u.ocu.get ch).rearmResult u.ocu.lines = .pending := by
    rw [h.rearmResult isRearmed, free]
    rfl
  have spark : u.ocu.spark.rearmResult u.ocu.lines = .pending := waits .spark (by decide)
  have gv1 : u.ocu.gv1.rearmResult u.ocu.lines = .pending := waits .gv1 (by decide)
  have gv2 : u.ocu.gv2.rearmResult u.ocu.lines = .pending := waits .gv2 (by decide)
  constructor
  · unfold State.askRearm
    rw [h.refusing_free free, spark, gv1, gv2]
    rfl
  · intro ch isRearmed
    have asked : u.askRearm.ocu.get ch = (u.ocu.get ch).askRearm u.ocu.lines := by
      simp only [rearmChannels, List.mem_cons, List.not_mem_nil, or_false] at isRearmed
      rcases isRearmed with rfl | rfl | rfl <;> rfl
    have rest := (h.rest ch isRearmed).1
    rw [asked]
    exact ⟨askRearm_asked rest (h.lines ▸ free), by rwa [ChannelRecord.askRearm_state]⟩

/-- R108: with a trip line active every re-arm is refused, and reported with its channel's causes and the lines. -/
theorem asked_refused (on : s.ocu.lines.nonempty = true) : u.askRearm.bsq.rearmRefusals =
    [.spark, .gv1, Channel.gv2].map fun ch => ⟨ch, (s.ocu.get ch).tripCauses, s.ocu.lines⟩ := by
  change u.ocu.refusing.map u.ocu.refusal = _
  rw [h.refusing_active on]
  refine List.map_congr_left fun ch isRearmed => ?_
  unfold Ocu.refusal
  rw [(h.rest ch isRearmed).2, h.lines]

end BurnEntered

theorem askRearm_fewTouches (s : State) : Touches [.bsq, .ocu] s s.askRearm :=
  ((touches_ocu s s.askRearm.ocu).mono (l := [.ocu]) (m := [.bsq, .ocu]) (by decide)).trans
    ((touches_bsq _ s.askRearm.bsq).mono (by decide))

/-- R67, R74, R75: PRE-CHECK with its re-arms pending, as a burn begins with no trip line active. -/
theorem startBurn_free (idle : s.bsq.state = .idle) (free : s.ocu.lines.nonempty = false) :
    s.startBurn = s.burnEntered.askRearm := by
  rw [startBurn_eq]
  refine if_neg ?_
  unfold State.rearmRefused
  rw [(burnEntered_frame idle).refusing_free free]
  decide

/-- R74, R108: IDLE again, as a burn begins with a trip line active. -/
theorem startBurn_refused (idle : s.bsq.state = .idle) (on : s.ocu.lines.nonempty = true) :
    s.startBurn = s.burnEntered.askRearm.goto .idle := by
  rw [startBurn_eq]
  refine if_pos ?_
  unfold State.rearmRefused
  rw [(burnEntered_frame idle).refusing_active on]
  rfl

/-- R74: a request met in IDLE begins a burn. -/
theorem judgeRequest_burn (idle : s.bsq.state = .idle) (request : s.dta.plan.request = true) : s.judgeRequest = s.startBurn := by
  unfold State.judgeRequest
  rw [if_pos request, if_pos idle]

/-- Settles O34, state by state, from what a change of state writes. -/
theorem timedStatesLeadOn : Obligations.TimedStatesLeadOn := by
  refine ⟨fun s c on event => ?purge, fun s on state => ?stabilise, fun s on state => ?post, fun s idle request => ?begin,
    fun s state => ?preCheck⟩
  case purge =>
    have shut : s.bsq.state.gasOpen = false := by rcases event with ⟨-, state⟩ | ⟨-, state⟩ <;> rw [state] <;> rfl
    have run : ∃ t, exec c s = .next t ∧ Follows (s.goto .ignitionSpeed) t := by
      rcases event with ⟨rfl, state⟩ | ⟨rfl, state⟩
      · exact exec_effect (c := .prePurgeTimeReached) on rfl (if_pos state)
      · exact exec_effect (c := .interPurgeTimeReached) on rfl (if_pos state)
    obtain ⟨t, run, follows⟩ := run
    have bsq := goto_bsq s (q := .ignitionSpeed) rfl
    refine ⟨_, t, run, follows, goto_enters s rfl, ?_, ?_, ?_, ?_, ?_, goto_quiet s _ shut⟩ <;> rw [bsq] <;> rfl
  case stabilise =>
    obtain ⟨t, run, follows⟩ := exec_effect (c := .stabilisationTimeExpiry) on rfl (if_pos state)
    have started := enterRunning_started s
    have caps := started.caps
    refine ⟨_, t, run, follows, enterRunning_touches s, started.state, started.timer, started.spark, started.gas.1,
      started.gas.2.1, started.gas.2.2, started.served, caps.1.trans caps.2.symm, fun other => ?_, fun service => ?_,
      started.fan, started.interval, started.dhw, started.dta, started.mfe⟩
    · rw [started.rate other, startRate_value, caps.2]
    · rw [started.selection service, caps.2]
  case post =>
    obtain ⟨t, run, follows⟩ := exec_effect (c := .postPurgeTimeExpiry) on rfl (if_pos state)
    have bsq := goto_bsq s (q := .idle) rfl
    refine ⟨_, t, run, follows, goto_enters s rfl, fun none => ?_, goto_quiet s _ (by rw [state]; rfl)⟩
    rw [bsq]
    exact if_pos none
  case begin =>
    intro u
    have entered := burnEntered_frame idle
    have burn : u = s.startBurn := judgeRequest_burn idle request
    have entry := entered.touches.trans (askRearm_fewTouches s.burnEntered)
    rw [burn]
    cases on : s.ocu.lines.nonempty with
    | false =>
      obtain ⟨bsq, asked⟩ := entered.asked_free on
      have lines := (TripSet.nonempty_iff _).1 on
      rw [startBurn_free idle on, bsq, entered.bsq]
      exact ⟨entry, rfl, rfl, rfl, rfl, rfl, fun _ => ⟨rfl, rfl, rfl, rfl, rfl, rfl, rfl, asked⟩, fun other => absurd lines other⟩
    | true =>
      have lines : s.ocu.lines ≠ ⟨false, false, false⟩ := fun e => nomatch ((TripSet.nonempty_iff _).2 e).symm.trans on
      have bsq := goto_bsq s.burnEntered.askRearm (q := .idle) rfl
      have refusals := entered.asked_refused on
      have state : s.burnEntered.askRearm.bsq.state.gasOpen = false := by
        change s.burnEntered.bsq.state.gasOpen = false
        rw [entered.bsq]
        rfl
      have begun : s.burnEntered.askRearm.bsq.attempts = 0 ∧ s.burnEntered.askRearm.bsq.recycleUsed = false
          ∧ s.burnEntered.askRearm.bsq.gasOpened = false := by
        change s.burnEntered.bsq.attempts = 0 ∧ s.burnEntered.bsq.recycleUsed = false ∧ s.burnEntered.bsq.gasOpened = false
        rw [entered.bsq]
        exact ⟨rfl, rfl, rfl⟩
      rw [startBurn_refused idle on, bsq]
      exact ⟨entry.trans (goto_quiet_touches _ _ state), begun.1, begun.2.1, begun.2.2, rfl, rfl, fun e => absurd e lines,
        fun _ => ⟨rfl, rfl, refusals⟩⟩
  case preCheck =>
    intro met
    have done : s.preCheckDone = true ↔ met := by
      have both (x : ValveSet Bool) : x = ⟨true, true⟩ ↔ x.gv1 = true ∧ x.gv2 = true := by
        obtain ⟨a, b⟩ := x
        cases a <;> cases b <;> decide
      simp only [State.preCheckDone, Bool.and_eq_true, Bool.not_eq_true', decide_eq_true_eq, met, both, and_assoc]
    refine ⟨fun isMet => ?_, fun unmet => if_neg fun ⟨_, isDone⟩ => unmet (done.1 isDone)⟩
    have left : s.judgePreCheck = s.goto .prePurge := if_pos ⟨state, done.2 isMet⟩
    have bsq := goto_bsq s (q := .prePurge) rfl
    rw [left]
    refine ⟨goto_enters s rfl, ?_, ?_, ?_⟩ <;> rw [bsq] <;> rfl

end Sys2Proof.Machine

/-! SUPPORT. Fan-proving failures, the safety time, the flame, trips, and the sequencer's timers (R79 to R97, R109). -/

namespace Sys2Proof.Machine

variable {s t u : State} {c : Instr}

/-! ### Fan-proving failures (R81) -/

/-- R81: what the first and the second failure leave, beside the state that they lead to. -/
theorem provingFailure_few (s : State) {dest : SeqState} (shut : dest.gasOpen = false) (few : s.bsq.provingFailures < 2) :
    (∀ k, k ≠ .b06 → (s.provingFailure dest).isActive k = s.isActive k) ∧ GasOff (s.provingFailure dest)
      ∧ (s.provingFailure dest).bsq.attempts = s.bsq.attempts
      ∧ (s.provingFailure dest).bsq.gasOpened = s.bsq.gasOpened := by
  have below : s.bsq.provingFailures + 1 < 3 := by omega
  simp only [State.provingFailure, below, if_true]
  have key := enterKey_enters { s with bsq := { s.bsq with provingFailures := s.bsq.provingFailures + 1 } } .b06
  have keys := enterKey_isActive { s with bsq := { s.bsq with provingFailures := s.bsq.provingFailures + 1 } } .b06
  generalize State.enterKey _ FaultKey.b06 = m at key keys ⊢
  have bsq := key.touches.bsq (by decide)
  refine ⟨fun k other => ?_, goto_gasOff _ shut, ?_, ?_⟩
  · rw [(goto_touches _ dest).isActive (by decide)]
    exact (keys k).trans ((congrArg (_ || ·) (beq_false_of_ne other)).trans (Bool.or_false _))
  · rw [goto_bsq _ shut]
    change m.bsq.attempts = _
    rw [bsq]
  · rw [goto_bsq _ shut]
    change m.bsq.gasOpened = _
    rw [bsq]

/-- Settles O35, from what the first two failures and the third one leave. -/
theorem fanProvingFailureCountsToThree : Obligations.FanProvingFailureCountsToThree := by
  intro s c dest on free event
  have run : ∃ t, exec c s = .next t ∧ Follows (s.provingFailure dest) t := by
    rcases event with ⟨rfl, state, rfl⟩ | ⟨rfl, state, rfl⟩ | ⟨rfl, state, rfl⟩ | ⟨rfl, gas, rfl⟩
    · exact exec_effect (c := .fanProvingTimeout) on rfl (by unfold State.provingTimeout; rw [state])
    · exact exec_effect (c := .fanProvingTimeout) on rfl (by unfold State.provingTimeout; rw [state])
    · exact exec_effect (c := .fanProvingTimeout) on rfl (by unfold State.provingTimeout; rw [state])
    · exact exec_effect (c := .outOfBandRunTimeout) on rfl (if_pos gas)
  have places : dest.gasOpen = false ∧ s.bsq.state ≠ .lockout := by
    rcases event with ⟨-, state, rfl⟩ | ⟨-, state, rfl⟩ | ⟨-, state, rfl⟩ | ⟨-, gas, rfl⟩
    · exact ⟨rfl, by rw [state]; nofun⟩
    · exact ⟨by split <;> rfl, by rw [state]; nofun⟩
    · exact ⟨rfl, by rw [state]; nofun⟩
    · exact ⟨rfl, fun e => by rw [e] at gas; exact absurd gas nofun⟩
  obtain ⟨t, run, follows⟩ := run
  refine ⟨_, t, run, follows, fun few => ?_, fun many => ?_⟩
  · obtain ⟨state, failures, active, timer, locked⟩ := provingFailure_leads s dest few
    obtain ⟨others, ⟨gas, gv1, gv2⟩, attempts, opened⟩ := provingFailure_few s places.1 few
    exact ⟨state, failures, timer, active, others, gas, gv1, gv2, locked.trans free, attempts, opened⟩
  · rw [provingFailure_locks s dest many]
    exact lockWith_locksOut _ .f10 free places.2

/-! ### SAFETY-TIME (R82, R102, R109) -/

theorem Ocu.openValve_get_other (o : Ocu) (v : GasValve) (t : CombustionTable) {ch : Channel} (other : ch ≠ valveChannel v) :
    (o.openValve v t).get ch = o.get ch := by
  unfold Ocu.openValve
  dsimp only
  split
  · exact Ocu.get_set_other o _ _ _ other
  · rfl
  · cases ch <;> exact Ocu.get_set_other o _ _ _ other

theorem Ocu.openValve_coils_other (o : Ocu) {v w : GasValve} (t : CombustionTable) (other : w ≠ v) :
    (o.openValve v t).coils.get w = o.coils.get w := by
  unfold Ocu.openValve
  dsimp only
  split
  · cases v <;> rfl
  · rfl
  · exact (ValveSet.get_set_other _ _ _ _ other).trans (by cases v <;> rfl)

/-- R102: an open command to an IDLE channel begins its pull-in. -/
theorem Ocu.openValve_idle (o : Ocu) (v : GasValve) (t : CombustionTable) (idle : (o.get (valveChannel v)).state = .idle) :
    ((o.openValve v t).get (valveChannel v)).state = .active ∧ ((o.openValve v t).get (valveChannel v)).phase = some .pullIn
      ∧ ((o.openValve v t).get (valveChannel v)).duty = 1000 ∧ ((o.openValve v t).coils.get v).pullIn = some t.pullIn.toNat := by
  unfold Ocu.openValve
  dsimp only
  rw [idle]
  cases v <;> exact ⟨rfl, rfl, rfl, rfl⟩

/-- R103: a TRIPPED channel ignores an open command. -/
theorem Ocu.openValve_tripped (o : Ocu) (v : GasValve) (t : CombustionTable)
    (tripped : (o.get (valveChannel v)).state = .tripped) : o.openValve v t = o := by
  unfold Ocu.openValve
  dsimp only
  rw [tripped]

/-- R82: SAFETY-TIME as it is entered, before the gas is opened. -/
theorem goto_safetyTime (quiet : s.bsq.state.gasOpen = false) : s.goto .safetyTime =
    ({ s with bsq := s.bsq.enter s.sto.table .safetyTime } : State).setFanTarget
      (s.sto.table.speedFor s.sto.table.ignitionRate) := by
  have left : s.leaveFor .safetyTime = s := leaveFor_quiet s _ quiet
  unfold State.goto
  rw [left]
  rfl

/-- R109: the refused opens, by which of the three channels is TRIPPED. -/
theorem Ocu.refusedOpens_eq (o : Ocu) : o.refusedOpens =
    (match o.gv1.state == .tripped, o.gv2.state == .tripped with
      | true, true => [⟨[.gv1, .gv2], o.gv1.tripCauses.union o.gv2.tripCauses⟩]
      | true, false => [⟨[.gv1], o.gv1.tripCauses⟩]
      | false, true => [⟨[.gv2], o.gv2.tripCauses⟩]
      | false, false => [])
    ++ (if o.spark.state = .tripped then [⟨[.spark], o.spark.tripCauses⟩] else []) := by
  have gv1 : (o.get .gv1).state = o.gv1.state := rfl
  have gv2 : (o.get .gv2).state = o.gv2.state := rfl
  unfold Ocu.refusedOpens
  simp only [List.filter_cons, List.filter_nil, gv1, gv2]
  cases o.gv1.state == .tripped <;> cases o.gv2.state == .tripped <;> rfl

/-- R82: the sequencer's record as SAFETY-TIME has been entered. -/
theorem enterSafetyTime_bsq (quiet : s.bsq.state.gasOpen = false) : s.enterSafetyTime.bsq =
    { s.bsq.enter s.sto.table .safetyTime with
      gasOpen := true, spark := true, gasOpened := true, fanTarget := s.sto.table.speedFor s.sto.table.ignitionRate
      band := s.enterSafetyTime.bsq.band, refusedOpens := s.bsq.refusedOpens ++ s.ocu.refusedOpens } := by
  have bsq := setFanTarget_bsq { s with bsq := s.bsq.enter s.sto.table .safetyTime } (s.sto.table.speedFor s.sto.table.ignitionRate)
  have entered := goto_safetyTime quiet
  have refused : (s.goto .safetyTime).ocu.refusedOpens = s.ocu.refusedOpens := by
    rw [entered, Ocu.refusedOpens_eq, Ocu.refusedOpens_eq s.ocu]
    rfl
  rw [← entered] at bsq
  change { (s.goto .safetyTime).bsq with
    gasOpen := true, spark := true, gasOpened := true
    refusedOpens := (s.goto .safetyTime).bsq.refusedOpens ++ (s.goto .safetyTime).ocu.refusedOpens } = _
  rw [refused, bsq]
  rfl

/-- R70, R71: the output channels as SAFETY-TIME has been entered. -/
theorem enterSafetyTime_ocu (quiet : s.bsq.state.gasOpen = false) : ∃ fan, s.enterSafetyTime.ocu =
    { ((s.ocu.commandFan fan).openValve .gv1 s.sto.table).openValve .gv2 s.sto.table with
      spark := (((s.ocu.commandFan fan).openValve .gv1 s.sto.table).openValve .gv2 s.sto.table).spark.trigger } := by
  refine ⟨s.sto.table.speedFor s.sto.table.ignitionRate, ?_⟩
  unfold State.enterSafetyTime
  rw [goto_safetyTime quiet]
  rfl

theorem openBoth_idle (o : Ocu) (t : CombustionTable) (v : GasValve) (idle : (o.get (valveChannel v)).state = .idle) :
    let x := (o.openValve .gv1 t).openValve .gv2 t
    (x.get (valveChannel v)).state = .active ∧ (x.get (valveChannel v)).phase = some .pullIn
      ∧ (x.get (valveChannel v)).duty = 1000 ∧ (x.coils.get v).pullIn = some t.pullIn.toNat := by
  intro x
  cases v with
  | gv1 =>
    have kept : x.get .gv1 = (o.openValve .gv1 t).get .gv1 := Ocu.openValve_get_other _ .gv2 t nofun
    have coils : x.coils.get .gv1 = (o.openValve .gv1 t).coils.get .gv1 := Ocu.openValve_coils_other _ t nofun
    have opened := o.openValve_idle .gv1 t idle
    simp only [valveChannel] at opened ⊢
    rwa [kept, coils]
  | gv2 =>
    have before : (o.openValve .gv1 t).get .gv2 = o.get .gv2 := Ocu.openValve_get_other _ .gv1 t nofun
    exact Ocu.openValve_idle _ .gv2 t (before ▸ idle)

theorem openBoth_tripped (o : Ocu) (t : CombustionTable) (v : GasValve) (tripped : (o.get (valveChannel v)).state = .tripped) :
    (((o.openValve .gv1 t).openValve .gv2 t).get (valveChannel v)).state = .tripped := by
  cases v with
  | gv1 =>
    rw [o.openValve_tripped .gv1 t tripped]
    exact (congrArg ChannelRecord.state (Ocu.openValve_get_other o .gv2 t (ch := .gv1) nofun)).trans tripped
  | gv2 =>
    have before : (o.openValve .gv1 t).get .gv2 = o.get .gv2 := Ocu.openValve_get_other _ .gv1 t nofun
    rw [Ocu.openValve_tripped _ .gv2 t (before ▸ tripped)]
    exact (congrArg ChannelRecord.state before).trans tripped

theorem openBoth_spark (o : Ocu) (t : CombustionTable) : ((o.openValve .gv1 t).openValve .gv2 t).spark = o.spark :=
  (Ocu.openValve_get_other _ .gv2 t (ch := .spark) nofun).trans (Ocu.openValve_get_other o .gv1 t (ch := .spark) nofun)

theorem ChannelRecord.trigger_rest {r : ChannelRecord} (rest : r.state = .idle ∨ r.state = .held) :
    r.trigger.state = .active ∧ r.trigger.pulseCount = 0 := by
  unfold ChannelRecord.trigger
  rcases rest with state | state <;> rw [state] <;> exact ⟨rfl, rfl⟩

theorem ChannelRecord.trigger_tripped {r : ChannelRecord} (tripped : r.state = .tripped) : r.trigger = r := by
  unfold ChannelRecord.trigger
  rw [tripped]

/-- Settles O36, from the commands to the gas channels and to the spark. -/
theorem safetyTimeOpensTheGas : Obligations.SafetyTimeOpensTheGas := by
  intro s on state flame
  obtain ⟨t, run, follows⟩ := exec_effect (c := .ignitionSpeedRunReached) on rfl (if_pos ⟨state, flame⟩)
  have quiet : s.bsq.state.gasOpen = false := by rw [state]; rfl
  have bsq := enterSafetyTime_bsq quiet
  obtain ⟨fan, ocu⟩ := enterSafetyTime_ocu quiet
  obtain ⟨dta, fre, mfe⟩ := goto_quiet s .safetyTime quiet
  have commanded (v : GasValve) : ((s.ocu.commandFan fan).get (valveChannel v)) = s.ocu.get (valveChannel v) := by
    cases v <;> rfl
  have valve (v : GasValve) : s.enterSafetyTime.ocu.get (valveChannel v)
      = (((s.ocu.commandFan fan).openValve .gv1 s.sto.table).openValve .gv2 s.sto.table).get (valveChannel v) := by
    rw [ocu]
    cases v <;> rfl
  have spark : s.enterSafetyTime.ocu.spark = s.ocu.spark.trigger := by
    rw [ocu]
    exact congrArg ChannelRecord.trigger (openBoth_spark (s.ocu.commandFan fan) s.sto.table)
  refine ⟨_, t, run, follows, enterSafetyTime_touches s, ?_, ?_, ?_, ?_, ?_, ?_, fun v idle => ?_, fun v tripped => ?_,
    fun rest => ?_, fun tripped => ?_, ?_, dta, fre, mfe, ?_⟩
  case refine_7 =>
    have opened := openBoth_idle (s.ocu.commandFan fan) s.sto.table v ((commanded v).symm ▸ idle)
    rw [valve v]
    rw [show s.enterSafetyTime.ocu.coils = _ from congrArg Ocu.coils ocu]
    exact opened
  case refine_8 =>
    rw [valve v]
    exact openBoth_tripped _ _ v ((commanded v).symm ▸ tripped)
  case refine_9 => exact spark ▸ ChannelRecord.trigger_rest rest
  case refine_10 => rw [spark, ChannelRecord.trigger_tripped tripped, tripped]
  case refine_11 =>
    have refused : s.enterSafetyTime.bsq.refusedOpens = s.bsq.refusedOpens ++ s.ocu.refusedOpens :=
      congrArg Bsq.refusedOpens bsq
    exact (refused.trans (congrArg (s.bsq.refusedOpens ++ ·) (Ocu.refusedOpens_eq _))).trans (List.append_assoc ..).symm
  all_goals rw [bsq]
  all_goals rfl

/-! ### The flame is proved (R82) -/

theorem goto_stabilise (s : State) : s.goto .stabilise =
    (({ s.leaveFor .stabilise with bsq := s.bsq.enter s.sto.table .stabilise } : State).commandSpark false).setFanTarget
      (s.sto.table.speedFor s.sto.table.ignitionRate) := rfl

/-- R82: STABILISE as it is entered from SAFETY-TIME. -/
theorem goto_stabilise_eq (state : s.bsq.state = .safetyTime) : s.goto .stabilise =
    (({ s with bsq := s.bsq.enter s.sto.table .stabilise } : State).commandSpark false).setFanTarget
      (s.sto.table.speedFor s.sto.table.ignitionRate) := by
  have left : s.leaveFor .stabilise = s := by simp [State.leaveFor, SeqState.gasOpen, state]
  rw [goto_stabilise, left]

theorem goto_stabilise_bsq (state : s.bsq.state = .safetyTime) : (s.goto .stabilise).bsq =
    { s.bsq.enter s.sto.table .stabilise with
      spark := false, fanTarget := s.sto.table.speedFor s.sto.table.ignitionRate, band := (s.goto .stabilise).bsq.band } := by
  have bsq := setFanTarget_bsq (({ s with bsq := s.bsq.enter s.sto.table .stabilise } : State).commandSpark false)
    (s.sto.table.speedFor s.sto.table.ignitionRate)
  rw [← goto_stabilise_eq state] at bsq
  exact bsq

theorem flameProved_elsewhere (other : s.bsq.state ≠ .safetyTime) : s.flameProved = s.setFlame true := by
  have elsewhere : (s.setFlame true).bsq.state ≠ .safetyTime := other
  unfold State.flameProved State.takeFlameProved
  split
  · next state => exact absurd state elsewhere
  · rfl

/-- Settles O37, from STABILISE as it is entered, and from what the flame state alone writes. -/
theorem flameProvedLeadsToStabilise : Obligations.FlameProvedLeadsToStabilise := by
  intro s on off
  obtain ⟨t, run, follows⟩ := exec_effect (c := .flameProved) on rfl (if_neg (by simp [off]))
  refine ⟨_, t, run, follows, ?_⟩
  by_cases state : s.bsq.state = .safetyTime
  · have entered : s.proved.goto .stabilise = _ := goto_stabilise_eq state
    have bsq : (s.proved.goto .stabilise).bsq = _ := goto_stabilise_bsq state
    rw [flameProved_safetyTime state]
    unfold State.setFlame
    dsimp only
    rw [bsq, entered]
    exact ⟨rfl, rfl, fun _ => ⟨rfl, rfl, rfl, rfl, ChannelRecord.stop_inactive _, rfl, rfl, rfl, rfl, rfl, rfl, rfl, rfl, rfl, rfl⟩,
      fun other => absurd state other⟩
  · rw [flameProved_elsewhere state]
    exact ⟨rfl, rfl, fun e => absurd e state, fun _ => rfl⟩

/-! ### A locking cause of the sequencer's own -/

/-- A change to a state without gas leaves the counts of the burn. -/
theorem goto_burn (s : State) {q : SeqState} (shut : q.gasOpen = false) : (s.goto q).bsq.attempts = s.bsq.attempts
    ∧ (s.goto q).bsq.recycleUsed = s.bsq.recycleUsed ∧ (s.goto q).bsq.gasOpened = s.bsq.gasOpened := by
  rw [goto_bsq s shut]
  exact ⟨rfl, rfl, rfl⟩

/-- A lockout that begins: its key is recorded and LOCKOUT is entered. -/
theorem lockWith_begins (s : State) (k : FaultKey) (free : s.locked = false) (state : s.bsq.state ≠ .lockout) :
    s.lockWith k = (s.beginLockout k).goto .lockout := by
  have raised : s.raiseLocking k = s.beginLockout k := if_neg (by simp [free])
  rw [State.lockWith, raised, State.gotoLockout, if_neg (by rwa [(beginLockout_touches s k).bsq (by decide)])]

/-- What a lockout leaves of the burn that it ends. -/
theorem lockWith_burn (s : State) (k : FaultKey) (free : s.locked = false) (state : s.bsq.state ≠ .lockout) :
    (s.lockWith k).bsq.attempts = s.bsq.attempts ∧ (s.lockWith k).bsq.recycleUsed = s.bsq.recycleUsed
      ∧ (s.lockWith k).fre = (s.leaveFor .lockout).fre := by
  have begun := beginLockout_touches s k
  have bsq := begun.bsq (by decide)
  obtain ⟨attempts, recycle, -⟩ := goto_burn (s.beginLockout k) (q := .lockout) rfl
  rw [lockWith_begins s k free state, goto_fre, attempts, recycle, bsq]
  refine ⟨rfl, rfl, ?_⟩
  unfold State.leaveFor
  dsimp only
  rw [bsq, begun.fre (by decide)]

/-! ### Trips (R90, R91) -/

theorem gasTrip_none {o : Ocu} (gv1 : o.gv1.state ≠ .tripped) (gv2 : o.gv2.state ≠ .tripped) : o.gasTrip = none := by
  unfold Ocu.gasTrip
  split <;> simp_all

theorem gasTrip_some {o : Ocu} {causes : TripSet}
    (tripped : o.gv1.state = .tripped ∧ o.gv2.state ≠ .tripped ∧ causes = o.gv1.tripCauses
      ∨ o.gv1.state ≠ .tripped ∧ o.gv2.state = .tripped ∧ causes = o.gv2.tripCauses
      ∨ o.gv1.state = .tripped ∧ o.gv2.state = .tripped ∧ causes = o.gv1.tripCauses.union o.gv2.tripCauses) :
    o.gasTrip = some causes := by
  unfold Ocu.gasTrip
  split <;> simp_all

theorem takeLimit_locks (notStart : s.bsq.state ≠ .startCheck) (notLockout : s.bsq.state ≠ .lockout) :
    s.takeLimit = s.lockWith .f04 := by
  unfold State.takeLimit
  split
  · next start => exact absurd start notStart
  · next lockout => exact absurd lockout notLockout
  · rfl

theorem takeTrip_limit {causes : TripSet} (limit : causes.limit = true) : s.takeTrip causes = s.takeLimit := if_pos limit

theorem takeTrip_block {causes : TripSet} (block : causes.limit = false) : s.takeTrip causes = s.takeBlock :=
  if_neg (by simp [block])

/-- R90: the gas states are left for POST-PURGE by a trip for COND or EXT alone. -/
theorem takeBlock_gas (gas : s.bsq.state.gasOpen = true) : s.takeBlock = s.goto .postPurge := by
  unfold State.takeBlock
  cases state : s.bsq.state <;> rw [state] at gas <;> first | rfl | exact absurd gas nofun

/-- R90, R91: a trip that is taken in a gas state. -/
structure TripTaken (causes : TripSet) (s u : State) : Prop where
  attempts : u.bsq.attempts = s.bsq.attempts
  recycleUsed : u.bsq.recycleUsed = s.bsq.recycleUsed
  fre : u.fre = (s.leaveFor .lockout).fre
  limit : causes.limit = true → LocksOut .f04 s u
  block : causes.limit = false → EntersState .postPurge s u

theorem takeTrip_gas (causes : TripSet) (free : s.locked = false) (gas : s.bsq.state.gasOpen = true) :
    TripTaken causes s (s.takeTrip causes) := by
  have notStart : s.bsq.state ≠ .startCheck := by intro e; rw [e] at gas; exact absurd gas nofun
  have notLockout : s.bsq.state ≠ .lockout := by intro e; rw [e] at gas; exact absurd gas nofun
  cases limit : causes.limit with
  | true =>
    rw [takeTrip_limit limit, takeLimit_locks notStart notLockout]
    obtain ⟨attempts, recycle, fre⟩ := lockWith_burn s .f04 free notLockout
    exact ⟨attempts, recycle, fre, fun _ => lockWith_locksOut s .f04 free notLockout, fun e => nomatch limit.symm.trans e⟩
  | false =>
    rw [takeTrip_block limit, takeBlock_gas gas]
    obtain ⟨attempts, recycle, -⟩ := goto_burn s (q := .postPurge) rfl
    have left : (s.leaveFor .postPurge).fre = (s.leaveFor .lockout).fre := by simp [State.leaveFor]
    exact ⟨attempts, recycle, (goto_fre s _).trans left, fun e => (nomatch limit.symm.trans e), fun _ => goto_enters s rfl⟩

/-! ### A failed attempt and a flame lost (R83, R86) -/

theorem unlessTripped_free {f : State → State} (gv1 : s.ocu.gv1.state ≠ .tripped) (gv2 : s.ocu.gv2.state ≠ .tripped) :
    s.unlessTripped f = f s := by
  unfold State.unlessTripped
  rw [gasTrip_none gv1 gv2]

theorem unlessTripped_trip {f : State → State} {causes : TripSet} (trip : s.ocu.gasTrip = some causes) :
    s.unlessTripped f = s.takeTrip causes := by
  unfold State.unlessTripped
  rw [trip]

/-- The part as the end of an ignition attempt finds it: at the expiry of the safety time, and at a flame lost in STABILISE. -/
def EndsAttempt (s v : State) (c : Instr) : Prop :=
  c = .safetyTimeExpiry ∧ s.bsq.state = .safetyTime ∧ v = s
    ∨ c = .flameLost ∧ s.bsq.state = .stabilise ∧ s.mfe.flameOn = true ∧ v = { s with
        mfe := { s.mfe with flameOn := false, provingRun := 0, lossRun := 0 }
        flt := { s.flt with conditions := { s.flt.conditions with flame := false } }
        bsq := { s.bsq with strayTime := 0 } }

theorem EndsAttempt.gas {v : State} (h : EndsAttempt s v c) : v.bsq.state.gasOpen = true := by
  rcases h with ⟨-, state, rfl⟩ | ⟨-, state, -, rfl⟩
  · rw [state]; rfl
  · exact congrArg SeqState.gasOpen state

theorem EndsAttempt.run {v : State} (h : EndsAttempt s v c) (on : s.powered = true) :
    ∃ t, exec c s = .next t ∧ Follows (v.unlessTripped State.failedAttempt) t := by
  rcases h with ⟨rfl, state, rfl⟩ | ⟨rfl, state, flame, rfl⟩
  · exact exec_effect (c := .safetyTimeExpiry) on rfl (if_pos state)
  · refine exec_effect (c := .flameLost) on rfl ((if_pos flame).trans ?_)
    change (s.setFlame false).takeFlameLost = _
    unfold State.takeFlameLost
    rw [show (s.setFlame false).bsq.state = .stabilise from state]
    rfl

/-- R83: the part with one more attempt counted. -/
def State.attemptCounted (s : State) : State := { s with bsq := { s.bsq with attempts := s.bsq.attempts + 1 } }

theorem failedAttempt_again (few : (s.bsq.attempts : Int) + 1 < s.sto.table.attempts) :
    s.failedAttempt = s.attemptCounted.goto .interPurge := if_pos (by push_cast; exact few)

theorem failedAttempt_last (many : s.sto.table.attempts ≤ (s.bsq.attempts : Int) + 1) :
    s.failedAttempt = s.attemptCounted.lockWith .f01 := if_neg (by push_cast; exact Int.not_lt.2 many)

/-- Settles O38, from the attempt that fails and the trip that it is taken as. -/
theorem failedAttemptPurgesOrLocksOut : Obligations.FailedAttemptPurgesOrLocksOut := by
  refine ⟨fun s v c on free gv1 gv2 event => ?attempt, fun s v c causes on free tripped event => ?trip⟩
  case attempt =>
    intro w
    have ended : EndsAttempt s v c := event
    obtain ⟨t, run, follows⟩ := ended.run on
    have same : v.ocu = s.ocu ∧ v.locked = s.locked ∧ v.bsq.attempts = s.bsq.attempts ∧ v.bsq.recycleUsed = s.bsq.recycleUsed
        ∧ v.sto = s.sto := by
      rcases event with ⟨-, -, rfl⟩ | ⟨-, -, -, rfl⟩ <;> exact ⟨rfl, rfl, rfl, rfl, rfl⟩
    obtain ⟨ocu, locked, attempts, recycle, sto⟩ := same
    have counted : v.attemptCounted = w := by
      unfold State.attemptCounted
      rw [attempts]
    have notLockout : w.bsq.state ≠ .lockout := by
      intro e
      have gas := ended.gas
      rw [show v.bsq.state = .lockout from e] at gas
      exact absurd gas nofun
    rw [unlessTripped_free (by rwa [ocu]) (by rwa [ocu])] at follows
    refine ⟨_, t, run, follows, fun few => ?_, fun many => ?_⟩
    · rw [failedAttempt_again (by rwa [attempts, sto]), counted]
      obtain ⟨tries, used, -⟩ := goto_burn w (q := .interPurge) rfl
      refine ⟨goto_enters w rfl, tries, ?_, used.trans recycle⟩
      rw [goto_bsq w rfl]
      change v.sto.table.purgeSpeed.toNat = _
      rw [sto]
    · rw [failedAttempt_last (by rwa [attempts, sto]), counted]
      exact lockWith_locksOut w .f01 (locked.trans free) notLockout
  case trip =>
    have ended : EndsAttempt s v c := event
    obtain ⟨t, run, follows⟩ := ended.run on
    have same : v.ocu = s.ocu ∧ v.locked = s.locked ∧ v.bsq.attempts = s.bsq.attempts ∧ v.bsq.recycleUsed = s.bsq.recycleUsed := by
      rcases event with ⟨-, -, rfl⟩ | ⟨-, -, -, rfl⟩ <;> exact ⟨rfl, rfl, rfl, rfl⟩
    obtain ⟨ocu, locked, attempts, recycle⟩ := same
    rw [unlessTripped_trip (causes := causes) (by rw [ocu]; exact gasTrip_some tripped)] at follows
    have taken := takeTrip_gas causes (locked.trans free) ended.gas
    exact ⟨_, t, run, follows, taken.attempts.trans attempts, taken.recycleUsed.trans recycle, taken.limit, taken.block⟩

/-- R86: the part as a flame lost in RUNNING finds it. -/
theorem flameLost_running (state : s.bsq.state = .running) (flame : s.mfe.flameOn = true) (on : s.powered = true) :
    ∃ t, exec .flameLost s = .next t ∧ Follows ((s.setFlame false).unlessTripped State.lossInRunning) t := by
  refine exec_effect (c := .flameLost) on rfl ((if_pos flame).trans ?_)
  change (s.setFlame false).takeFlameLost = _
  unfold State.takeFlameLost
  rw [show (s.setFlame false).bsq.state = .running from state]

/-- R51: RUNNING is left with the firing-rate record stopped. -/
theorem leaveFor_stops (state : s.bsq.state = .running) {q : SeqState} (other : q ≠ .running) : (s.leaveFor q).fre = s.fre.stop :=
  if_pos ⟨state, other⟩

theorem goto_overrun (gas : s.bsq.state.gasOpen = true) {q : SeqState} (shut : q.gasOpen = false) :
    (s.goto q).dta.overrun = overrunFor s.dta.divState s.sto.settings.chOverrunMin s.dta.overrun := by
  rw [goto_dta]
  unfold State.leaveFor
  simp [gas, shut]

theorem overrunFor_dhw {d : DiverterState} (side : d = .atDhw ∨ d = .movingToDhw) (minutes : Int)
    (old : Option (OverrunKind × Nat)) : overrunFor d minutes old = some (.dhw, 30000) := by
  rcases side with rfl | rfl <;> rfl

theorem overrunFor_ch {d : DiverterState} (side : d = .atCh ∨ d = .movingToCh) {minutes : Int} (pos : 0 < minutes)
    (old : Option (OverrunKind × Nat)) : overrunFor d minutes old = some (.ch, minutes.toNat * 60000) := by
  rcases side with rfl | rfl <;> exact if_neg (Int.not_le.2 pos)

/-- R86: the first loss of flame of a burn is recycled. -/
def State.recycled (s : State) : State := State.goto { s with bsq := { s.bsq with recycleUsed := true } } .interPurge

theorem recycled_enters (s : State) : EntersState .interPurge s s.recycled := by
  have entered := goto_enters { s with bsq := { s.bsq with recycleUsed := true } } (q := .interPurge) rfl
  exact { entered with
    touches := Touches.trans ((touches_bsq s _).mono (by decide)) entered.touches
    ends := (bsq_endsFrom s { s.bsq with recycleUsed := true } rfl).trans entered.ends }

theorem lossInRunning_first (unused : s.bsq.recycleUsed = false) : s.lossInRunning = s.recycled := if_neg (by simp [unused])

theorem lossInRunning_second (used : s.bsq.recycleUsed = true) : s.lossInRunning = s.lockWith .f02 := if_pos used

/-- Settles O39, from the first loss of a burn, the second one, and the trip that a loss is taken as. -/
theorem flameLossInRunningIsRecycledOnce : Obligations.FlameLossInRunningIsRecycledOnce := by
  refine ⟨fun s on free state flame gv1 gv2 => ?loss, fun s causes on free state flame tripped => ?trip⟩
  case loss =>
    intro v
    obtain ⟨t, run, follows⟩ := flameLost_running state flame on
    have running : v.bsq.state = .running := state
    have notLockout : v.bsq.state ≠ .lockout := by rw [running]; nofun
    rw [show s.setFlame false = v from rfl, unlessTripped_free (s := v) gv1 gv2] at follows
    refine ⟨_, t, run, follows, ?_⟩
    cases used : s.bsq.recycleUsed with
    | false =>
      rw [lossInRunning_first (s := v) used]
      have entered := recycled_enters v
      obtain ⟨attempts, recycled, opened⟩ := goto_burn { v with bsq := { v.bsq with recycleUsed := true } } (q := .interPurge) rfl
      have overrun : v.recycled.dta.overrun = overrunFor s.dta.divState s.sto.settings.chOverrunMin s.dta.overrun :=
        goto_overrun (s := { v with bsq := { v.bsq with recycleUsed := true } }) (congrArg SeqState.gasOpen running) rfl
      refine ⟨(entered.gas rfl).1, by rw [entered.ends.mfe], (goto_fre _ _).trans (leaveFor_stops running nofun), fun _ =>
        ⟨entered, recycled, attempts, opened, fun atDhw => ?_, fun atCh runs => ?_⟩, nofun⟩
      · rw [overrun, overrunFor_dhw atDhw]
      · rw [overrun, overrunFor_ch atCh runs]
    | true =>
      rw [lossInRunning_second (s := v) used]
      have locks := lockWith_locksOut v .f02 free notLockout
      refine ⟨locks.gas.1, by rw [locks.mfe], ?_, nofun, fun _ => locks⟩
      exact (lockWith_burn v .f02 free notLockout).2.2.trans (leaveFor_stops running nofun)
  case trip =>
    intro v
    obtain ⟨t, run, follows⟩ := flameLost_running state flame on
    rw [show s.setFlame false = v from rfl, unlessTripped_trip (s := v) (gasTrip_some tripped)] at follows
    have taken := takeTrip_gas causes (s := v) free (by rw [show v.bsq.state = .running from state]; rfl)
    refine ⟨_, t, run, follows, taken.attempts, taken.recycleUsed, ?_, taken.fre.trans (leaveFor_stops (s := v) state nofun),
      taken.limit, taken.block⟩
    cases limit : causes.limit with
    | true => rw [(taken.limit limit).mfe]
    | false => rw [(taken.block limit).ends.mfe]

/-! ### The sequencer's timers (R89, R95, R97) -/

theorem setFanTarget_unjudged (quiet : s.bsq.state.keepsBand = false) (r : Nat) :
    s.setFanTarget r = { s with bsq := { s.bsq with fanTarget := r }, ocu := s.ocu.commandFan r } := by
  unfold State.setFanTarget Bsq.judgeBand
  dsimp only
  rw [if_neg (by simp [quiet])]

/-- Settles O40, timer by timer. -/
theorem sequencerTimersAct : Obligations.SequencerTimersAct := by
  refine ⟨fun s on free flame supervised => ?stray, fun s c on event => ?purge, fun s on burns => ?minute⟩
  case stray =>
    have supervises : s.bsq.state.supervisesStray = true := by
      revert supervised
      cases s.bsq.state <;> decide
    have notLockout : s.bsq.state ≠ .lockout := by intro e; rw [e] at supervises; exact absurd supervises nofun
    obtain ⟨t, run, follows⟩ := exec_effect (c := .strayFlameTimeLimit) on rfl (if_pos (by rw [supervises, flame]; rfl))
    exact ⟨_, t, run, follows, lockWith_locksOut s .f03 free notLockout⟩
  case purge =>
    rcases event with ⟨rfl, state⟩ | ⟨rfl, state⟩
    · have ended : State.setFanTarget { s with bsq := { s.bsq with purgeLeft := 0 } } 0 = _ :=
        setFanTarget_unjudged (s := { s with bsq := { s.bsq with purgeLeft := 0 } }) (congrArg SeqState.keepsBand state) 0
      exact exec_effect (c := .lockoutPurgeEnd) on rfl ((if_pos state).trans ended)
    · have ended : State.setFanTarget { s with bsq := { s.bsq with purgeLeft := 0 } } 0 = _ :=
        setFanTarget_unjudged (s := { s with bsq := { s.bsq with purgeLeft := 0 } }) (congrArg SeqState.keepsBand state) 0
      exact exec_effect (c := .lockoutPurgeRemainderEnd) on rfl ((if_pos state).trans ended)
  case minute =>
    obtain ⟨t, run, follows⟩ := exec_effect (c := .burnerMinute) on rfl (if_pos burns)
    have counters : t.sto.counters = _ := congrArg Sto.counters follows.ends.sto
    refine ⟨t, run, counters, ?_⟩
    rw [counters]
    exact follows.ends

/-! ### Trip reports and refused opens (R90, R109) -/

theorem takeBlock_purges (q : s.bsq.state ∈ [.safetyTime, .stabilise, .running, SeqState.interPurge]) :
    s.takeBlock = s.goto .postPurge := by
  unfold State.takeBlock
  simp only [List.mem_cons, List.not_mem_nil, or_false] at q
  rcases q with state | state | state | state <;> rw [state]

theorem takeBlock_idles (q : s.bsq.state ∈ [.preCheck, SeqState.prePurge]) : s.takeBlock = s.goto .idle := by
  unfold State.takeBlock
  simp only [List.mem_cons, List.not_mem_nil, or_false] at q
  rcases q with state | state <;> rw [state]

theorem takeBlock_ignition (state : s.bsq.state = .ignitionSpeed) :
    s.takeBlock = s.goto (if s.bsq.gasOpened then .postPurge else .idle) := by
  unfold State.takeBlock
  rw [state]

theorem takeBlock_rest (q : s.bsq.state ∈ [.startCheck, .idle, .postPurge, SeqState.lockout]) : s.takeBlock = s := by
  unfold State.takeBlock
  simp only [List.mem_cons, List.not_mem_nil, or_false] at q
  rcases q with state | state | state | state <;> rw [state]

/-- R73: a key joins the pending causes once. -/
theorem addPending_eq (l : List PendingCause) (x : PendingCause) : addPending l x = if x ∈ l then l else l ++ [x] := by
  unfold addPending
  simp only [List.contains_iff_mem]

theorem takeLimit_startCheck (state : s.bsq.state = .startCheck) : s.takeLimit = s.notePending .f04 := by
  unfold State.takeLimit
  rw [state]

theorem takeLimit_lockout (state : s.bsq.state = .lockout) : s.takeLimit = s.raiseLocking .f04 := by
  unfold State.takeLimit
  rw [state]

/-- R123: a locking key that is raised during a lockout: ignored where it is the cause, and recorded where it is not. -/
theorem raiseLocking_active {k : FaultKey} (held : s.locked = true) (active : s.isActive k = true) : s.raiseLocking k = s := by
  unfold State.raiseLocking
  rw [if_pos held, if_pos active]

theorem raiseLocking_records {k : FaultKey} (held : s.locked = true) (absent : s.isActive k = false) :
    s.raiseLocking k = s.recordRaise k true := by
  unfold State.raiseLocking
  rw [if_pos held, if_neg (by simp [absent])]

/-- What is recorded of a locking key during a lockout (R123, R131). -/
structure RecordedDuringLockout (k : FaultKey) (s u : State) : Prop where
  touches : Touches [.flt, .sto] s u
  active : u.flt.active = s.flt.active
  lockout : u.flt.lockout = s.flt.lockout
  ring : s.flt.ringBuilt = true → newestSlot (fun r => r.raises k) s.flt.ring = none →
    u.flt.ring = s.flt.ring.set (slotForNew s.flt.ring) ⟨some
      { s.raisedRecord k true with number := min 4294967295 (s.flt.lastCreation + 1) }, none⟩

theorem recordRaise_recorded (s : State) (k : FaultKey) : RecordedDuringLockout k s (s.recordRaise k true) where
  touches := recordRaise_touches s k true
  active := recordRaise_active s k true
  lockout := by rw [Flt.eq_of_kept (recordRaise_kept s k true)]
  ring built none := by
    unfold State.recordRaise
    rw [if_pos built, none]
    rfl

theorem raisedRecord_lockout (state : s.bsq.state = .lockout) (k : FaultKey) : s.raisedRecord k true =
    { kind := .raised, key := k, source := none, seqState := .lockout, flow := s.flow, rate := 0, raiseStamp := s.minute
      clearedStamp := none, count := 1, duringLockout := true, number := 0 } := by
  unfold State.raisedRecord State.reportedRate
  rw [state]

/-- Settles O41, from the trip that the oldest report or refused open stands for. -/
theorem tripReportsAreTaken : Obligations.TripReportsAreTaken := by
  intro s v c causes on event
  have run : ∃ t, exec c s = .next t ∧ Follows (v.takeTrip causes) t := by
    rcases event with ⟨rest, rfl, reports, rfl⟩ | ⟨r, rest, rfl, opens, rfl, rfl⟩
    · exact exec_effect (c := .tripReport) on rfl (by rw [reports])
    · exact exec_effect (c := .refusedOpen) on rfl (by rw [opens])
  have same : v.bsq.state = s.bsq.state ∧ v.bsq.gasOpened = s.bsq.gasOpened ∧ v.bsq.pendingCauses = s.bsq.pendingCauses
      ∧ v.flt = s.flt ∧ v.minute = s.minute ∧ v.flow = s.flow := by
    rcases event with ⟨rest, -, -, rfl⟩ | ⟨r, rest, -, -, -, rfl⟩ <;> exact ⟨rfl, rfl, rfl, rfl, rfl, rfl⟩
  obtain ⟨state, opened, pending, flt, minute, flow⟩ := same
  obtain ⟨t, run, follows⟩ := run
  refine ⟨_, t, run, follows, fun limit => ?_, fun block => ?_⟩
  · rw [takeTrip_limit limit]
    refine ⟨fun free notStart notLockout => ?_, fun start => ?_, fun lockout held active => ?_, fun lockout held absent => ?_⟩
    · rw [takeLimit_locks (state ▸ notStart) (state ▸ notLockout)]
      exact lockWith_locksOut v .f04 (by rw [State.locked, flt]; exact free) (state ▸ notLockout)
    · rw [takeLimit_startCheck (state.trans start), State.notePending, addPending_eq, pending]
    · rw [takeLimit_lockout (state.trans lockout)]
      exact raiseLocking_active (by rw [State.locked, flt]; exact held) (by rw [State.isActive, flt]; exact active)
    · rw [takeLimit_lockout (state.trans lockout), raiseLocking_records (by rw [State.locked, flt]; exact held)
        (by rw [State.isActive, flt]; exact absent)]
      have recorded := recordRaise_recorded v .f04
      obtain ⟨touches, active, lockedOut, ring⟩ := recorded
      rw [raisedRecord_lockout (state.trans lockout), minute, flow, flt] at ring
      exact ⟨touches, active.trans (by rw [flt]), lockedOut.trans (by rw [flt]), ring⟩
  · rw [takeTrip_block block]
    refine ⟨fun q => ?_, fun q => ?_, fun ignition => ?_, fun q => ?_⟩
    · rw [takeBlock_purges (state ▸ q)]
      exact goto_enters v rfl
    · rw [takeBlock_idles (state ▸ q)]
      exact goto_enters v rfl
    · rw [takeBlock_ignition (state.trans ignition), opened]
      exact goto_enters v (by split <;> rfl)
    · exact takeBlock_rest (state ▸ q)

end Sys2Proof.Machine

/-! SUPPORT. The firing-rate computations (R55 to R58, R63, R65). -/

namespace Sys2Proof.Machine

variable {s t u : State}

/-! ### A new rate (R65, R72) -/

/-- R65: in RUNNING a changed rate sets the fan target. -/
theorem takeRate_changed (r : Int × LimitReason) (running : s.bsq.state = .running) (changed : r.1 ≠ s.fre.lastRate) :
    (s.takeRate r).bsq.fanTarget = s.sto.table.speedFor r.1 := by
  rw [takeRate_eq]
  dsimp only
  rw [if_neg changed, if_pos running]
  exact State.setFanTarget_target _ _

/-- R65: outside RUNNING, and where the rate stands, a new rate leaves the sequencer and the outputs. -/
theorem takeRate_still (r : Int × LimitReason) (still : s.bsq.state ≠ .running ∨ r.1 = s.fre.lastRate) :
    (s.takeRate r).bsq = s.bsq ∧ (s.takeRate r).ocu = s.ocu := by
  rw [takeRate_eq]
  dsimp only
  split
  · exact ⟨rfl, rfl⟩
  · next changed => rw [if_neg (still.resolve_right changed)]; exact ⟨rfl, rfl⟩

/-- R62: FLOOR where rmin raised the rate. -/
theorem boundedRate_floorReason (c : Caps) (a : ActiveCaps) {rmin wanted l : Int} (own : LimitReason)
    (below : min (min wanted c.least) l < rmin) : (boundedRate c a rmin wanted (some l) own).2 = .floor := by
  unfold boundedRate
  dsimp only
  rw [if_pos below]

theorem windedIntegral_eq (lo hi old candidate r raw e : Int) : windedIntegral lo hi old candidate r raw e =
    if (r < raw ∧ 0 < e) ∨ (raw < r ∧ e < 0) then old else clampInt lo hi candidate := by
  unfold windedIntegral
  split_ifs <;> first | rfl | omega

/-- What a computation leaves of the part: its rate, with the fan target that follows it, and the record's other fields `rest`. -/
structure RateFormed (s : State) (r : Int) (u : State) : Prop where
  touches : Touches [.fre, .bsq, .ocu] s u
  changed : s.bsq.state = .running → r ≠ s.fre.lastRate → u.bsq.fanTarget = s.sto.table.speedFor r
  still : s.bsq.state ≠ .running ∨ r = s.fre.lastRate → u.bsq = s.bsq ∧ u.ocu = s.ocu

theorem takeRate_formed (s : State) (r : Int × LimitReason) : RateFormed s r.1 (s.takeRate r) :=
  ⟨takeRate_touches s r, takeRate_changed r, takeRate_still r⟩

theorem RateFormed.fre {r : Int} (h : RateFormed s r u) (x : Fre) : RateFormed s r { u with fre := x } :=
  ⟨h.touches.trans ((touches_fre u x).mono (by decide)), h.changed, h.still⟩

/-- R55: the rate of one CH computation. -/
def State.chRate (s : State) (raw : Int) : Int × LimitReason :=
  boundedRate s.formedCaps s.activeCaps s.sto.table.rmin raw (some (s.fre.lastRate + 50)) .control

theorem chRate_value (s : State) (raw : Int) :
    (s.chRate raw).1 = max s.sto.table.rmin (min (min raw s.formedCaps.least) (s.fre.lastRate + 50)) :=
  boundedRate_value _ _ _ _ _ _

/-- R55, R56: what one CH computation forms. -/
theorem chCompute_formed {target flow : Int} (hasTarget : s.dta.plan.target = some target) (hasFlow : s.flow = some flow) :
    let x := chTerms s.fre.chI target flow
    RateFormed s (s.chRate x.2.2).1 s.chCompute ∧ s.chCompute.fre = { s.fre with
      lastRate := (s.chRate x.2.2).1, reason := (s.chRate x.2.2).2
      chI := windedIntegral 0 1000 s.fre.chI x.2.1 (s.chRate x.2.2).1 x.2.2 x.1 } := by
  intro x
  have computed : s.chCompute = { s.takeRate (s.chRate x.2.2) with fre := { (s.takeRate (s.chRate x.2.2)).fre with
      chI := windedIntegral 0 1000 s.fre.chI x.2.1 (s.chRate x.2.2).1 x.2.2 x.1 } } := by
    unfold State.chCompute
    rw [hasTarget, hasFlow]
    rfl
  rw [computed]
  exact ⟨(takeRate_formed s _).fre _, by rw [takeRate_fre]⟩

/-- R63: the rate of the SERVICE selection. -/
def State.serviceRate (s : State) : Int × LimitReason :=
  boundedRate s.formedCaps s.activeCaps s.sto.table.rmin s.requestedRate none .selection

theorem serviceForm_formed (s : State) : RateFormed s s.serviceRate.1 s.serviceForm
    ∧ s.serviceForm.fre = { s.fre with lastRate := s.serviceRate.1, reason := s.serviceRate.2 } :=
  ⟨takeRate_formed s s.serviceRate, takeRate_fre s s.serviceRate⟩

theorem clampInt_clamped {lo hi : Int} (x : Int) (ordered : lo ≤ hi) : clampInt lo hi (clampInt lo hi x) = clampInt lo hi x := by
  unfold clampInt
  omega

/-- R57: the rate of one DHW computation. -/
def State.dhwRate (s : State) (raw : Int) : Int × LimitReason :=
  boundedRate s.formedCaps s.activeCaps s.sto.table.rmin raw (some (s.fre.lastRate + 200)) .control

theorem dhwRate_value (s : State) (raw : Int) :
    (s.dhwRate raw).1 = max s.sto.table.rmin (min (min raw s.formedCaps.least) (s.fre.lastRate + 200)) :=
  boundedRate_value _ _ _ _ _ _

/-- R57, R58: what one DHW computation forms. -/
theorem dhwCompute_formed {outlet : Int} (hasOutlet : s.outlet = some outlet) :
    let x := dhwTerms s.fre.dhwI (feedForward s.mfe.tapFlow s.dta.plan.dhwSetpoint s.inletForRate s.sto.table.pnomWatts)
      s.dta.plan.dhwSetpoint outlet
    RateFormed s (s.dhwRate x.2.2).1 s.dhwCompute ∧ s.dhwCompute.fre = { s.fre with
      lastRate := (s.dhwRate x.2.2).1, reason := (s.dhwRate x.2.2).2
      dhwI := windedIntegral (-200) 200 s.fre.dhwI x.2.1 (s.dhwRate x.2.2).1 x.2.2 x.1 } := by
  intro x
  have computed : s.dhwCompute = { s.takeRate (s.dhwRate x.2.2) with fre := { (s.takeRate (s.dhwRate x.2.2)).fre with
      dhwI := windedIntegral (-200) 200 s.fre.dhwI x.2.1 (s.dhwRate x.2.2).1 x.2.2 x.1 } } := by
    unfold State.dhwCompute
    rw [hasOutlet]
    rfl
  rw [computed]
  exact ⟨(takeRate_formed s _).fre _, by rw [takeRate_fre]⟩

/-- R55: the part as its CH interval timer has started again. -/
def State.intervalStarted (s : State) : State := { s with fre := { s.fre with chTimer := some 1000 } }

theorem intervalStarted_caps (s : State) : s.intervalStarted.formedCaps = s.formedCaps := formedCaps_congr rfl rfl rfl rfl rfl rfl

theorem RateFormed.ofInterval {r : Int} (h : RateFormed s.intervalStarted r u) : RateFormed s r u :=
  ⟨((touches_fre s _).mono (by decide)).trans h.touches, h.changed, h.still⟩

theorem exec_chComputation (on : s.powered = true) (runs : s.fre.chTimer.isSome = true) :
    ∃ t, exec .chComputation s = .next t ∧ Follows s.intervalStarted.intervalCompute t :=
  exec_effect (c := .chComputation) on rfl (if_pos runs)

theorem gateComputed_served (served : s.servesDhw = true) : s.gateComputed true = s.dhwCompute.judgeFan := by
  unfold State.gateComputed
  rw [if_pos (by rw [served]; rfl)]

theorem gateComputed_ended (ended : s.servesDhw = false) : s.gateComputed true = s.judgeFan := by
  unfold State.gateComputed
  rw [if_neg (by simp [ended])]

/-- Settles O32, from the terms of each computation and the rate that they form. -/
theorem chComputationFormsTheRate : Obligations.ChComputationFormsTheRate := by
  refine ⟨fun s target flow on runs served hasTarget hasFlow => ?ch, fun s on runs served => ?service,
    fun s turbine tacho on state served => ?gate, fun s absent => ?absent, fun s outlet present => ?dhw⟩
  case ch =>
    intro e cand raw r
    obtain ⟨t, run, follows⟩ := exec_chComputation on runs
    have computed : s.intervalStarted.intervalCompute = s.intervalStarted.chCompute := by
      unfold State.intervalCompute
      rw [show s.intervalStarted.fre.served = .ch from served]
    have value : (s.intervalStarted.chRate raw).1 = r := by
      rw [chRate_value, intervalStarted_caps]
      rfl
    obtain ⟨formed, fre⟩ := chCompute_formed (s := s.intervalStarted) hasTarget hasFlow
    have formed := formed.ofInterval
    change RateFormed s (s.intervalStarted.chRate raw).1 _ at formed
    change _ = { s.intervalStarted.fre with
      lastRate := (s.intervalStarted.chRate raw).1, reason := (s.intervalStarted.chRate raw).2
      chI := windedIntegral 0 1000 s.fre.chI cand (s.intervalStarted.chRate raw).1 raw e } at fre
    rw [value] at formed fre
    rw [computed] at follows
    refine ⟨_, t, run, follows, formed.touches, ?_, formed.changed, formed.still, fun _ below => ?_⟩
    · rw [fre, windedIntegral_eq]
      rfl
    · rw [fre]
      exact boundedRate_floorReason _ _ _ (by rw [intervalStarted_caps]; exact below)
  case service =>
    obtain ⟨t, run, follows⟩ := exec_chComputation on runs
    have computed : s.intervalStarted.intervalCompute = s.intervalStarted.serviceForm := by
      unfold State.intervalCompute
      rw [show s.intervalStarted.fre.served = .service from served]
    rw [computed] at follows
    obtain ⟨formed, fre⟩ := serviceForm_formed s.intervalStarted
    have value : s.intervalStarted.serviceRate.1 = max s.sto.table.rmin (min s.requestedRate s.formedCaps.least) :=
      (boundedRate_value _ _ _ _ _ _).trans (by rw [intervalStarted_caps]; rfl)
    rw [value] at fre
    refine ⟨_, t, run, follows, formed.ofInterval.touches, ?_, ?_, ?_, ?_, ?_⟩ <;> rw [fre]
    · rfl
    · rfl
    · rfl
    · exact served
  case gate =>
    intro wild v
    obtain ⟨t, run, follows⟩ := exec_pulseGateEnd turbine tacho on
    have serves : s.servesDhw = true := by unfold State.servesDhw; rw [state, served]; rfl
    rw [serves] at follows
    have same : s.gateEnded turbine tacho = v := rfl
    rw [same] at follows
    clear_value v
    refine ⟨t, run, fun running dhw => ?_, fun other => ?_⟩
    · have still : v.servesDhw = true := by unfold State.servesDhw; rw [running, dhw]; rfl
      rwa [gateComputed_served still] at follows
    · have ended : v.servesDhw = false := by
        unfold State.servesDhw
        rcases other with state | mode
        · simp [state]
        · simp [mode]
      rwa [gateComputed_ended ended] at follows
  case absent =>
    unfold State.dhwCompute
    rw [absent]
  case dhw =>
    intro setpoint inlet power e cand raw r t
    obtain ⟨formed, fre⟩ := dhwCompute_formed present
    change RateFormed s (s.dhwRate raw).1 t at formed
    change t.fre = { s.fre with
      lastRate := (s.dhwRate raw).1, reason := (s.dhwRate raw).2
      dhwI := windedIntegral (-200) 200 s.fre.dhwI cand (s.dhwRate raw).1 raw e } at fre
    have value : (s.dhwRate raw).1 = r := dhwRate_value s raw
    have clamped : clampInt (-200) 200 cand = cand := clampInt_clamped _ (by decide)
    rw [value] at formed fre
    refine ⟨formed.touches, ?_, formed.changed, formed.still⟩
    rw [fre, windedIntegral_eq, clamped]

end Sys2Proof.Machine

/-! SUPPORT. The output channel unit (R99 to R118, R189): trip lines, period starts, coil checks, the two loops and the end of
an output test. -/

namespace Sys2Proof.Machine

variable {s t u : State}

/-! ### Trip lines (R105 to R110) -/

/-- R108: a trip line's event before it is reported: the channels tripped, one trip report, and the re-arms that waited refused. -/
def State.lineTaken (s : State) (l : TripLine) : State :=
  { s.lineTripped l with bsq := { (s.lineTripped l).bsq with
    rearmRefusals := if s.ocu.rearming = [] then s.bsq.rearmRefusals else
      s.ocu.rearming.map (s.lineTripped l).ocu.refusal } }

/-- R75: PRE-CHECK is left for IDLE where a re-arm was refused. -/
def State.refusalTaken (s : State) (cancelled : List Channel) : State :=
  if s.bsq.state = .preCheck ∧ cancelled ≠ [] then s.goto .idle else s

theorem takeRefusal_eq (s : State) (l : TripLine) :
    (s.lineTripped l).takeRefusal s.ocu.rearming = (s.lineTaken l).refusalTaken s.ocu.rearming := by
  unfold State.takeRefusal State.lineTaken State.refusalTaken
  by_cases none : s.ocu.rearming = []
  · rw [none]
    exact (if_neg fun both => both.2 rfl).symm
  · rw [if_neg (by simpa using none), if_neg none]
    dsimp only
    by_cases preCheck : (s.lineTripped l).bsq.state = .preCheck
    · rw [if_pos preCheck, if_pos ⟨preCheck, none⟩]
    · rw [if_neg preCheck, if_neg fun both => preCheck both.1]

theorem lineActive_eq (s : State) (l : TripLine) :
    s.lineActive l = ((s.lineTaken l).refusalTaken s.ocu.rearming).reportLine l true := by
  rw [← takeRefusal_eq]
  rfl

theorem reportLine_limit (s : State) (active : Bool) : s.reportLine .limit active =
    { s with flt := { s.flt with conditions := { s.flt.conditions with limit := active } } } := rfl

/-- R106: each of the three channels as the line trips it. -/
theorem lineTripped_channel (s : State) (l : TripLine) {ch : Channel} (guarded : ch ∈ rearmChannels) :
    (s.lineTripped l).ocu.get ch = (s.ocu.get ch).trip l := by
  simp only [rearmChannels, List.mem_cons, List.not_mem_nil, or_false] at guarded
  rcases guarded with rfl | rfl | rfl <;> rfl

theorem lineTripped_other (s : State) (l : TripLine) {ch : Channel} (free : ch ∉ rearmChannels) :
    (s.lineTripped l).ocu.get ch = s.ocu.get ch := by
  cases ch
  case spark | gv1 | gv2 => exact absurd (by decide) free
  all_goals rfl

theorem lineTripped_coil (s : State) (l : TripLine) (g : GasValve) : (s.lineTripped l).ocu.coils.get g =
    if (s.ocu.get (valveChannel g)).state = .active then
      { s.ocu.coils.get g with pullIn := none, checks := 0, nextCheck := some 100 } else s.ocu.coils.get g := by
  cases g <;> rfl

theorem lineSettles_short {n : Nat} (short : n < 20) : lineSettles n = false := by
  unfold lineSettles
  exact decide_eq_false (Nat.not_le.2 short)

theorem lineSettles_long {n : Nat} (long : 20 ≤ n) : lineSettles n = true := decide_eq_true long

/-- R107: a line that goes inactive leaves every channel as it is. -/
def State.lineOff (s : State) (l : TripLine) : State := { s with ocu := { s.ocu with lines := s.ocu.lines.set l false } }

theorem reportLine_touches (s : State) (l : TripLine) (active : Bool) : Touches [.flt, .prt, .sto] s (s.reportLine l active) := by
  cases l
  · exact (touches_flt s _).mono (by decide)
  · exact follow_touches s _ _
  · exact follow_touches s _ _

theorem exec_tripLineInactive {line : TripLine} {highFor : Nat} (on : s.powered = true) (long : 20 ≤ highFor)
    (active : s.ocu.lines.get line = true) :
    ∃ t, exec (.tripLineInactive line highFor) s = .next t ∧ Follows ((s.lineOff line).reportLine line false) t :=
  exec_effect (c := .tripLineInactive line highFor) on rfl (if_pos (by rw [lineSettles_long long, active]; rfl))

/-- Settles O42, from the channels as a line trips them and the report that follows. -/
theorem tripLinesActOnTheThreeChannels : Obligations.TripLinesActOnTheThreeChannels := by
  refine ⟨fun s line lowFor on long inactive => ?active, fun s line highFor on long active => ?inactive,
    fun s line n on short => ⟨?shortHigh, ?shortLow⟩⟩
  case active =>
    intro causesOf causes waiting
    obtain ⟨t, run, follows⟩ := exec_effect (c := .tripLineActive line lowFor) on rfl
      (if_pos (by rw [lineSettles_long long, inactive]; rfl))
    rw [lineActive_eq] at follows
    refine ⟨s.lineTaken line, (s.lineTaken line).refusalTaken s.ocu.rearming,
      ((s.lineTaken line).refusalTaken s.ocu.rearming).reportLine line true, t, run, follows, ?_, rfl, rfl, rfl, fun ch guarded => lineTripped_channel s line guarded,
      fun g => lineTripped_coil s line g, fun ch free => lineTripped_other s line free, fun preCheck waits => ?_, fun rest => ?_,
      fun limit => ?_, fun cond => ?_, fun ext => ?_⟩
    · have refused (ch : Channel) (guarded : ch ∈ s.ocu.rearming) : (s.lineTripped line).ocu.refusal ch
          = ⟨ch, causesOf ch, s.ocu.lines.set line true⟩ := by
        unfold Ocu.refusal
        rw [lineTripped_channel s line (List.mem_of_mem_filter guarded)]
        rfl
      unfold State.lineTaken
      rw [List.map_congr_left refused]
      rfl
    · unfold State.refusalTaken
      rw [if_pos ⟨preCheck, waits⟩]
      exact goto_enters _ rfl
    · exact if_neg fun both => rest.elim (· both.1) both.2
    · rw [limit]
      rfl
    · rw [cond]
      exact enterKey_enters _ _
    · rw [ext]
      exact enterKey_enters _ _
  case inactive =>
    obtain ⟨t, run, follows⟩ := exec_tripLineInactive on long active
    have reported := reportLine_touches (s.lineOff line) line false
    have off : Touches [.ocu, .flt, .prt, .sto] s (s.lineOff line) := (touches_ocu s _).mono (by decide)
    have ocu : ((s.lineOff line).reportLine line false).ocu = (s.lineOff line).ocu := reported.ocu (by decide)
    refine ⟨_, t, run, follows, off.trans (reported.mono (by decide)), ocu, fun limit => ?_, fun cond => ?_, fun ext => ?_⟩
    · rw [limit]
      exact ⟨rfl, rfl⟩
    · rw [ocu, cond]
      exact leaveKey_leaves _ _
    · rw [ocu, ext]
      exact leaveKey_leaves _ _
  case shortHigh =>
    exact exec_effect (c := .tripLineInactive line n) on rfl (if_neg (by simp [lineSettles_short short]))
  case shortLow =>
    exact exec_effect (c := .tripLineActive line n) on rfl (if_neg (by simp [lineSettles_short short]))

/-! ### Period starts and the pull-in (R99, R101, R102, R108) -/

theorem completeRearm_waiting {r : ChannelRecord} (waits : r.rearmPending = true) : r.completeRearm =
    { r with state := .idle, phase := none, tripCauses := TripSet.empty, rearmPending := false
             pulseCount := if r.state = .held then 0 else r.pulseCount } := if_pos waits

theorem completeRearm_none {r : ChannelRecord} (none : r.rearmPending = false) : r.completeRearm = r :=
  if_neg (by simp [none])

/-- R99: what a period start leaves of its channel, and what the waveform of a channel with a duty takes. -/
theorem ChannelRecord.loadPeriod_frame (r : ChannelRecord) (ch : Channel) (inverted : Bool) :
    (r.loadPeriod ch inverted).tripCauses = r.tripCauses ∧ (r.loadPeriod ch inverted).duty = r.duty
      ∧ (r.loadPeriod ch inverted).testLevel = r.testLevel := by
  unfold ChannelRecord.loadPeriod
  dsimp only
  split
  · exact ⟨rfl, rfl, rfl⟩
  · split <;> exact ⟨rfl, rfl, rfl⟩
  · split <;> exact ⟨rfl, rfl, rfl⟩
  · exact ⟨rfl, rfl, rfl⟩

theorem loadPeriod_pulse {r : ChannelRecord} (active : r.state = .active) (inverted : Bool) :
    (r.loadPeriod .spark inverted).pulseCount = min 255 (r.pulseCount + 1) := by
  have loaded : r.loadPeriod .spark inverted = { r with counter := 0, pulseCount := min 255 (r.pulseCount + 1) } :=
    if_pos active
  rw [loaded]

theorem loadPeriod_duty {r : ChannelRecord} {ch : Channel} (pwm : ch = .fan ∨ ch = .pump) (active : r.state = .active)
    (inverted : Bool) : (r.loadPeriod ch inverted).compareA = r.duty := by
  rcases pwm with rfl | rfl <;> exact if_pos active

theorem loadPeriod_hold {r : ChannelRecord} {ch : Channel} (valve : ch = .gv1 ∨ ch = .gv2) (hold : r.phase = some .hold)
    (inverted : Bool) : (r.loadPeriod ch inverted).compareA = r.duty := by
  have loaded : r.loadPeriod ch inverted = { r with counter := 0, compareA := r.duty } := by
    rcases valve with rfl | rfl <;> exact if_pos hold
  rw [loaded]

theorem Ocu.set_coils (o : Ocu) (ch : Channel) (r : ChannelRecord) : (o.set ch r).coils = o.coils := by cases ch <;> rfl

theorem Ocu.get_coils (o : Ocu) (x : ValveSet CoilRecord) (ch : Channel) : ({ o with coils := x } : Ocu).get ch = o.get ch := by
  cases ch <;> rfl

theorem periodStarted_touches (s : State) (ch : Channel) : Touches [.bsq, .ocu, .clock] s (s.periodStarted ch) := by
  constructor <;> intros <;> simp_all [State.periodStarted]

/-- R102: the pull-in of an open valve has ended. -/
theorem endPullIn_eq {o : Ocu} {v : GasValve} (active : (o.get (valveChannel v)).state = .active)
    (pullIn : (o.get (valveChannel v)).phase = some .pullIn) : o.endPullIn v =
      { o.set (valveChannel v) { o.get (valveChannel v) with phase := some .hold, duty := (o.coils.get v).holdDuty } with
        coils := o.coils.set v { o.coils.get v with pullIn := none, nextCheck := some 10 } } := by
  unfold Ocu.endPullIn
  dsimp only
  rw [if_pos ⟨active, pullIn⟩, Ocu.set_coils]
  rfl

/-- Settles O43, from one period start of a channel's record and from the end of a pull-in. -/
theorem periodStartsAndPullInEnds : Obligations.PeriodStartsAndPullInEnds := by
  refine ⟨fun s ch on hasPeriod => ?period, fun s v on active pullIn => ?pullIn⟩
  case period =>
    intro r
    have period : channelPeriod ch ≠ 0 := by
      revert hasPeriod
      cases ch <;> decide
    obtain ⟨t, run, follows⟩ := exec_effect (c := .channelPeriodStart ch) on rfl (if_neg period)
    have loaded : (s.periodStarted ch).ocu.get ch = r.completeRearm.loadPeriod ch s.sto.settings.pumpInverted := Ocu.get_set _ _ _
    obtain ⟨state, pending, owner⟩ := r.completeRearm.loadPeriod_kept ch s.sto.settings.pumpInverted
    obtain ⟨causes, duty, level⟩ := r.completeRearm.loadPeriod_frame ch s.sto.settings.pumpInverted
    refine ⟨s.periodStarted ch, t, run, follows, periodStarted_touches s ch, fun d other => Ocu.get_set_other _ _ _ _ other,
      Ocu.set_lines _ _ _, Ocu.set_coils _ _ _, ?_⟩
    rw [loaded]
    cases waits : r.rearmPending with
    | true =>
      have done (b : Bsq) (taken : s.bsq.takeRearm ch = b) : (s.periodStarted ch).bsq = b := (if_pos waits).trans taken
      rw [completeRearm_waiting waits] at state pending owner causes duty level ⊢
      refine ⟨fun _ => ⟨state, causes, pending⟩, nofun, fun e _ => ?_, fun e _ => ?_, fun e _ => ?_, nofun, nofun, nofun, duty,
        owner, level⟩
      · subst e; rw [done _ rfl]; rfl
      · subst e; rw [done _ rfl]; rfl
      · subst e; rw [done _ rfl]; rfl
    | false =>
      have still : (s.periodStarted ch).bsq = s.bsq := if_neg (by simp [show (s.ocu.get ch).rearmPending = false from waits])
      rw [completeRearm_none waits] at state pending owner causes duty level ⊢
      refine ⟨nofun, fun _ => ⟨state, causes, still⟩, fun _ => nofun, fun _ => nofun, fun _ => nofun, fun e _ active => ?_,
        fun e _ active => loadPeriod_duty e active _, fun e _ hold => loadPeriod_hold e hold _, duty, owner, level⟩
      subst e
      exact loadPeriod_pulse active _
  case pullIn =>
    obtain ⟨t, run, follows⟩ := exec_effect (c := .pullInEnd v) on rfl rfl
    refine ⟨{ s with ocu := s.ocu.endPullIn v }, t, run, follows, touches_ocu s _, ?_⟩
    rw [endPullIn_eq active pullIn]
    exact ⟨(Ocu.get_coils _ _ _).trans (Ocu.get_set _ _ _), ValveSet.get_set _ _ _,
      fun d other => (Ocu.get_coils _ _ _).trans (Ocu.get_set_other _ _ _ _ other)⟩

/-! ### Coil checks (R92, R116 to R118) -/

theorem CoilRecord.check_eq (k : CoilRecord) (mA : Nat) (right : Bool) : k.check mA right = { k with
    reading := mA, nextCheck := some 100, checks := if right ∨ 2 ≤ k.checks then 0 else k.checks + 1
    faultFlag := if right then false else k.faultFlag || decide (2 ≤ k.checks) } := by
  unfold CoilRecord.check
  cases right with
  | true => rfl
  | false =>
    dsimp only
    rw [if_neg Bool.false_ne_true]
    by_cases third : 2 ≤ k.checks
    · rw [if_pos third]
      simp [third]
      rfl
    · rw [if_neg third]
      simp [third]
      rfl

theorem reports_iff (k : CoilRecord) (right : Bool) :
    k.reports right = true ↔ right = false ∧ 2 ≤ k.checks ∧ k.faultFlag = false := by
  simp [CoilRecord.reports, and_assoc]

/-- R116: the classes of a current, read at 1,000 mA at most. -/
theorem coilClass_zero (n : Nat) : (coilClass (coilReading n) == .zero) = decide (n < 10) := by
  unfold coilClass coilReading
  rw [Bool.eq_iff_iff, beq_iff_eq, decide_eq_true_eq]
  split_ifs <;> simp only [true_iff, false_iff] <;> omega

theorem coilClass_hold (n : Nat) : (coilClass (coilReading n) == .holdBand) = decide (60 ≤ n ∧ n ≤ 400) := by
  unfold coilClass coilReading
  rw [Bool.eq_iff_iff, beq_iff_eq, decide_eq_true_eq]
  split_ifs <;> simp only [true_iff, false_iff] <;> omega

theorem coilClass_kind (n : Nat) :
    (coilClass (coilReading n)).heldKind = if 400 < n then .shortCircuit else .openCircuit := by
  unfold coilClass coilReading
  split_ifs <;> first | rfl | omega

/-- R92: the part as a coil fault's report is held. -/
def State.coilReported (s : State) (report : CoilReport) : State := { s with bsq := { s.bsq with coilReport := some report } }

theorem coilFault_eq (s : State) (report : CoilReport) : s.coilFault report = match s.bsq.state with
    | .startCheck => (s.coilReported report).notePending .f07
    | .lockout => (s.coilReported report).raiseLocking .f07
    | _ => (s.coilReported report).lockWith .f07 := rfl

theorem coilFault_startCheck (report : CoilReport) (state : s.bsq.state = .startCheck) :
    s.coilFault report = (s.coilReported report).notePending .f07 := by
  rw [coilFault_eq, state]

theorem coilFault_lockout (report : CoilReport) (state : s.bsq.state = .lockout) :
    s.coilFault report = (s.coilReported report).raiseLocking .f07 := by
  rw [coilFault_eq, state]

theorem coilFault_locks (report : CoilReport) (notStart : s.bsq.state ≠ .startCheck) (notLockout : s.bsq.state ≠ .lockout) :
    s.coilFault report = (s.coilReported report).lockWith .f07 := by
  unfold State.coilFault
  dsimp only
  split
  · next start => exact absurd start notStart
  · next lockout => exact absurd lockout notLockout
  · rfl

/-- R92: every way in which a coil fault acts leaves its report held. -/
theorem coilFault_held (s : State) (report : CoilReport) : (s.coilFault report).bsq.coilReport = some report := by
  have raised (k : FaultKey) : ((s.coilReported report).raiseLocking k).bsq.coilReport = some report := by
    rw [raiseLocking_bsq]
    rfl
  by_cases start : s.bsq.state = .startCheck
  · rw [coilFault_startCheck _ start]
    rfl
  · by_cases lockout : s.bsq.state = .lockout
    · rw [coilFault_lockout _ lockout, raised]
    · rw [coilFault_locks _ start lockout]
      obtain ⟨-, -, -, -, -, -, held, -⟩ := (gotoLockout_endsFrom ((s.coilReported report).raiseLocking .f07)).bsq
      exact held.trans (raised _)

theorem exec_coilCheckHold {valve : GasValve} {current : Nat} (on : s.powered = true)
    (active : (s.ocu.get (valveChannel valve)).state = .active) (hold : (s.ocu.get (valveChannel valve)).phase = some .hold) :
    ∃ t, exec (.coilCheckHold valve current) s = .next t ∧ Follows (s.checkCoil valve (coilReading current)
      (decide (60 ≤ current ∧ current ≤ 400)) (if 400 < current then .shortCircuit else .openCircuit)) t := by
  refine exec_effect (c := .coilCheckHold valve current) on rfl ((if_pos ⟨active, hold⟩).trans ?_)
  dsimp only
  rw [coilClass_hold, coilClass_kind]

theorem exec_coilCheckIdle {valve : GasValve} {current : Nat} (on : s.powered = true)
    (rest : (s.ocu.get (valveChannel valve)).state ∈ [.idle, ChannelState.tripped]) :
    ∃ t, exec (.coilCheckIdle valve current) s = .next t ∧ Follows
      (State.checkCoil { s with bsq := { s.bsq with coilZero := s.bsq.coilZero.set valve (decide (current < 10)) } } valve
        (coilReading current) (decide (current < 10)) .live) t := by
  refine exec_effect (c := .coilCheckIdle valve current) on rfl ((if_pos (by simpa using rest)).trans ?_)
  dsimp only
  rw [coilClass_zero]

/-- The part as a check has counted, before a fault of it is reported. -/
def State.coilChecked (s : State) (valve : GasValve) (mA : Nat) (right : Bool) : State :=
  { s with ocu := { s.ocu with coils := s.ocu.coils.set valve ((s.ocu.coils.get valve).check mA right) } }

theorem checkCoil_eq (s : State) (valve : GasValve) (mA : Nat) (right : Bool) (kind : CoilFaultKind) :
    s.checkCoil valve mA right kind = if (s.ocu.coils.get valve).reports right
      then (s.coilChecked valve mA right).coilFault ⟨valve, kind⟩ else s.coilChecked valve mA right := rfl

/-- R92: what a coil fault report does by the state of the sequencer. -/
structure CoilFaultTaken (report : CoilReport) (s u : State) : Prop where
  held : u.bsq.coilReport = some report
  locks : s.locked = false → s.bsq.state ≠ .startCheck → s.bsq.state ≠ .lockout → LocksOut .f07 (s.coilReported report) u
  start : s.bsq.state = .startCheck → u = { s.coilReported report with bsq := { (s.coilReported report).bsq with
    pendingCauses := if .f07 ∈ s.bsq.pendingCauses then s.bsq.pendingCauses else s.bsq.pendingCauses ++ [.f07] } }
  ignored : s.bsq.state = .lockout → s.locked = true → s.isActive .f07 = true → u = s.coilReported report
  recorded : s.bsq.state = .lockout → s.locked = true → s.isActive .f07 = false →
    RecordedDuringLockout .f07 (s.coilReported report) u

theorem coilFault_taken (s : State) (report : CoilReport) : CoilFaultTaken report s (s.coilFault report) where
  held := coilFault_held s report
  locks free notStart notLockout := by
    rw [coilFault_locks report notStart notLockout]
    exact lockWith_locksOut (s.coilReported report) .f07 free notLockout
  start state := by
    rw [coilFault_startCheck report state, State.notePending, addPending_eq]
    rfl
  ignored state held active := by
    rw [coilFault_lockout report state]
    exact raiseLocking_active held active
  recorded state held absent := by
    rw [coilFault_lockout report state, raiseLocking_records (s := s.coilReported report) held absent]
    exact recordRaise_recorded _ _

/-- Settles O44, from one check of a coil's record and the fault that the third wrong reading reports. -/
theorem coilChecksCountToThree : Obligations.CoilChecksCountToThree := by
  intro s v valve current right kind c on event isChecked
  have checked : v = { s with bsq := v.bsq, ocu := (s.coilChecked valve (min 1000 current) right).ocu } := by
    unfold State.coilChecked
    rw [CoilRecord.check_eq]
    exact isChecked
  have run : ∃ t, exec c s = .next t ∧ Follows
      (if (s.ocu.coils.get valve).reports right then v.coilFault ⟨valve, kind⟩ else v) t := by
    rcases event with ⟨rfl, active, hold, rfl, rfl, bsq⟩ | ⟨rfl, rest, rfl, rfl, bsq⟩
    · have counted : v = s.coilChecked valve (coilReading current) (decide (60 ≤ current ∧ current ≤ 400)) := by
        rw [checked, bsq]
        rfl
      rw [counted]
      exact exec_coilCheckHold on active hold
    · have counted : v = State.coilChecked { s with bsq := { s.bsq with
          coilZero := s.bsq.coilZero.set valve (decide (current < 10)) } } valve (coilReading current) (decide (current < 10)) := by
        rw [checked, bsq]
        rfl
      rw [counted]
      exact exec_coilCheckIdle on rest
  have same : v.bsq.state = s.bsq.state ∧ v.bsq.pendingCauses = s.bsq.pendingCauses
      ∧ v.flt = s.flt ∧ v.minute = s.minute ∧ v.flow = s.flow := by
    have bsq : v.bsq.state = s.bsq.state ∧ v.bsq.pendingCauses = s.bsq.pendingCauses := by
      rcases event with ⟨-, -, -, -, -, bsq⟩ | ⟨-, -, -, -, bsq⟩ <;> rw [bsq] <;> exact ⟨rfl, rfl⟩
    refine ⟨bsq.1, bsq.2, ?_, ?_, ?_⟩ <;> rw [checked] <;> rfl
  obtain ⟨state, pending, flt, minute, flow⟩ := same
  clear checked isChecked event
  obtain ⟨t, run, follows⟩ := run
  refine ⟨_, t, run, follows, fun wrong third unflagged => ?_, fun spared => ?_⟩
  · intro w
    rw [if_pos ((reports_iff _ _).2 ⟨wrong, third, unflagged⟩)]
    obtain ⟨held, locks, start, ignored, recorded⟩ := coilFault_taken v ⟨valve, kind⟩
    rw [state] at locks start ignored recorded
    rw [pending] at start
    rw [State.locked, flt] at locks ignored recorded
    rw [State.isActive, flt] at ignored recorded
    refine ⟨held, locks, start, ignored, fun lockout locked absent => ?_⟩
    obtain ⟨touches, active, lockedOut, ring⟩ := recorded lockout locked absent
    have record : (v.coilReported ⟨valve, kind⟩).raisedRecord .f07 true = _ := raisedRecord_lockout (state.trans lockout) .f07
    rw [record] at ring
    change v.flt.ringBuilt = true → newestSlot (fun r => r.raises .f07) v.flt.ring = none → _ = v.flt.ring.set
      (slotForNew v.flt.ring) ⟨some { kind := .raised, key := .f07, source := none, seqState := .lockout, flow := v.flow, rate := 0
                                      raiseStamp := v.minute, clearedStamp := none, count := 1, duringLockout := true
                                      number := min 4294967295 (v.flt.lastCreation + 1) }, none⟩ at ring
    rw [flt, minute, flow] at ring
    exact ⟨touches, active.trans (congrArg Flt.active flt), lockedOut.trans (congrArg Flt.lockout flt), ring⟩
  · refine if_neg fun reports => ?_
    obtain ⟨wrong, third, unflagged⟩ := (reports_iff _ _).1 reports
    rcases spared with right | few | flagged
    · exact nomatch wrong.symm.trans right
    · omega
    · exact nomatch unflagged.symm.trans flagged

end Sys2Proof.Machine

/-! SUPPORT. The two loops and the end of an output test (R111, R114, R189). -/

namespace Sys2Proof.Machine

variable {s t u : State}

/-! ### The fan speed loop and the pump ΔT loop (R111, R114) -/

theorem exec_fanLoopStep (on : s.powered = true) :
    ∃ t, exec .fanLoopStep s = .next t ∧ Follows { s with
      ocu := { s.ocu with fan := s.ocu.fan.stepFan s.ocu.fanInForce s.mfe.fanSpeed }
      clock := { s.clock with fanStepDue := false } } t :=
  exec_effect (c := .fanLoopStep) on rfl rfl

theorem ChannelRecord.stepFan_eq (r : ChannelRecord) (target measured : Nat) :
    r.stepFan target measured = { r with duty := if target = 0 then 0 else
      (clampInt 0 1000 ((r.duty : Int) + clampInt (-40) 40 (divz ((target : Int) - measured) 16))).toNat } := by
  unfold ChannelRecord.stepFan
  split <;> rfl

theorem exec_pumpDtStep (on : s.powered = true) (runs : s.ocu.dtTimer.isSome = true) :
    ∃ t, exec .pumpDtStepTimerExpiry s = .next t ∧ Follows { s with
      ocu := { s.ocu with
        pump := { s.ocu.pump with duty := stepPump s.ocu.pump.duty s.sto.settings.pumpDtTarget s.deltaT }
        dtTimer := some Config.dtStepMs } } t :=
  exec_effect (c := .pumpDtStepTimerExpiry) on rfl (if_pos runs)

/-! ### The end of an output test (R189) -/

/-- R104: the channel that is handed back follows no test level, and no other channel's level is touched. -/
theorem Ocu.unforce_testLevel (o : Ocu) (c : TestChannel) (d : Channel) :
    ((o.unforce c).get d).testLevel = if d = testTarget c then none else (o.get d).testLevel := by
  have pump (r : ChannelRecord) (request : PumpRequest) : (r.takePump request).testLevel = r.testLevel := by
    cases request <;> rfl
  have fan (r : ChannelRecord) (rpm : Nat) : (r.takeFan rpm).testLevel = r.testLevel := by
    unfold ChannelRecord.takeFan
    split
    · rfl
    · split <;> rfl
  cases c
  case pump => cases d <;> first | rfl | exact pump _ _
  case fan => cases d <;> first | rfl | exact fan _ _
  all_goals cases d <;> rfl

/-- R189: once handed back, a listed channel stays without a test level to the end of the list. -/
theorem Ocu.unforceAll_testLevel (l : List (TestChannel × Nat)) (o : Ocu) (c : TestChannel)
    (freed : c ∈ l.map Prod.fst ∨ (o.get (testTarget c)).testLevel = none) :
    ((l.foldl (fun o x => o.unforce x.1) o).get (testTarget c)).testLevel = none := by
  induction l generalizing o with
  | nil => exact freed.resolve_left List.not_mem_nil
  | cons x l ih =>
    refine ih (o.unforce x.1) ?_
    rw [Ocu.unforce_testLevel]
    rw [List.map_cons, List.mem_cons] at freed
    rcases freed with (here | later) | free
    · exact .inr (if_pos (congrArg testTarget here))
    · exact .inl later
    · right
      split
      · rfl
      · exact free

theorem Ocu.endTest_testLevel (o : Ocu) (cause : TestEnd) {c : TestChannel} (listed : c ∈ o.test.listed.map Prod.fst) :
    ((o.endTest cause).get (testTarget c)).testLevel = none := by
  have freed := Ocu.unforceAll_testLevel o.test.listed o c (.inl listed)
  cases c <;> exact freed

theorem diverterListed_iff (l : List (TestChannel × Nat)) :
    l.any (fun x => x.1 == .diverter) = true ↔ .diverter ∈ l.map Prod.fst := by
  simp only [List.any_eq_true, beq_iff_eq, List.mem_map]

/-- R189: what the end of a running test does: the list is empty and its channels follow their owners again, the gas valves and
the trip lines stand, and a test that listed DIVERTER starts the homing move. -/
structure TestEnded (cause : TestEnd) (s u : State) : Prop where
  touches : Touches [.dta, .ocu] s u
  test : u.ocu.test = ⟨[], none, cause⟩
  lines : u.ocu.lines = s.ocu.lines
  gas : u.ocu.gv1 = s.ocu.gv1 ∧ u.ocu.gv2 = s.ocu.gv2
  freed : ∀ c ∈ s.ocu.test.listed.map Prod.fst, (u.ocu.get (testTarget c)).testLevel = none
  homes : .diverter ∈ s.ocu.test.listed.map Prod.fst → u.dta = s.dta.home
  stays : .diverter ∉ s.ocu.test.listed.map Prod.fst → u.dta = s.dta

theorem endTest_ended (runs : s.ocu.test.timer.isSome = true) (cause : TestEnd) : TestEnded cause s (s.endTest cause) := by
  have ended : s.endTest cause = { s with
      dta := if s.ocu.test.listed.any (fun x => x.1 == .diverter) then s.dta.home else s.dta
      ocu := (if s.ocu.test.listed.any (fun x => x.1 == .diverter)
              then { s.ocu with diverter := { s.ocu.diverter with owner := .steady false } } else s.ocu).endTest cause } :=
    if_pos runs
  have touches := endTest_touches s cause
  have lines := (endTest_endsFrom s cause).lines
  rw [ended] at touches lines ⊢
  by_cases diverter : .diverter ∈ s.ocu.test.listed.map Prod.fst
  · simp only [(diverterListed_iff _).2 diverter, if_true] at touches lines ⊢
    obtain ⟨gv1, gv2, -⟩ := Ocu.endTest_guarded { s.ocu with diverter := { s.ocu.diverter with owner := .steady false } } cause
    exact ⟨touches, rfl, lines, ⟨gv1, gv2⟩,
      fun _ => Ocu.endTest_testLevel { s.ocu with diverter := { s.ocu.diverter with owner := .steady false } } cause,
      fun _ => rfl, (absurd diverter ·)⟩
  · have unlisted := Bool.eq_false_iff.2 (mt (diverterListed_iff _).1 diverter)
    simp only [unlisted, Bool.false_eq_true, if_false] at touches lines ⊢
    obtain ⟨gv1, gv2, -⟩ := s.ocu.endTest_guarded cause
    exact ⟨touches, rfl, lines, ⟨gv1, gv2⟩, fun _ => Ocu.endTest_testLevel _ cause, (absurd · diverter), fun _ => rfl⟩

/-- Settles O45: each loop's event is its step, and the test timer's expiry is the end of the running test. -/
theorem outputLoopsStep : Obligations.OutputLoopsStep := by
  refine ⟨fun s on => ?_, fun s on runs => exec_pumpDtStep on runs, fun s on runs => ?_⟩
  · obtain ⟨t, run, follows⟩ := exec_fanLoopStep on
    refine ⟨_, t, run, follows, ?_, ?_, rfl⟩
    · constructor <;> intros <;> simp_all
    · exact congrArg (fun r => { s.ocu with fan := r }) (ChannelRecord.stepFan_eq _ _ _)
  · obtain ⟨t, run, follows⟩ := exec_effect (c := .outputTestTimerExpiry) on rfl rfl
    obtain ⟨touches, test, lines, ⟨gv1, gv2⟩, freed, homes, stays⟩ := endTest_ended runs .expired
    exact ⟨_, t, run, follows, touches, test, lines, gv1, gv2, freed, homes, stays⟩

end Sys2Proof.Machine

/-! SUPPORT. The reset counter's decay, operating time and the store writer (R125, R176, R177, R184). -/

namespace Sys2Proof.Machine

variable {c : Instr} {s t u : State}

/-! ### Marks and the write in flight through the end of an event (R177) -/

/-- R177: from `s` to `t` no item loses its mark, and a write in flight goes on. -/
structure KeepsMarks (s t : State) : Prop where
  marked : ∀ i, Marked i s → Marked i t
  inFlight : ∀ w, s.sto.inFlight = some w → t.sto.inFlight = some w

namespace KeepsMarks

theorem refl (s : State) : KeepsMarks s s := ⟨fun _ => id, fun _ => id⟩

theorem trans (first : KeepsMarks s t) (second : KeepsMarks t u) : KeepsMarks s u :=
  ⟨fun i h => second.marked i (first.marked i h), fun w h => second.inFlight w (first.inFlight w h)⟩

theorem of_sto (sto : t.sto = s.sto) : KeepsMarks s t :=
  ⟨fun i h => by unfold Marked; rw [sto]; exact h, fun w h => by rw [sto]; exact h⟩

theorem goto (s : State) (q : SeqState) : KeepsMarks s (s.goto q) := of_sto ((goto_touches s q).sto (by decide))

theorem markDirty (s : State) (i : StoreItem) : KeepsMarks s (s.markDirty i) :=
  ⟨fun _ h => h.imp (fun dirty => subset_markItem _ _ dirty) id, fun _ => id⟩

end KeepsMarks

theorem imageOf_item (s : State) (i : StoreItem) : (s.imageOf i).item = i := by cases i <;> rfl

/-- R177: the item whose write begins is marked by its write. -/
theorem startWrite_keepsMarks (s : State) : KeepsMarks s s.startWrite := by
  unfold State.startWrite
  split
  · next free =>
    have none : s.sto.inFlight = none := by simp_all
    split
    · exact .refl s
    · next i _ =>
      refine ⟨fun j marked => ?_, fun w flies => nomatch none.symm.trans flies⟩
      rcases marked with dirty | ⟨w, flies, -⟩
      · by_cases chosen : j = i
        · exact .inr ⟨_, rfl, (imageOf_item s i).trans chosen.symm⟩
        · exact .inl (List.mem_filter.2 ⟨dirty, by simpa using chosen⟩)
      · exact nomatch none.symm.trans flies
  · exact .refl s

theorem keepsMarks_stageKept : StageKept KeepsMarks where
  refl := .refl
  trans := .trans
  guardTap _ := .of_sto rfl
  judgeKeepwarm _ := .of_sto rfl
  endTest s cause := .of_sto ((endTest_touches s cause).sto (by decide))
  formTargets _ := .of_sto rfl
  evaluate _ := .of_sto rfl
  serveMode s := .of_sto ((serveMode_touches s).sto (by decide))
  applyCaps s := .of_sto ((applyCaps_touches s).sto (by decide))
  judgeRequest s := by
    rcases judgeRequest_cases s with same | ⟨-, -, burn⟩ | ⟨-, idle | purge⟩
    · exact same.symm ▸ .refl s
    · exact burn.symm ▸ .of_sto ((startBurn_touches s).sto (by decide))
    · exact idle.symm ▸ .goto s .idle
    · exact purge.symm ▸ .goto s .postPurge
  judgePreCheck s := by
    unfold State.judgePreCheck
    split
    · exact .goto s .prePurge
    · exact .refl s
  driveOutputs _ := .of_sto rfl
  drivePins _ := .of_sto rfl
  remark s := by
    unfold State.remark
    split
    · exact .refl s
    · split
      · exact .refl s
      · exact .markDirty s _
  startWrite := startWrite_keepsMarks

theorem Follows.marked {i : StoreItem} (h : Follows u t) (marked : Marked i u) : Marked i t :=
  h.settled ▸ (keepsMarks_stageKept.settle u).marked i marked

/-- R177: an item changed in its own write is dirty again as the event ends, and its write goes on. -/
theorem Follows.remarked {w : Write} (h : Follows u t) (flies : u.sto.inFlight = some w)
    (changed : t.imageOf w.image.item ≠ w.image) : w.image.item ∈ t.sto.dirty ∧ t.sto.inFlight = some w := by
  have goes : t.sto.inFlight = some w := h.settled ▸ (keepsMarks_stageKept.settle u).inFlight w flies
  have law : WriterLaw t := h.settled ▸ settle_writer u
  exact ⟨(law w goes).resolve_left fun same => changed same.symm, goes⟩

/-- R184: so is the counters block, whose change marks nothing by itself. -/
theorem Follows.countersRemarked {w : Write} (h : Follows u t) (flies : u.sto.inFlight = some w)
    (carries : w.image = .counters s.sto.counters) (changed : u.sto.counters ≠ s.sto.counters) :
    StoreItem.counters ∈ t.sto.dirty ∧ t.sto.inFlight = some w := by
  have counters : t.sto.counters = u.sto.counters := (congrArg Sto.counters h.ends.sto).trans rfl
  have item : w.image.item = .counters := congrArg WriteImage.item carries
  have remarked := h.remarked flies (by
    rw [item, carries]
    exact fun same => changed (counters.symm.trans (WriteImage.counters.inj same)))
  rwa [item] at remarked

/-! ### The law of the writer over a step -/

theorem writerLaw_carried : Carried WriterLaw where
  queue s q h w flies := (h w flies).imp (fun same => same.trans (by cases w.image <;> rfl)) id
  event _ _ u _ _ := settle_writer u
  pass s h w flies := by
    obtain ⟨w', flies', rfl⟩ := Option.map_eq_some_iff.1 flies
    exact (h w' flies').imp (fun same => same.trans (by cases w'.image <;> rfl)) id
  restart _ _ _ _ _ _ _ _ _ := fun _ flies => nomatch flies
  cutOff _ _ := fun _ flies => nomatch flies

/-! ### The reset counter (R125) -/

theorem fillCleared_dirty (s : State) (k : FaultKey) : s.sto.dirty ⊆ (s.fillCleared k).sto.dirty := by
  unfold State.fillCleared
  split
  · split
    · exact subset_markItem _ _
    · exact List.Subset.refl _
  · exact List.Subset.refl _

theorem leaveKey_dirty (s : State) (k : FaultKey) : s.sto.dirty ⊆ (s.leaveKey k).sto.dirty := by
  unfold State.leaveKey
  split
  · exact fillCleared_dirty { s with flt := { s.flt with active := dropKey s.flt.active k } } k
  · exact List.Subset.refl _

/-- R125: one decay of the reset counter, before the limit's key is judged. -/
def State.counterDecayed (s : State) : State :=
  ({ s with flt := { s.flt with
      resetCounter := s.flt.resetCounter - 1, decay := decayFor (s.flt.resetCounter - 1) } } : State).markDirty .lockout

/-- R125: A12 goes as the counter falls below its limit; no other key changes, and the record keeps its lockout. -/
theorem decayCounter_record (s : State) :
    s.decayCounter.flt.resetCounter = s.flt.resetCounter - 1 ∧ s.decayCounter.flt.decay = decayFor (s.flt.resetCounter - 1)
      ∧ s.decayCounter.flt.lockout = s.flt.lockout
      ∧ (∀ k, s.decayCounter.isActive k = (s.isActive k && decide (k = .a12 → s.flt.resetCounter ≠ 5)))
      ∧ .lockout ∈ s.decayCounter.sto.dirty := by
  have eq : s.decayCounter = if s.flt.resetCounter - 1 = 4 then s.counterDecayed.leaveKey .a12 else s.counterDecayed := rfl
  have marked : .lockout ∈ s.counterDecayed.sto.dirty := mem_markItem _ _
  rw [eq]
  split
  · next limit =>
    have key := leaveKey_leaves s.counterDecayed .a12
    have five : s.flt.resetCounter = 5 := by omega
    refine ⟨(congrArg Flt.resetCounter key.flt).trans rfl, (congrArg Flt.decay key.flt).trans rfl,
      (congrArg Flt.lockout key.flt).trans rfl, fun k => ?_, leaveKey_dirty _ _ marked⟩
    rw [leaveKey_isActive]
    change (s.isActive k && _) = _
    by_cases own : k = .a12 <;> simp [own, five]
  · next limit =>
    have other : s.flt.resetCounter ≠ 5 := by omega
    refine ⟨rfl, rfl, rfl, fun k => ?_, marked⟩
    change s.isActive k = _
    simp [other]

/-! ### O46 -/

theorem decay_counts (on : s.powered = true) (runs : s.flt.decay.isSome = true) (above : 0 < s.flt.resetCounter) :
    ∃ t, exec .decayTimerExpiry s = .next t ∧ t.flt.resetCounter = s.flt.resetCounter - 1
      ∧ t.flt.decay = (if s.flt.resetCounter = 1 then none else some 180000) ∧ t.flt.lockout = s.flt.lockout
      ∧ t.isActive .a12 = (s.isActive .a12 && decide (s.flt.resetCounter ≠ 5))
      ∧ (∀ k, k ≠ .a12 → t.isActive k = s.isActive k) ∧ Marked .lockout t := by
  obtain ⟨t, run, follows⟩ := exec_effect (c := .decayTimerExpiry) on rfl (if_pos runs)
  obtain ⟨counter, decay, lockout, keys, dirty⟩ := decayCounter_record s
  have ends := follows.ends
  have active (k : FaultKey) := (ends.isActive k).trans (keys k)
  refine ⟨t, run, ((congrArg Flt.resetCounter ends.flt).trans rfl).trans counter, ?_,
    ((congrArg Flt.lockout ends.flt).trans rfl).trans lockout, ?_, fun k other => ?_, follows.marked (.inl dirty)⟩
  · rw [show t.flt.decay = _ from ((congrArg Flt.decay ends.flt).trans rfl).trans decay]
    have none_iff : s.flt.resetCounter - 1 = 0 ↔ s.flt.resetCounter = 1 := by omega
    simp only [decayFor, none_iff, Config.decayMs]
  · rw [active]; simp
  · rw [active]; simp [other]

theorem exec_operatingMinute (on : s.powered = true) : ∃ u t, exec .operatingMinute s = .next t ∧ Follows u t
    ∧ u.sto = { s.sto with
        counters := { s.sto.counters with minutes := min stampMax (s.sto.counters.minutes + 1) }, dirty := u.sto.dirty }
    ∧ u.clock = { s.clock with minuteStart := s.clock.now } ∧ u.flt = s.flt
    ∧ (min stampMax (s.sto.counters.minutes + 1) % 60 = 0 → StoreItem.counters ∈ u.sto.dirty) := by
  obtain ⟨t, run, follows⟩ := exec_effect (c := .operatingMinute) on rfl rfl
  refine ⟨_, t, run, follows, ?_⟩
  dsimp only
  split
  · exact ⟨rfl, rfl, rfl, fun _ => mem_markItem _ _⟩
  · next other => exact ⟨rfl, rfl, rfl, fun hour => absurd hour other⟩

theorem minute_counts (on : s.powered = true) :
    ∃ t, exec .operatingMinute s = .next t
      ∧ t.sto.counters = { s.sto.counters with minutes := min 4294967294 (s.sto.counters.minutes + 1) }
      ∧ t.clock = { s.clock with minuteStart := s.clock.now } ∧ t.flt.active = s.flt.active
      ∧ (min 4294967294 (s.sto.counters.minutes + 1) % 60 = 0 → Marked .counters t) := by
  obtain ⟨u, t, run, follows, sto, clock, flt, marks⟩ := exec_operatingMinute on
  exact ⟨t, run, ((congrArg Sto.counters follows.ends.sto).trans rfl).trans ((congrArg Sto.counters sto).trans rfl),
    follows.ends.clock.trans clock, (congrArg Flt.active follows.ends.flt).trans (congrArg Flt.active flt :),
    fun hour => follows.marked (.inl (marks hour))⟩

theorem exec_storeWriteEnd {w : Write} {b : Bool} (on : s.powered = true) (flies : s.sto.inFlight = some w) :
    ∃ t, exec (.storeWriteEnd b) s = .next t ∧ Follows (s.endWrite w b) t :=
  exec_effect (c := .storeWriteEnd b) on rfl (by rw [flies])

/-- R184: the three events that count in the counters block write another block than the one in flight. -/
theorem counted_remarks {w : Write} (on : s.powered = true) (flies : s.sto.inFlight = some w)
    (carries : w.image = .counters s.sto.counters)
    (event : c = .burnerMinute ∧ (s.bsq.state = .stabilise ∨ s.bsq.state = .running)
        ∧ s.sto.counters.burnerMinutes < 4294967295
      ∨ c = .flameProved ∧ s.bsq.state = .safetyTime ∧ s.mfe.flameOn = false ∧ s.sto.counters.burnerStarts < 4294967295
      ∨ c = .operatingMinute ∧ s.sto.counters.minutes < 4294967294) :
    ∃ t, exec c s = .next t ∧ StoreItem.counters ∈ t.sto.dirty ∧ t.sto.inFlight = some w := by
  rcases event with ⟨rfl, burns, below⟩ | ⟨rfl, state, off, below⟩ | ⟨rfl, below⟩
  · obtain ⟨t, run, follows⟩ := exec_effect (c := .burnerMinute) on rfl (if_pos burns)
    refine ⟨t, run, follows.countersRemarked flies carries fun same => ?_⟩
    have := congrArg Counters.burnerMinutes same
    dsimp only at this
    omega
  · obtain ⟨u, t, run, follows, -, -, proved, -⟩ := flameProvedLeadsToStabilise s on off
    obtain ⟨-, -, -, -, -, -, -, -, -, -, sto, -⟩ := proved state
    refine ⟨t, run, follows.countersRemarked (by rw [sto]; exact flies) carries fun same => ?_⟩
    have := congrArg Counters.burnerStarts same
    rw [sto] at this
    dsimp only at this
    omega
  · obtain ⟨u, t, run, follows, sto, -⟩ := exec_operatingMinute on
    refine ⟨t, run, follows.countersRemarked (by rw [sto]; exact flies) carries fun same => ?_⟩
    have := congrArg Counters.minutes same
    rw [sto] at this
    simp only [stampMax] at this
    omega

/-- Settles O46: each event's record with the marks that the end of the event keeps, and the law of the writer. -/
theorem countersDecayAndAreWritten : Obligations.CountersDecayAndAreWritten := by
  refine ⟨fun _ => decay_counts, fun _ => minute_counts, fun s w on flies _ => ?good, fun s w on flies => ?bad,
    writerLaw_carried.keptByStep, fun _ _ _ => counted_remarks⟩
  case good =>
    obtain ⟨t, run, follows⟩ := exec_storeWriteEnd (b := true) on flies
    refine ⟨s.endWrite w true, t, run, follows, rfl, rfl, ?_⟩
    rcases w with ⟨image, left⟩
    cases image <;> rfl
  case bad =>
    obtain ⟨t, run, follows⟩ := exec_storeWriteEnd (b := false) on flies
    exact ⟨t, run, follows.marked (.inl (mem_markItem _ _))⟩

end Sys2Proof.Machine

/-! SUPPORT. The room loop's slots and exchanges: misses, and a slot that becomes SILENT or LOST (R147, R152). -/

namespace Sys2Proof.Machine

variable {c : Instr} {s t u : State} {n : RoomSlot}

/-! ### A slot becomes SILENT or LOST (R152) -/

theorem goSilent_eq (s : State) (n : RoomSlot) : s.goSilent n =
    (s.setSlot n { s.rlc.slots.get n with state := .silent } (holdEntry (s.dta.table.room.get n))).post (.slot n .silent) := rfl

theorem goLost_eq (s : State) (n : RoomSlot) : s.goLost n =
    ((s.setSlot n { s.rlc.slots.get n with state := .lost } none).enterKey (.a02 n)).post (.slot n .lost) := rfl

/-- A slot's record and its entry, and nothing else of the loop or of the demand table. -/
theorem setSlot_touches (s : State) (n : RoomSlot) (r : SlotRecord) (e : Option Entry) :
    Touches [.rlc, .dta] s (s.setSlot n r e) := by
  constructor <;> intros <;> simp_all [State.setSlot]

theorem setSlot_other (s : State) {n m : RoomSlot} (r : SlotRecord) (e : Option Entry) (other : m ≠ n) :
    (s.setSlot n r e).rlc.slots.get m = s.rlc.slots.get m := SlotSet.get_set_other _ _ _ _ other

/-- A02 enters after the slot and its entry have been written, and leaves both. -/
theorem enterA02_rlc (s : State) (n : RoomSlot) : (s.enterKey (.a02 n)).rlc = s.rlc ∧ (s.enterKey (.a02 n)).dta = s.dta :=
  have touches := enterKey_touches s (.a02 n)
  ⟨touches.rlc (by decide), touches.dta (by decide)⟩

theorem goLost_rlc (s : State) (n : RoomSlot) :
    (s.goLost n).rlc = { s.rlc with slots := s.rlc.slots.set n { s.rlc.slots.get n with state := .lost } } :=
  (enterA02_rlc (s.setSlot n { s.rlc.slots.get n with state := .lost } none) n).1

theorem goLost_isActive (s : State) (n : RoomSlot) (k : FaultKey) :
    (s.goLost n).isActive k = (s.isActive k || k == .a02 n) :=
  enterKey_isActive (s.setSlot n { s.rlc.slots.get n with state := .lost } none) (.a02 n) k

/-- Settles O49, from the slot's record, its entry and its notice as each is written. -/
theorem missesSilenceAndLoseASlot : Obligations.MissesSilenceAndLoseASlot := by
  refine ⟨fun s n on bound => ?silent, fun s n on silent => ?lost⟩
  case silent =>
    obtain ⟨t, run, follows⟩ := exec_effect (c := .slotSilent n) on rfl (if_pos bound)
    refine ⟨_, t, run, follows, ?_, ?_, fun m other => ?_, SourceSet.get_set s.dta.table (.room n) _,
      fun src other => SourceSet.get_set_other s.dta.table (.room n) _ _ other, rfl⟩
    · constructor <;> intros <;> simp_all [State.goSilent, State.setSlotRecord, State.post]
    · simp only [State.goSilent, State.setSlotRecord, State.post, SlotSet.get_set]
    · simp only [State.goSilent, State.setSlotRecord, State.post, SlotSet.get_set_other _ _ _ _ other]
  case lost =>
    obtain ⟨t, run, follows⟩ := exec_effect (c := .slotLost n) on rfl (if_pos silent)
    refine ⟨_, t, run, follows, ?_⟩
    generalize misses : s.setSlotRecord n { s.rlc.slots.get n with misses := 10 } = v
    have rlc := goLost_rlc v n
    have set : Touches [.rlc, .dta, .flt, .prt, .sto] s (v.setSlot n { v.rlc.slots.get n with state := .lost } none) := by
      subst misses
      constructor <;> intros <;> simp_all [State.setSlot, State.setSlotRecord]
    have key := enterKey_enters (v.setSlot n { v.rlc.slots.get n with state := .lost } none) (.a02 n)
    have dta : (v.goLost n).dta = v.dta.put (.room n) none := (enterA02_rlc _ n).2
    have active (k : FaultKey) := goLost_isActive v n k
    have prt : (v.goLost n).prt = _ := congrArg (Prt.post · (.slot n .lost)) key.notice
    rw [goLost_eq] at *
    subst misses
    refine ⟨(set.trans (key.touches.mono (by decide))).trans ((post_touches _ _).mono (by decide)), ?_, fun m other => ?_, ?_,
      fun src other => ?_, (active _).trans (by simp), fun k other => (active k).trans ?_, prt⟩
    · rw [rlc]; simp only [State.setSlotRecord, SlotSet.get_set]
    · rw [rlc]; simp only [State.setSlotRecord, SlotSet.get_set_other _ _ _ _ other]
    · rw [dta]; exact SourceSet.get_set s.dta.table (.room n) _
    · rw [dta]; exact SourceSet.get_set_other s.dta.table (.room n) _ _ other
    · rw [beq_false_of_ne other, Bool.or_false]; rfl

end Sys2Proof.Machine

/-! SUPPORT. The room loop's polls: missed exchanges, the POLL that is sent or skipped, and the loop power (R143 to R147, R152,
R154, R155). -/

namespace Sys2Proof.Machine

variable {c : Instr} {s t u : State} {n : RoomSlot}

/-! ### A missed poll (R147, R152) -/

/-- R152: from `s` to `t` slot n counts one more miss, which may change its state; of the loop's record nothing else changes, and
no key leaves the active fault set. -/
structure MissesPoll (n : RoomSlot) (s t : State) : Prop where
  rlc : t.rlc = { s.rlc with slots := t.rlc.slots }
  slot : t.rlc.slots.get n = { s.rlc.slots.get n with
    misses := min 255 ((s.rlc.slots.get n).misses + 1), state := (t.rlc.slots.get n).state }
  other : ∀ m, m ≠ n → t.rlc.slots.get m = s.rlc.slots.get m
  active : ∀ k, s.isActive k = true → t.isActive k = true

theorem missPoll_misses (s : State) (n : RoomSlot) : MissesPoll n s (s.missPoll n) := by
  have counted : MissesPoll n s (s.setSlotRecord n
      { s.rlc.slots.get n with misses := min 255 ((s.rlc.slots.get n).misses + 1) }) := {
    rlc := rfl
    slot := by simp only [State.setSlotRecord, SlotSet.get_set]
    other := fun m other => SlotSet.get_set_other s.rlc.slots n m _ other
    active := fun _ => id }
  unfold State.missPoll
  dsimp only
  generalize s.setSlotRecord n { s.rlc.slots.get n with misses := min 255 ((s.rlc.slots.get n).misses + 1) } = v at counted ⊢
  have moved (q : SlotState) {t : State} (rlc : t.rlc = { v.rlc with slots := v.rlc.slots.set n { v.rlc.slots.get n with state := q } })
      (active : ∀ k, v.isActive k = true → t.isActive k = true) : MissesPoll n s t := {
    rlc := by rw [rlc, counted.rlc]
    slot := by rw [rlc]; simp only [SlotSet.get_set]; rw [counted.slot]
    other := fun m other => by rw [rlc]; exact (SlotSet.get_set_other v.rlc.slots n m _ other).trans (counted.other m other)
    active := fun k h => active k (counted.active k h) }
  split
  · split
    · exact moved .silent rfl fun _ => id
    · exact counted
  · split
    · exact moved .lost (goLost_rlc v n) fun k h => by rw [goLost_isActive, h]; rfl
    · exact counted
  · exact counted

/-- R147: no exchange runs, so none ends. -/
theorem endMissed_none (idle : s.rlc.exchange = .none) : s.endMissed = s := by
  unfold State.endMissed
  rw [idle]
  rfl

/-- R147: a running exchange that is not dropped ends as a miss of its slot. -/
theorem endMissed_some (runs : s.rlc.exchange.slot = some n) (kept : s.rlc.dropped = false) :
    s.endMissed = s.closeExchange.missPoll n := by
  unfold State.endMissed
  rw [runs]
  simp only [kept, Bool.false_eq_true, if_false]

theorem endMissed_misses (runs : s.rlc.exchange.slot = some n) (kept : s.rlc.dropped = false) :
    MissesPoll n s.closeExchange s.endMissed := endMissed_some runs kept ▸ missPoll_misses _ n

/-! ### The poll schedule (R145, R146) -/

/-- R145: the poll of the next enabled slot falls due. -/
def State.pollNext (s : State) : State :=
  match s.rlc.nextSlot with
  | none => s
  | some n => s.pollDue n

theorem pollNext_none (none : s.rlc.nextSlot = none) : s.pollNext = s := by unfold State.pollNext; rw [none]

theorem pollNext_some (next : s.rlc.nextSlot = some n) : s.pollNext = s.pollDue n := by unfold State.pollNext; rw [next]

/-- A poll tick with no exchange running. -/
theorem exec_pollTick (on : s.powered = true) (idle : s.rlc.exchange = .none) :
    ∃ t, exec .pollTick s = .next t ∧ Follows (State.pollNext { s with clock := { s.clock with pollTickDue := false } }) t := by
  have rests : State.endMissed { s with clock := { s.clock with pollTickDue := false } } = _ := endMissed_none idle
  exact exec_effect (c := .pollTick) on rfl (congrArg State.pollNext rests)

/-- R142: the check byte makes the byte sum 0xFF. -/
theorem checkByte_sum (l : List Byte) : (l ++ [checkByte l]).foldl (· + ·) 0 = 0xFF := by
  rw [List.foldl_append]
  exact BitVec.add_not_self _

/-- R143: the POLL frame's bytes. -/
theorem formPoll_bytes (s : State) (n : RoomSlot) : (s.formPoll n).length = 11 ∧ (s.formPoll n).foldl (· + ·) 0 = 0xFF
    ∧ (s.formPoll n).take 6
        = [BitVec.ofNat 8 (slotNumber n), 1] ++ wordBytes (tempWord s.flow) ++ wordBytes (tempWord s.outlet)
    ∧ (s.formPoll n)[6]? = some (BitVec.ofNat 8 (modeCode s.rlc.planMode))
    ∧ (s.formPoll n)[7]? = some (if s.rlc.planRequest then 1 else 0)
    ∧ (s.formPoll n)[8]? = some (if s.rlc.lockoutPresent then 1 else 0)
    ∧ (s.formPoll n)[9]? = some (BitVec.ofNat 8 (displayedCode s.rlc.displayed)) :=
  ⟨rfl, checkByte_sum _, rfl, rfl, rfl, rfl, rfl⟩

theorem leaveKey_absent {k : FaultKey} (absent : s.isActive k = false) : s.leaveKey k = s :=
  (leaveKey_leaves s k).ignored absent

/-- R146: with A10 not active the run that is complete clears nothing. -/
theorem sendPoll_eq (s : State) (n : RoomSlot) (quiet : s.isActive .a10 = false) : s.sendPoll n = { s with rlc :=
    { s.rlc with
      poll := s.formPoll n, exchange := .sending n 87, pollsSent := min 65535 (s.rlc.pollsSent + 1)
      onTimeRun := min 10 (s.rlc.onTimeRun + 1) } } := by
  unfold State.sendPoll
  dsimp only
  split
  · next complete =>
    rw [State.endOnTimeRun, leaveKey_absent]
    · rw [complete]
      rfl
    · exact quiet
  · rfl

theorem skipPoll_eq (runs : s.rlc.exchange.slot = some n) (kept : s.rlc.dropped = false) : s.skipPoll =
    ({ s.closeExchange.missPoll n with rlc := { (s.closeExchange.missPoll n).rlc with
      skippedPolls := count16 (s.closeExchange.missPoll n).rlc.skippedPolls, onTimeRun := 0 } } : State).enterKey .a10 := by
  unfold State.skipPoll
  rw [endMissed_some runs kept]

/-- Settles O47, each event from the exchange that it finds. -/
theorem pollsAreSentOrSkipped : Obligations.PollsAreSentOrSkipped := by
  refine ⟨fun s n on idle powered next => ?due, fun s on idle disabled => ?none, fun s n on idle off next => ?off,
    fun s n since on waits quiet => ?start, fun s n since on waits kept => ?skip, fun s n left on sends => ?sent, fun s on => ?step⟩
  case due =>
    obtain ⟨t, run, follows⟩ := exec_pollTick on idle
    rw [pollNext_some (s := { s with clock := { s.clock with pollTickDue := false } }) next] at follows
    refine ⟨t, run, ?_⟩
    have waits : State.pollDue { s with clock := { s.clock with pollTickDue := false } } n = _ :=
      if_neg (show ¬ s.rlc.offTimer.isSome = true by simp [powered])
    rw [waits] at follows
    exact follows
  case none =>
    obtain ⟨t, run, follows⟩ := exec_pollTick on idle
    have none : s.rlc.nextSlot = none := List.find?_eq_none.2 fun n _ => by simp [disabled n]
    rw [pollNext_none (s := { s with clock := { s.clock with pollTickDue := false } }) none] at follows
    exact ⟨t, run, follows⟩
  case off =>
    obtain ⟨t, run, follows⟩ := exec_pollTick on idle
    rw [pollNext_some (s := { s with clock := { s.clock with pollTickDue := false } }) next] at follows
    have misses : State.pollDue { s with clock := { s.clock with pollTickDue := false } } n = _ :=
      if_pos (show s.rlc.offTimer.isSome = true from off)
    rw [misses] at follows
    have missed := missPoll_misses { s with
      clock := { s.clock with pollTickDue := false }, rlc := { s.rlc with pointer := some n } } n
    generalize State.missPoll _ n = u at follows missed
    obtain ⟨rlc, slot, other, -⟩ := missed
    refine ⟨t, run, ?_⟩
    rw [follows.ends.rlc]
    dsimp only
    rw [slot, rlc]
    exact ⟨rfl, idle, rfl, other, rfl, rfl, rfl, rfl⟩
  case start =>
    obtain ⟨t, run, follows⟩ := exec_effect (c := .pollStart) (u := s.sendPoll n) on rfl (by rw [waits])
    rw [sendPoll_eq s n quiet] at follows
    have ends := follows.ends
    have poll : t.rlc.poll = s.formPoll n := congrArg Rlc.poll ends.rlc
    obtain ⟨length, sum, head, mode, request, lockout, key⟩ := formPoll_bytes s n
    refine ⟨t, run, ?_⟩
    rw [poll]
    refine ⟨ends, length, sum, head, mode.trans ?_, request, lockout, key⟩
    cases s.rlc.planMode <;> rfl
  case skip =>
    obtain ⟨t, run, follows⟩ := exec_effect (c := .pollSkip) (u := s.skipPoll) on rfl (by rw [waits])
    have runs : s.rlc.exchange.slot = some n := by rw [waits]; rfl
    have missed := missPoll_misses s.closeExchange n
    rw [skipPoll_eq runs kept] at follows
    generalize s.closeExchange.missPoll n = v at follows missed
    obtain ⟨rlc, slot, other, -⟩ := missed
    have key := enterKey_isActive { v with rlc := { v.rlc with skippedPolls := count16 v.rlc.skippedPolls, onTimeRun := 0 } } .a10 .a10
    have same := (enterKey_touches { v with rlc := { v.rlc with
      skippedPolls := count16 v.rlc.skippedPolls, onTimeRun := 0 } } .a10).rlc (by decide)
    refine ⟨t, run, ?_⟩
    rw [follows.ends.isActive, key, follows.ends.rlc]
    dsimp only
    rw [same]
    dsimp only
    rw [slot, rlc]
    exact ⟨rfl, rfl, rfl, rfl, by simp, rfl, other⟩
  case sent => exact exec_effect (c := .pollSendEnd) on rfl (by rw [sends]; rfl)
  case step => exact exec_effect (c := .inboundCurrentStep) on rfl rfl

/-! ### The loop power (R154, R155) -/

/-- R154: the part as the power has been cut and the reception has ended, before the running exchange ends. -/
def State.shorted (s : State) : State :=
  let v := ({ s with rlc := { s.rlc with
    offTimer := some Config.loopOffMs, shorts := count16 s.rlc.shorts, cleanTimer := none } } : State).enterKey .a11
  { v with rlc := { v.rlc with receiving := none, foreign := false, fifo := [], level := false } }

theorem takeShort_eq (s : State) : s.takeShort = s.shorted.endMissed := rfl

theorem shorted_rlc (s : State) : s.shorted.rlc = { s.rlc with
    offTimer := some Config.loopOffMs, shorts := count16 s.rlc.shorts, cleanTimer := none
    receiving := none, foreign := false, fifo := [], level := false } := by
  unfold State.shorted
  dsimp only
  rw [(enterKey_touches _ .a11).rlc (by decide)]

theorem shorted_isActive (s : State) : s.shorted.isActive .a11 = true :=
  (enterKey_isActive { s with rlc := { s.rlc with
    offTimer := some Config.loopOffMs, shorts := count16 s.rlc.shorts, cleanTimer := none } } .a11 .a11).trans (by simp)

/-- R147: of the loop's record an exchange that ends changes the exchange and the misses and state of its slot alone, and no key
leaves the set. -/
structure LeavesReception (s t : State) : Prop where
  rlc : t.rlc = { s.rlc with exchange := t.rlc.exchange, dropped := t.rlc.dropped, slots := t.rlc.slots }
  slots : ∀ n, t.rlc.slots.get n = { s.rlc.slots.get n with
    misses := (t.rlc.slots.get n).misses, state := (t.rlc.slots.get n).state }
  active : ∀ k, s.isActive k = true → t.isActive k = true

theorem LeavesReception.refl (s : State) : LeavesReception s s := ⟨rfl, fun _ => rfl, fun _ => id⟩

theorem MissesPoll.leavesReception (h : MissesPoll n s.closeExchange t) : LeavesReception s t where
  rlc := by rw [h.rlc]; rfl
  slots m := by
    by_cases own : m = n
    · rw [own, h.slot]
      rfl
    · rw [h.other m own]
      rfl
  active := h.active

theorem endMissed_leaves (s : State) : LeavesReception s s.endMissed ∧ s.endMissed.rlc.exchange = .none := by
  rcases exchange : s.rlc.exchange.slot with _ | n
  · have idle : s.rlc.exchange = .none := by
      cases e : s.rlc.exchange <;> first | rfl | (rw [e] at exchange; exact nomatch exchange)
    rw [endMissed_none idle]
    exact ⟨.refl s, idle⟩
  · rcases dropped : s.rlc.dropped with _ | _
    · have missed := endMissed_misses exchange dropped
      exact ⟨missed.leavesReception, by rw [missed.rlc]; rfl⟩
    · have closed : s.endMissed = s.closeExchange := by
        unfold State.endMissed
        rw [exchange]
        exact if_pos dropped
      rw [closed]
      exact ⟨⟨rfl, fun _ => rfl, fun _ => id⟩, rfl⟩

/-- Settles O51, from the part as the power has been cut and from the exchange that the short ends. -/
theorem loopShortCutsThePower : Obligations.LoopShortCutsThePower := by
  refine ⟨fun s current lasted on above long powered => ?short, fun s on off => ?restored⟩
  case short =>
    obtain ⟨t, run, follows⟩ := exec_effect (c := .loopShort current lasted) on rfl
      (if_pos ⟨above, long, by rw [powered]; rfl⟩)
    rw [takeShort_eq] at follows
    obtain ⟨⟨rlc, -, active⟩, exchange⟩ := endMissed_leaves s.shorted
    have ends := follows.ends
    have record : t.rlc = { s.shorted.endMissed.rlc with
      planMode := t.rlc.planMode, planRequest := t.rlc.planRequest, lockoutPresent := t.rlc.lockoutPresent
      displayed := t.rlc.displayed } := ends.rlc
    refine ⟨t, run, ?_⟩
    rw [ends.isActive, active _ (shorted_isActive s), record]
    dsimp only
    rw [exchange, rlc, shorted_rlc]
    refine ⟨rfl, rfl, rfl, rfl, rfl, rfl, rfl, rfl, rfl, rfl, fun kept n runs => ?_⟩
    have missed := endMissed_misses (s := s.shorted) (n := n) (by rw [shorted_rlc]; exact runs) (by rw [shorted_rlc]; exact kept)
    have same : s.shorted.closeExchange.rlc.slots = s.rlc.slots := (congrArg Rlc.slots (shorted_rlc s) :)
    dsimp only
    rw [missed.slot, same]
    exact ⟨rfl, rfl⟩
  case restored => exact exec_effect (c := .loopOffTimerExpiry) on rfl (if_pos off)

end Sys2Proof.Machine

/-! SUPPORT. Receptions of the room loop: the preamble, the FIFO, broken frames and the end of the answer window (R141, R147,
R148). -/

namespace Sys2Proof.Machine

variable {c : Instr} {s t u : State} {n : RoomSlot}

/-! ### Receptions (R147, R148) -/

theorem endClosing_leaves (s : State) : LeavesReception s s.endClosing := by
  unfold State.endClosing
  split
  · exact (endMissed_leaves s).1
  · exact .refl s

/-- R148: a broken frame as it is counted and flushed, before the exchange that its reception kept open ends. -/
def State.frameBroken (s : State) (n : RoomSlot) : State :=
  { s with rlc := { s.rlc with
    slots := s.rlc.slots.set n { s.rlc.slots.get n with bad := count16 (s.rlc.slots.get n).bad }
    fifo := [], level := false, receiving := none, broken := true, idle := 0 } }

theorem breakFrame_eq (s : State) (n : RoomSlot) : s.breakFrame n = (s.frameBroken n).endClosing := rfl

/-- R148: what a broken frame leaves of the reception and of its slot. -/
theorem breakFrame_broken (s : State) (n : RoomSlot) : (s.breakFrame n).rlc.fifo = [] ∧ (s.breakFrame n).rlc.level = false
    ∧ (s.breakFrame n).rlc.receiving = none ∧ (s.breakFrame n).rlc.broken = true
    ∧ ((s.breakFrame n).rlc.slots.get n).bad = count16 (s.rlc.slots.get n).bad
    ∧ ((s.breakFrame n).rlc.slots.get n).good = (s.rlc.slots.get n).good := by
  rw [breakFrame_eq]
  obtain ⟨rlc, slots, -⟩ := endClosing_leaves (s.frameBroken n)
  have own : (s.frameBroken n).rlc.slots.get n = { s.rlc.slots.get n with bad := count16 (s.rlc.slots.get n).bad } :=
    SlotSet.get_set _ _ _
  rw [slots n, own, rlc]
  exact ⟨rfl, rfl, rfl, rfl, rfl, rfl⟩

/-- R148: a byte that fits the FIFO, before the level is judged. -/
def State.byteTaken (s : State) (b : Byte) : State :=
  { s with rlc := { s.rlc with fifo := s.rlc.fifo ++ [b], level := 24 < s.rlc.fifo.length + 1 } }

theorem exec_receiveByte {b : Byte} (on : s.powered = true) (receives : s.rlc.receiving = some n) :
    ∃ t, exec (.receiveByte b) s = .next t ∧ Follows (if 32 ≤ s.rlc.fifo.length then s.breakFrame n
      else if (s.byteTaken b).rlc.level && !s.rlc.level && s.rlc.exchange.answerable n then (s.byteTaken b).endMissed
      else s.byteTaken b) t :=
  exec_effect (c := .receiveByte b) on rfl (by rw [receives]; rfl)

/-- R147: a frame that can be the answer belongs to the running exchange. -/
theorem slot_of_answerable (answers : s.rlc.exchange.answerable n = true) : s.rlc.exchange.slot = some n := by
  cases e : s.rlc.exchange <;> rw [e] at answers
  case window m left => exact congrArg some (beq_iff_eq.1 answers)
  case closing m => exact congrArg some (beq_iff_eq.1 answers)
  all_goals exact nomatch answers

/-- R147, R148: a preamble outside a reception, with the loop powered. -/
theorem exec_preamble (on : s.powered = true) (powered : s.rlc.offTimer = none) (free : s.rlc.receiving = none) :
    ∃ t, exec .preambleRecognised s = .next t ∧ Follows (match s.rlc.exchange with
      | .sending _ _ => s
      | .window n _ =>
        if s.rlc.broken then { s with rlc := { s.rlc with idle := 0 } }
        else { s with rlc := { s.rlc with receiving := some n, foreign := false, fifo := [], level := false, idle := 0 } }
      | _ => { s with rlc := { s.rlc with foreign := true, idle := 0 } }) t :=
  exec_effect (c := .preambleRecognised) on rfl (if_neg (by rw [powered, free]; exact nofun))

/-- A missed exchange through the end of the event. -/
theorem Follows.missed (h : Follows u t) (missed : MissesPoll n s.closeExchange u) : t.rlc.exchange = .none
    ∧ (t.rlc.slots.get n).misses = min 255 ((s.rlc.slots.get n).misses + 1)
    ∧ ∀ m, m ≠ n → t.rlc.slots.get m = s.rlc.slots.get m := by
  obtain ⟨rlc, slot, other, -⟩ := missed
  rw [h.ends.rlc]
  dsimp only
  rw [slot]
  exact ⟨by rw [rlc]; rfl, rfl, other⟩

/-- Settles O48, each event from the exchange and the reception that it finds. -/
theorem receptionFillsTheFifo : Obligations.ReceptionFillsTheFifo := by
  refine ⟨fun s n left on window free powered => ⟨fun whole => ?start, fun broken => ?rest, fun kept => ?closes⟩,
    fun s n m left on window receives => ?closing, fun s on idle powered free => ?foreign,
    fun s n b on receives few => ?byte, fun s n b on receives full kept below answers => ?level,
    fun s n c on receives event => ?broken⟩
  case start =>
    obtain ⟨t, run, follows⟩ := exec_preamble on powered free
    rw [window] at follows
    dsimp only at follows
    rw [if_neg (by rw [whole]; exact nofun)] at follows
    exact ⟨t, run, follows⟩
  case rest =>
    obtain ⟨t, run, follows⟩ := exec_preamble on powered free
    rw [window] at follows
    dsimp only at follows
    rw [if_pos broken] at follows
    exact ⟨t, run, follows⟩
  case closes =>
    obtain ⟨t, run, follows⟩ := exec_effect (c := .answerWindowClose) (u := s.endMissed) on rfl
      (by rw [window]; exact if_neg (by rw [free]; exact nofun))
    exact ⟨t, run, follows.missed (endMissed_misses (by rw [window]; rfl) kept)⟩
  case closing =>
    exact exec_effect (c := .answerWindowClose) on rfl (by rw [window]; exact if_pos (by rw [receives]; rfl))
  case foreign =>
    obtain ⟨t, run, follows⟩ := exec_preamble on powered free
    rw [idle] at follows
    exact ⟨t, run, follows⟩
  case byte =>
    obtain ⟨t, run, follows⟩ := exec_receiveByte (b := b) on receives
    have low : (s.byteTaken b).rlc.level = false := decide_eq_false (by omega)
    rw [if_neg (by omega), low, Bool.false_and, Bool.false_and, if_neg Bool.false_ne_true] at follows
    have taken : s.byteTaken b = { s with rlc := { s.rlc with fifo := s.rlc.fifo ++ [b], level := false } } :=
      congrArg (fun x => { s with rlc := { s.rlc with fifo := s.rlc.fifo ++ [b], level := x } }) low
    rw [taken] at follows
    exact ⟨t, run, follows⟩
  case level =>
    obtain ⟨t, run, follows⟩ := exec_receiveByte (b := b) on receives
    have high : (s.byteTaken b).rlc.level = true := decide_eq_true (by omega)
    rw [if_neg (by omega), high, below, answers, if_pos (show (true && !false && true) = true from rfl)] at follows
    obtain ⟨exchange, misses, -⟩ := follows.missed
      (endMissed_misses (s := s.byteTaken b) (n := n) (slot_of_answerable answers) kept)
    obtain ⟨⟨rlc, -, -⟩, -⟩ := endMissed_leaves (s.byteTaken b)
    refine ⟨t, run, ?_, ?_, exchange, misses⟩
    · rw [follows.ends.rlc, rlc]; rfl
    · rw [follows.ends.rlc, rlc]; exact high
  case broken =>
    have run : ∃ t, exec c s = .next t ∧ Follows (s.breakFrame n) t := by
      rcases event with rfl | ⟨b, rfl, full⟩
      · exact exec_effect (c := .codeViolation) on rfl (by rw [receives])
      · obtain ⟨t, run, follows⟩ := exec_receiveByte (b := b) on receives
        rw [if_pos full] at follows
        exact ⟨t, run, follows⟩
    obtain ⟨t, run, follows⟩ := run
    refine ⟨t, run, ?_⟩
    rw [follows.ends.rlc]
    exact breakFrame_broken s n

end Sys2Proof.Machine

/-! SUPPORT. REPORT frames (R142, R144, R147, R151, R153) and what an accepted reset request leaves (R129). -/

namespace Sys2Proof.Machine

variable {c : Instr} {s t u : State} {n : RoomSlot}

/-! ### The end of an event enters neither START-CHECK nor LOCKOUT -/

theorem plain_stageKept : StageKept fun s t => t.bsq.state = s.bsq.state ∨ t.bsq.state.plain where
  refl _ := .inl rfl
  trans first second := by
    rcases second with same | plain
    · rw [same]; exact first
    · exact .inr plain
  guardTap _ := .inl rfl
  judgeKeepwarm _ := .inl rfl
  endTest s cause := .inl (by rw [(endTest_touches s cause).bsq (by decide)])
  formTargets _ := .inl rfl
  evaluate _ := .inl rfl
  serveMode s := .inl (serveMode_state s)
  applyCaps s := .inl (applyCaps_state s)
  judgeRequest s := by
    rcases judgeRequest_cases s with same | ⟨-, -, burn⟩ | ⟨-, idle | purge⟩
    · exact .inl (by rw [same])
    · rw [burn]
      rcases startBurn_state s with state | state <;> exact .inr (plain_of state (by decide))
    · exact .inr (plain_of (idle ▸ goto_state s .idle) (by decide))
    · exact .inr (plain_of (purge ▸ goto_state s .postPurge) (by decide))
  judgePreCheck s := by
    unfold State.judgePreCheck
    split
    · exact .inr (plain_of (goto_state s .prePurge) (by decide))
    · exact .inl rfl
  driveOutputs _ := .inl rfl
  drivePins _ := .inl rfl
  remark s := .inl (by rw [(remark_touches s).bsq (by decide)])
  startWrite s := .inl (by rw [(startWrite_touches s).bsq (by decide)])

theorem settle_plain (s : State) : s.settle.bsq.state = s.bsq.state ∨ s.settle.bsq.state.plain := plain_stageKept.settle s

theorem Follows.notStart (h : Follows u t) (state : u.bsq.state ≠ .startCheck) : t.bsq.state ≠ .startCheck := by
  rw [h.settled]
  rcases settle_plain u with same | plain
  · rwa [same]
  · exact plain.1

theorem Follows.notLockout (h : Follows u t) (state : u.bsq.state ≠ .lockout) : t.bsq.state ≠ .lockout := by
  rw [h.settled]
  rcases settle_plain u with same | plain
  · rwa [same]
  · exact plain.2

/-! ### An accepted reset request (R127, R129) -/

theorem requestReset_accepted {l : Lockout} (src : ResetSource) (held : s.flt.lockout = some l) (state : s.bsq.state ≠ .startCheck)
    (below : s.flt.resetCounter < 5) (absent : s.flt.conditions.any = false) :
    s.requestReset src = (s.acceptReset l.cause src, .accepted) := by
  have outcome : s.resetOutcome = .accepted := by
    have locked : s.locked = true := by unfold State.locked; rw [held]; rfl
    unfold State.resetOutcome
    rw [if_neg state, if_neg (by rw [locked]; exact nofun), if_neg (by omega), if_neg (by rw [absent]; exact nofun)]
  unfold State.requestReset
  rw [outcome, held]

/-- R129: the part after an accepted reset request, but for the history that it writes. -/
structure ResetAccepted (cause : FaultKey) (src : ResetSource) (s t : State) : Prop where
  unlocked : t.flt.lockout = none
  counter : t.flt.resetCounter = s.flt.resetCounter + 1
  decay : t.flt.decay = if s.flt.resetCounter = 0 then some 180000 else s.flt.decay
  active : t.flt.active = dropKey s.flt.active cause
  state : t.bsq.state = .idle
  failures : t.bsq.provingFailures = 0
  prt : t.prt = (s.prt.post (.reset .accepted src)).post (.cleared cause)
  rlc : t.rlc = s.rlc
  ring : t.flt.ring = (s.resetHistory cause src).flt.ring
  lastCreation : t.flt.lastCreation = (s.resetHistory cause src).flt.lastCreation
  dirty : t.sto.dirty = (s.resetHistory cause src).sto.dirty
  inFlight : t.sto.inFlight = s.sto.inFlight

/-- What the accepted reset leaves of the part whose history it has written. -/
theorem freed_frame (s : State) (cause : FaultKey) (src : ResetSource) : (s.freed cause src).rlc = (s.resetHistory cause src).rlc
    ∧ (s.freed cause src).prt = ((s.resetHistory cause src).prt.post (.reset .accepted src)).post (.cleared cause)
    ∧ (s.freed cause src).sto = (s.resetHistory cause src).sto ∧ (s.freed cause src).bsq.provingFailures = 0 := by
  unfold State.freed
  generalize s.resetHistory cause src = u
  exact ⟨rfl, rfl, rfl, rfl⟩

theorem acceptReset_accepted (s : State) (cause : FaultKey) (src : ResetSource) :
    ResetAccepted cause src s (s.acceptReset cause src) := by
  rw [acceptReset_eq]
  have record := freed_flt s cause src
  have history := resetHistory_writes s cause src
  have counted := resetHistory_flt s cause src
  obtain ⟨rlc, prt, sto, failures⟩ := freed_frame s cause src
  generalize isHistory : s.resetHistory cause src = h at record history counted rlc prt sto ⊢
  generalize s.freed cause src = u at record rlc prt sto failures ⊢
  have entered := goto_touches u .idle
  have flt := entered.flt (by decide)
  have kept := entered.sto (by decide)
  have samePrt : h.prt = s.prt := history.touches.prt (by decide)
  have sameRlc : h.rlc = s.rlc := history.touches.rlc (by decide)
  have sameFlight : h.sto.inFlight = s.sto.inFlight := by rw [history.sto]
  constructor
  case unlocked => rw [flt, record, counted]
  case counter => rw [flt, record, counted]; rfl
  case decay => rw [flt, record, counted]; rfl
  case active => exact (congrArg Flt.active (flt.trans record) :)
  case state => exact goto_state u .idle
  case failures => rw [(goto_endsFrom u .idle).bsq.1, failures]
  case prt => rw [entered.prt (by decide), prt, samePrt]
  case rlc => rw [entered.rlc (by decide), rlc, sameRlc]
  case ring => rw [isHistory]; exact (congrArg Flt.ring (flt.trans record) :)
  case lastCreation => rw [isHistory]; exact (congrArg Flt.lastCreation (flt.trans record) :)
  case dirty => rw [isHistory, kept, sto]
  case inFlight => rw [kept, sto, sameFlight]

/-- R127: a reset request of the room loop leaves the loop's record. -/
theorem requestReset_rlc (s : State) (src : ResetSource) : (s.requestReset src).1.rlc = s.rlc := by
  unfold State.requestReset
  split
  · exact (acceptReset_accepted s _ src).rlc
  · exact (enterKey_touches _ .a12).rlc (by decide)
  · rfl

/-! ### The notices -/

theorem post_prefix (s : State) (x : Notice) : s.prt.notices <+: (s.post x).prt.notices := by
  change s.prt.notices <+: (s.prt.post x).notices
  unfold Prt.post
  split
  · exact List.prefix_append _ _
  · exact List.prefix_refl _

theorem post_room (p : Prt) (x : Notice) (room : p.notices.length < 16) : (p.post x).notices = p.notices ++ [x] := by
  unfold Prt.post
  rw [if_pos room]

theorem post_length_le (p : Prt) (x : Notice) : (p.post x).notices.length ≤ p.notices.length + 1 := by
  unfold Prt.post
  split
  · simp
  · exact Nat.le_succ _

theorem mem_post (p : Prt) {x : Notice} (y : Notice) (held : x ∈ p.notices) : x ∈ (p.post y).notices := by
  unfold Prt.post
  split
  · exact List.mem_append_left _ held
  · exact held

/-! ### A REPORT that is taken (R151) -/

/-- R141, R148: the line has come to rest after a reception, and the FIFO is empty. -/
def State.lineRested (s : State) : State :=
  { s with rlc := { s.rlc with foreign := false, broken := false, idle := 0, fifo := [], level := false, receiving := none } }

theorem exec_frameEnd (on : s.powered = true) (receives : s.rlc.receiving = some n) :
    ∃ t, exec .inboundFrameEnd s = .next t ∧ Follows (match readReport n s.rlc.fifo with
      | none => (s.lineRested.countBad n).endClosing
      | some rep =>
        if s.rlc.exchange.answerable n then
          if s.rlc.dropped then s.lineRested.closeExchange else s.lineRested.takeReport n rep
        else s.lineRested) t :=
  exec_effect (c := .inboundFrameEnd) on rfl (by rw [receives]; rfl)

/-- R144, R147: a REPORT that can be the answer and is not dropped is taken. -/
theorem exec_report {rep : Report} (on : s.powered = true) (receives : s.rlc.receiving = some n)
    (exchange : (∃ left, s.rlc.exchange = .window n left) ∨ s.rlc.exchange = .closing n) (kept : s.rlc.dropped = false)
    (valid : readReport n s.rlc.fifo = some rep) :
    ∃ t, exec .inboundFrameEnd s = .next t ∧ Follows (s.lineRested.takeReport n rep) t := by
  obtain ⟨t, run, follows⟩ := exec_frameEnd on receives
  have answers : s.rlc.exchange.answerable n = true := by
    rcases exchange with ⟨left, window⟩ | closing
    · rw [window]; exact beq_self_eq_true _
    · rw [closing]; exact beq_self_eq_true _
  rw [valid] at follows
  dsimp only at follows
  rw [if_pos answers, if_neg (by rw [kept]; exact nofun)] at follows
  exact ⟨t, run, follows⟩

/-- R151: what a REPORT that is taken leaves of the loop, the demand table, the faults and the notices, before the reset request
that it may carry. -/
structure ReportTaken (n : RoomSlot) (rep : Report) (s t : State) : Prop where
  rlc : t.rlc = { s.rlc with
    exchange := .none, dropped := false, slots := s.rlc.slots.set n ((s.rlc.slots.get n).answer rep) }
  dta : t.dta = s.dta.put (.room n) (some (reportEntry rep (s.rlc.slots.get n).zone))
  bsq : t.bsq = s.bsq
  settings : t.sto.settings = s.sto.settings
  flt : t.flt.lockout = s.flt.lockout ∧ t.flt.resetCounter = s.flt.resetCounter ∧ t.flt.conditions = s.flt.conditions
  a02 : (s.rlc.slots.get n).state = .lost → t.isActive (.a02 n) = false
  quiet : (s.rlc.slots.get n).state = .bound → t.prt = s.prt
  notices : t.prt.notices.length ≤ s.prt.notices.length + 2

theorem reported_taken (s : State) (n : RoomSlot) (rep : Report) : ReportTaken n rep s (s.reported n rep) := by
  have noticed : ∀ v : State, (v = s.answered n rep ∨ v = (s.answered n rep).post (.slot n .bound)) →
      v.rlc = (s.answered n rep).rlc ∧ v.dta = (s.answered n rep).dta ∧ v.bsq = s.bsq ∧ v.sto = s.sto ∧ v.flt = s.flt
        ∧ v.prt.notices.length ≤ s.prt.notices.length + 1 := by
    rintro v (rfl | rfl)
    · exact ⟨rfl, rfl, rfl, rfl, rfl, Nat.le_succ _⟩
    · exact ⟨rfl, rfl, rfl, rfl, rfl, post_length_le _ _⟩
  have isNoticed := noticed (if (s.rlc.slots.get n).state = .bound then s.answered n rep
    else (s.answered n rep).post (.slot n .bound)) (by split; exact .inl rfl; exact .inr rfl)
  have bound : (s.rlc.slots.get n).state = .bound → (if (s.rlc.slots.get n).state = .bound then s.answered n rep
    else (s.answered n rep).post (.slot n .bound)).prt = s.prt := fun h => by rw [if_pos h]; rfl
  unfold State.reported
  dsimp only
  generalize (if (s.rlc.slots.get n).state = .bound then s.answered n rep
    else (s.answered n rep).post (.slot n .bound)) = v at isNoticed bound ⊢
  obtain ⟨rlc, dta, bsq, sto, flt, notices⟩ := isNoticed
  split
  · next lost =>
    have key := leaveKey_leaves v (.a02 n)
    constructor
    case rlc => exact (key.touches.rlc (by decide)).trans rlc
    case dta => exact (key.touches.dta (by decide)).trans dta
    case bsq => exact (key.touches.bsq (by decide)).trans bsq
    case settings => rw [key.sto, ← sto]
    case flt => rw [key.flt, flt]; exact ⟨rfl, rfl, rfl⟩
    case a02 => intro _; rw [leaveKey_isActive]; simp
    case quiet => intro isBound; rw [lost] at isBound; exact nomatch isBound
    case notices =>
      rw [key.notice]
      split
      · exact (post_length_le _ _).trans (Nat.succ_le_succ notices)
      · exact notices.trans (Nat.le_succ _)
  · next notLost =>
    exact ⟨rlc, dta, bsq, by rw [sto], by rw [flt]; exact ⟨rfl, rfl, rfl⟩, fun lost => absurd lost notLost, bound,
      notices.trans (Nat.le_succ _)⟩

/-! ### The four cases of O50 -/

theorem takeReport_quiet {rep : Report} (quiet : rep.reset = true → (s.rlc.slots.get n).lastReset = true) :
    s.takeReport n rep = s.reported n rep := by
  rw [takeReport_eq, if_neg]
  cases e : rep.reset
  · exact nofun
  · rw [quiet e]; exact nofun

theorem takeReport_asks {rep : Report} (asks : rep.reset = true) (fresh : (s.rlc.slots.get n).lastReset = false) :
    s.takeReport n rep = (s.reported n rep).settle.roomReset n := by
  rw [takeReport_eq, asks, fresh, if_pos (show (true && !false) = true from rfl)]

/-- R142, R147: a frame that is no REPORT, before the exchange that its reception kept open ends. -/
theorem exec_badFrame (on : s.powered = true) (receives : s.rlc.receiving = some n) (bad : readReport n s.rlc.fifo = none) :
    ∃ t, exec .inboundFrameEnd s = .next t ∧ Follows (s.lineRested.countBad n).endClosing t := by
  obtain ⟨t, run, follows⟩ := exec_frameEnd on receives
  rw [bad] at follows
  dsimp only at follows
  exact ⟨t, run, follows⟩

theorem countBad_slot (s : State) (n : RoomSlot) :
    (s.countBad n).rlc.slots.get n = { s.rlc.slots.get n with bad := count16 (s.rlc.slots.get n).bad } :=
  SlotSet.get_set _ _ _

/-- R153: a request that is not allowed is counted as ignored. -/
theorem roomReset_ignored (forbidden : s.sto.settings.remoteReset = false) : s.roomReset n =
    s.setSlotRecord n { s.rlc.slots.get n with ignoredResets := count16 (s.rlc.slots.get n).ignoredResets } :=
  if_neg (by rw [forbidden]; exact nofun)

theorem roomReset_allowed (allowed : s.sto.settings.remoteReset = true) :
    s.roomReset n = (s.requestReset (.room n)).1 := if_pos allowed

/-- R151: a REPORT that asks for no reset. -/
theorem report_taken {rep : Report} (on : s.powered = true)
    (exchange : (∃ left, s.rlc.exchange = .window n left) ∨ s.rlc.exchange = .closing n)
    (receives : s.rlc.receiving = some n) (kept : s.rlc.dropped = false) (valid : readReport n s.rlc.fifo = some rep)
    (quiet : rep.reset = true → (s.rlc.slots.get n).lastReset = true) :
    ∃ t, exec .inboundFrameEnd s = .next t ∧ t.rlc.fifo = [] ∧ t.rlc.level = false ∧ t.rlc.exchange = .none
      ∧ t.rlc.receiving = none ∧ t.rlc.slots.get n = (s.rlc.slots.get n).answer rep
      ∧ (∀ m, m ≠ n → t.rlc.slots.get m = s.rlc.slots.get m)
      ∧ t.dta.table.get (.room n) = some (reportEntry rep (s.rlc.slots.get n).zone)
      ∧ (∀ m, m ≠ n → t.dta.table.get (.room m) = s.dta.table.get (.room m)) ∧ t.dta.table.board = s.dta.table.board
      ∧ ((s.rlc.slots.get n).state = .lost → t.isActive (.a02 n) = false)
      ∧ ((s.rlc.slots.get n).state = .bound → t.prt.notices = s.prt.notices) := by
  obtain ⟨t, run, follows⟩ := exec_report on receives exchange kept valid
  rw [takeReport_quiet (s := s.lineRested) quiet] at follows
  have taken := reported_taken s.lineRested n rep
  generalize s.lineRested.reported n rep = u at follows taken
  have ends := follows.ends
  refine ⟨t, run, ?_⟩
  rw [ends.isActive, ends.table, ends.rlc, ends.prt]
  dsimp only
  rw [taken.rlc, taken.dta]
  refine ⟨rfl, rfl, rfl, rfl, SlotSet.get_set _ _ _, fun m other => SlotSet.get_set_other _ _ _ _ other,
    SlotSet.get_set _ _ _, fun m other => SlotSet.get_set_other _ _ _ _ other, rfl, taken.a02, fun bound => ?_⟩
  rw [taken.quiet bound]
  rfl

/-- R142: a frame that is no REPORT within the window. -/
theorem badFrame_counts {left : Nat} (on : s.powered = true) (window : s.rlc.exchange = .window n left)
    (receives : s.rlc.receiving = some n) (bad : readReport n s.rlc.fifo = none) :
    ∃ t, exec .inboundFrameEnd s = .next t ∧ t.rlc.fifo = [] ∧ t.rlc.receiving = none ∧ t.rlc.exchange = .window n left
      ∧ t.rlc.slots.get n = { s.rlc.slots.get n with bad := min 65535 ((s.rlc.slots.get n).bad + 1) }
      ∧ t.dta.table.room = s.dta.table.room ∧ t.prt.notices = s.prt.notices := by
  obtain ⟨t, run, follows⟩ := exec_badFrame on receives bad
  have open_ : (s.lineRested.countBad n).endClosing = s.lineRested.countBad n := by
    unfold State.endClosing
    rw [show (s.lineRested.countBad n).rlc.exchange = .window n left from window]
  rw [open_] at follows
  have ends := follows.ends
  refine ⟨t, run, ?_⟩
  rw [ends.table, ends.rlc, ends.prt]
  exact ⟨rfl, rfl, window, countBad_slot _ _, rfl, rfl⟩

/-- R147: a frame that is no REPORT and that the window's end has left in progress. -/
theorem badFrame_misses (on : s.powered = true) (closing : s.rlc.exchange = .closing n) (receives : s.rlc.receiving = some n)
    (kept : s.rlc.dropped = false) (bad : readReport n s.rlc.fifo = none) :
    ∃ t, exec .inboundFrameEnd s = .next t ∧ t.rlc.fifo = [] ∧ t.rlc.receiving = none ∧ t.rlc.exchange = .none
      ∧ (t.rlc.slots.get n).bad = min 65535 ((s.rlc.slots.get n).bad + 1)
      ∧ (t.rlc.slots.get n).misses = min 255 ((s.rlc.slots.get n).misses + 1)
      ∧ (t.rlc.slots.get n).good = (s.rlc.slots.get n).good ∧ ∀ m, m ≠ n → t.rlc.slots.get m = s.rlc.slots.get m := by
  obtain ⟨t, run, follows⟩ := exec_badFrame on receives bad
  have ended : (s.lineRested.countBad n).endClosing = (s.lineRested.countBad n).endMissed := by
    unfold State.endClosing
    rw [show (s.lineRested.countBad n).rlc.exchange = .closing n from closing]
  rw [ended] at follows
  have runs : (s.lineRested.countBad n).rlc.exchange.slot = some n := by
    rw [show (s.lineRested.countBad n).rlc.exchange = .closing n from closing]; rfl
  have missed := endMissed_misses runs kept
  generalize (s.lineRested.countBad n).endMissed = u at follows missed
  obtain ⟨rlc, slot, other, -⟩ := missed
  have counted : (s.lineRested.countBad n).closeExchange.rlc.slots.get n = _ := countBad_slot _ _
  refine ⟨t, run, ?_⟩
  rw [follows.ends.rlc]
  dsimp only
  rw [slot, counted]
  refine ⟨by rw [rlc]; rfl, by rw [rlc]; rfl, by rw [rlc]; rfl, rfl, rfl, rfl, fun m different => (other m different).trans ?_⟩
  exact SlotSet.get_set_other s.rlc.slots n m _ different

/-- R153: a REPORT whose reset request rises. -/
theorem report_asks {rep : Report} (on : s.powered = true)
    (exchange : (∃ left, s.rlc.exchange = .window n left) ∨ s.rlc.exchange = .closing n)
    (receives : s.rlc.receiving = some n) (kept : s.rlc.dropped = false) (valid : readReport n s.rlc.fifo = some rep)
    (asks : rep.reset = true) (fresh : (s.rlc.slots.get n).lastReset = false) :
    ∃ t, exec .inboundFrameEnd s = .next t ∧ (t.rlc.slots.get n).state = .bound ∧ (t.rlc.slots.get n).lastReset = true
      ∧ (s.sto.settings.remoteReset = false →
          (t.rlc.slots.get n).ignoredResets = min 65535 ((s.rlc.slots.get n).ignoredResets + 1)
          ∧ t.flt.lockout = s.flt.lockout ∧ t.flt.resetCounter = s.flt.resetCounter)
      ∧ (s.sto.settings.remoteReset = true → (t.rlc.slots.get n).ignoredResets = (s.rlc.slots.get n).ignoredResets)
      ∧ (s.sto.settings.remoteReset = true → s.locked = true → s.bsq.state ≠ .startCheck → s.flt.resetCounter < 5 →
          s.flt.conditions = ⟨false, false, false, false, false⟩ →
          t.flt.lockout = none ∧ t.flt.resetCounter = s.flt.resetCounter + 1 ∧ t.bsq.state ≠ .lockout
          ∧ (s.prt.notices.length < 10 → Notice.reset .accepted (.room n) ∈ t.prt.notices)) := by
  obtain ⟨t, run, follows⟩ := exec_report on receives exchange kept valid
  rw [takeReport_asks (s := s.lineRested) asks fresh] at follows
  have taken := reported_taken s.lineRested n rep
  generalize s.lineRested.reported n rep = u at follows taken
  have planned : Follows u u.settle := settle_follows u
  generalize u.settle = v at follows planned
  have slot : v.rlc.slots.get n = (s.rlc.slots.get n).answer rep := by
    rw [planned.ends.rlc]
    dsimp only
    rw [taken.rlc]
    exact SlotSet.get_set _ _ _
  have settings : v.sto.settings = s.sto.settings := by rw [planned.ends.sto]; exact taken.settings
  have flt : v.flt.lockout = s.flt.lockout ∧ v.flt.resetCounter = s.flt.resetCounter ∧ v.flt.conditions = s.flt.conditions := by
    rw [planned.ends.flt]; exact taken.flt
  have notices : v.prt.notices.length ≤ s.prt.notices.length + 2 := by rw [planned.ends.prt]; exact taken.notices
  refine ⟨t, run, ?_⟩
  cases allowed : s.sto.settings.remoteReset
  · rw [roomReset_ignored (settings ▸ allowed)] at follows
    have ignored : t.rlc.slots.get n = { v.rlc.slots.get n with ignoredResets := count16 (v.rlc.slots.get n).ignoredResets } := by
      rw [follows.ends.rlc]
      exact SlotSet.get_set _ _ _
    rw [ignored, slot, follows.ends.flt]
    exact ⟨rfl, asks, fun _ => ⟨rfl, flt.1, flt.2.1⟩, nofun, nofun⟩
  · rw [roomReset_allowed (settings ▸ allowed)] at follows
    have same : t.rlc.slots.get n = v.rlc.slots.get n := by
      rw [follows.ends.rlc]
      dsimp only
      rw [requestReset_rlc]
    rw [same, slot]
    refine ⟨rfl, asks, nofun, fun _ => rfl, fun _ locked state below clear => ?_⟩
    obtain ⟨l, held⟩ := Option.isSome_iff_exists.1 locked
    have notStart : v.bsq.state ≠ .startCheck := planned.notStart (by rw [taken.bsq]; exact state)
    rw [requestReset_accepted (.room n) (flt.1.trans held) notStart (by rw [flt.2.1]; exact below)
      (by rw [flt.2.2, clear]; rfl)] at follows
    have accepted := acceptReset_accepted v l.cause (.room n)
    dsimp only at follows
    generalize v.acceptReset l.cause (.room n) = w at follows accepted
    have left : t.bsq.state ≠ .lockout := follows.notLockout (by rw [accepted.state]; exact nofun)
    rw [follows.ends.flt, follows.ends.prt]
    refine ⟨accepted.unlocked, accepted.counter.trans (by rw [flt.2.1]), left, fun few => ?_⟩
    dsimp only
    rw [accepted.prt]
    refine mem_post _ _ ?_
    rw [post_room _ _ (by omega)]
    exact List.mem_append_right _ (List.mem_singleton_self _)

/-- Settles O50: a valid REPORT with and without a reset request that rises, and a frame that is none within the window and
after it. -/
theorem validReportBindsTheSlot : Obligations.ValidReportBindsTheSlot := by
  refine ⟨fun s n rep on exchange receives kept valid quiet => ?_, fun s n left on window receives bad => ?_,
    fun s n on closing receives kept bad => ?_, fun s n rep on exchange receives kept valid asks fresh => ?_⟩
  · exact report_taken on exchange receives kept valid quiet
  · exact badFrame_counts on window receives bad
  · exact badFrame_misses on closing receives kept bad
  · exact report_asks on exchange receives kept valid asks fresh

end Sys2Proof.Machine

/-! SUPPORT. The frames of the two ports: COLLECT and REQUEST frames, the bytes of a service frame, and the delivery of a reply
(R156 to R160, R173). -/

namespace Sys2Proof.Machine

variable {c : Instr} {s t u : State}

/-! ### COLLECT frames (R158) -/

/-- R158: bytes filled with 0 and cut to the length clocked. -/
theorem take_append_zeros (l : List Byte) (n : Nat) :
    (l ++ List.replicate (n - l.length) 0).take n = (l ++ List.replicate n 0).take n := by
  rw [List.take_append, List.take_append, List.take_replicate, List.take_replicate, Nat.min_self, Nat.min_eq_left (Nat.sub_le _ _)]

/-- R158: the state of the reply buffer after a COLLECT frame. -/
def Prt.replyAfter (p : Prt) (clocked : Nat) : ReplyState :=
  if !p.overrunFlag && p.replyState == .ready && decide (4 + p.collect.2.length ≤ clocked) then .collected else p.replyState

/-- R158, R173: what a COLLECT frame writes. -/
theorem takeCollect_eq (s : State) (clocked : Nat) : s.takeCollect clocked = { s with prt := { s.prt with
    control := { s.prt.control with counters :=
      { s.prt.control.counters with frames := count16 s.prt.control.counters.frames } }
    sdo := ([0, s.prt.collect.1] ++ wordBytes (natWord s.prt.collect.2.length) ++ s.prt.collect.2
      ++ List.replicate clocked 0).take clocked
    overrunFlag := false
    replyState := s.prt.replyAfter clocked
    softReset := if s.prt.replyAfter clocked = .collected then s.prt.softReset.map (·.deliver .control)
      else s.prt.softReset } } := by
  rw [← take_append_zeros]
  have collected : s.takeCollect clocked = if s.prt.replyAfter clocked = .collected then State.onSoftReset { s with prt := {
      (s.countFrame .control).prt with
        sdo := collectBytes s.prt.collect.1 s.prt.collect.2 clocked, overrunFlag := false
        replyState := s.prt.replyAfter clocked } } fun r => r.deliver .control
    else { s with prt := { (s.countFrame .control).prt with
        sdo := collectBytes s.prt.collect.1 s.prt.collect.2 clocked, overrunFlag := false
        replyState := s.prt.replyAfter clocked } } := rfl
  rw [collected]
  split <;> rfl

theorem exec_collectFrame {clocked : Nat} (on : s.powered = true) (whole : 1 ≤ clocked) :
    ∃ t, exec (.collectFrame clocked) s = .next t ∧ Follows (s.takeCollect clocked) t :=
  exec_effect (c := .collectFrame clocked) on rfl (if_neg (by omega))

/-- Settles O52, from the first case of the reply buffer that applies. -/
theorem collectIsAnsweredByTheFirstCase : Obligations.CollectIsAnsweredByTheFirstCase := by
  intro s clocked on whole
  obtain ⟨t, run, follows⟩ := exec_collectFrame on whole
  rw [takeCollect_eq] at follows
  refine ⟨t, run, ?_⟩
  rw [follows.ends.prt]
  dsimp only
  unfold Prt.replyAfter Prt.collect
  refine ⟨rfl, rfl, fun busy => ?_, fun clear processing => ?_, fun clear empty => ?_, fun clear ready => ?_,
    fun clear collected => ?_, rfl, rfl⟩
  · rw [busy]; exact ⟨rfl, rfl⟩
  · rw [clear, processing]; exact ⟨rfl, rfl⟩
  · rw [clear, empty]; exact ⟨rfl, rfl⟩
  · rw [clear, ready]
    refine ⟨rfl, ?_⟩
    simp
  · rw [clear, collected]; exact ⟨rfl, rfl⟩

/-! ### REQUEST frames of the control port (R156, R157) -/

/-- R157: a REQUEST that is taken. -/
theorem takeRequest_taken (bytes : List Byte) (free : s.prt.replyState ≠ .processing) : s.takeRequest bytes =
    { s with prt := { s.prt with
      control := { s.prt.control with
        counters := { s.prt.control.counters with frames := count16 s.prt.control.counters.frames }, frame := frameOf bytes }
      replyState := .processing, overrunFlag := false, reply := [], softReset := s.prt.softReset.map SoftReset.replace } } := by
  unfold State.takeRequest
  dsimp only
  rw [if_neg (show ¬ (s.countFrame .control).prt.replyState = .processing from free)]
  rfl

/-- R157: a REQUEST that comes while the last one is in process. -/
theorem takeRequest_overrun (bytes : List Byte) (busy : s.prt.replyState = .processing) : s.takeRequest bytes =
    { s with prt := { s.prt with
      control := { s.prt.control with counters := { s.prt.control.counters with
        frames := count16 s.prt.control.counters.frames, overruns := count16 s.prt.control.counters.overruns } }
      overrunFlag := true } } := by
  unfold State.takeRequest
  dsimp only
  rw [if_pos (show (s.countFrame .control).prt.replyState = .processing from busy)]
  rfl

theorem exec_controlRequest {bytes : List Byte} (on : s.powered = true) (fits : bytes.length ≤ 2080) :
    ∃ t, exec (.controlRequestFrame bytes) s = .next t ∧ Follows (s.takeRequest bytes) t :=
  exec_effect (c := .controlRequestFrame bytes) on rfl (if_neg (Nat.not_lt.2 fits))

/-- R156: an unknown first byte, or a REQUEST that is too long. -/
theorem exec_controlBad {bytes rest : List Byte} {b : Byte} (on : s.powered = true)
    (event : c = .controlBadFrame bytes ∧ bytes = b :: rest ∧ b ≠ 1 ∧ b ≠ 2 ∨ c = .controlRequestFrame bytes ∧ 2080 < bytes.length) :
    ∃ t, exec c s = .next t ∧ Follows (s.countBadFrame .control) t := by
  rcases event with ⟨rfl, rfl, notRequest, notCollect⟩ | ⟨rfl, long⟩
  · refine exec_effect (c := .controlBadFrame (b :: rest)) on rfl (if_pos ?_)
    exact (if_neg notRequest).trans (bne_iff_ne.2 notCollect)
  · exact exec_effect (c := .controlRequestFrame bytes) on rfl (if_pos long)

/-! ### The bytes of a service frame (R159) -/

/-- R159: the receiver is not within a frame. -/
def Receiver.between (r : Receiver) : Prop := ∀ bytes e, r ≠ .inFrame bytes e

theorem Receiver.take_between {r : Receiver} (between : r.between) (e : Bool) (b : Byte) :
    r.take e b = if b = 0xC3 then (.inFrame [b] e, .nothing) else (.discarding, .nothing) := by
  cases r with
  | inFrame bytes err => exact absurd rfl (between bytes err)
  | idle => rfl
  | discarding => rfl

/-- R159: a byte within a frame. -/
theorem Receiver.take_inFrame (bytes : List Byte) (e : Bool) (b : Byte) : (Receiver.inFrame bytes e).take e b =
    if (bytes ++ [b]).length = 2 ∧ b = 0 then (.idle, .bad)
    else if wholeFrame (bytes ++ [b]) then (.idle, judgeServiceFrame (bytes ++ [b]) e)
    else (.inFrame (bytes ++ [b]) e, .nothing) := by
  unfold Receiver.take
  dsimp only
  rw [Bool.or_self]

theorem wholeFrame_cons (start len : Byte) (rest : List Byte) :
    wholeFrame (start :: len :: rest) = decide (rest.length = len.toNat + 1) := rfl

/-- R159: a start byte outside a frame begins one. -/
theorem receiveService_start (between : s.prt.receiver.between) (e : Bool) :
    s.receiveService e 0xC3 = { s with prt := { s.prt with receiver := .inFrame [0xC3] e } } := by
  unfold State.receiveService
  rw [Receiver.take_between between]
  rfl

/-- R159: a length of 0 is a bad frame. -/
theorem receiveService_empty (e : Bool) : State.receiveService e { s with prt := { s.prt with receiver := .inFrame [0xC3] e } } 0 =
    State.countBadFrame { s with prt := { s.prt with receiver := .idle } } .service := by
  unfold State.receiveService
  rw [Receiver.take_inFrame, if_pos ⟨rfl, rfl⟩]
  rfl

/-- R159: the length byte of a frame that is not empty. -/
theorem receiveService_length (e : Bool) {len : Byte} (some : len ≠ 0) :
    State.receiveService e { s with prt := { s.prt with receiver := .inFrame [0xC3] e } } len =
      { s with prt := { s.prt with receiver := .inFrame [0xC3, len] e } } := by
  have notWhole : ¬ wholeFrame ([0xC3] ++ [len]) = true := by
    rw [List.singleton_append, wholeFrame_cons]
    exact ne_of_beq_false rfl
  unfold State.receiveService
  rw [Receiver.take_inFrame, if_neg fun h => some h.2, if_neg notWhole]
  rfl

/-- R159: a byte before the check byte. -/
theorem receiveService_command (e : Bool) {len : Byte} {l : List Byte} (b : Byte) (short : l.length < len.toNat) :
    State.receiveService e { s with prt := { s.prt with receiver := .inFrame (0xC3 :: len :: l) e } } b =
      { s with prt := { s.prt with receiver := .inFrame (0xC3 :: len :: (l ++ [b])) e } } := by
  have notWhole : ¬ wholeFrame ((0xC3 :: len :: l) ++ [b]) = true := by
    rw [List.cons_append, List.cons_append, wholeFrame_cons, List.length_append, List.length_singleton, decide_eq_true_iff]
    omega
  have notLength : ¬ ((0xC3 :: len :: l) ++ [b]).length = 2 := by
    rw [List.length_append, List.length_cons, List.length_cons, List.length_singleton]
    omega
  unfold State.receiveService
  rw [Receiver.take_inFrame, if_neg fun h => notLength h.1, if_neg notWhole]
  rfl

theorem takeServiceBytes_commands (e : Bool) (len : Byte) (more l : List Byte) (short : l.length + more.length ≤ len.toNat) :
    State.takeServiceBytes { s with prt := { s.prt with receiver := .inFrame (0xC3 :: len :: l) e } } more e =
      { s with prt := { s.prt with receiver := .inFrame (0xC3 :: len :: (l ++ more)) e } } := by
  induction more generalizing l with
  | nil => rw [List.append_nil]; rfl
  | cons b rest ih =>
    rw [List.length_cons] at short
    have next := receiveService_command (s := s) e (len := len) (l := l) b (by omega)
    have tail := ih (l ++ [b]) (by rw [List.length_append, List.length_singleton]; omega)
    rw [List.append_assoc] at tail
    exact (congrArg (State.takeServiceBytes · rest e) next).trans tail

/-- R159: the bytes of a frame up to its check byte leave the receiver within it. -/
theorem takeServiceBytes_incomplete (between : s.prt.receiver.between) (e : Bool) {len : Byte} (some : len ≠ 0) (rest : List Byte)
    (short : rest.length ≤ len.toNat) : s.takeServiceBytes (0xC3 :: len :: rest) e =
      { s with prt := { s.prt with receiver := .inFrame (0xC3 :: len :: rest) e } } := by
  have split : s.takeServiceBytes (0xC3 :: len :: rest) e
      = State.takeServiceBytes (((s.receiveService e 0xC3)).receiveService e len) rest e := rfl
  rw [split, receiveService_start between, receiveService_length e some]
  exact takeServiceBytes_commands e len rest [] (by simpa using short)

/-- R159: the check byte completes the frame. -/
theorem takeServiceBytes_whole (between : s.prt.receiver.between) (e : Bool) {len : Byte} (some : len ≠ 0)
    (commands : List Byte) (check : Byte) (length : commands.length = len.toNat) :
    s.takeServiceBytes (0xC3 :: len :: (commands ++ [check])) e =
      State.takeReceived { s with prt := { s.prt with receiver := .idle } }
        (judgeServiceFrame (0xC3 :: len :: (commands ++ [check])) e) := by
  have split : s.takeServiceBytes (0xC3 :: len :: (commands ++ [check])) e
      = (s.takeServiceBytes (0xC3 :: len :: commands) e).receiveService e check := by
    unfold State.takeServiceBytes
    rw [show 0xC3 :: len :: (commands ++ [check]) = (0xC3 :: len :: commands) ++ [check] from rfl, List.foldl_append]
    rfl
  rw [split, takeServiceBytes_incomplete between e some commands (Nat.le_of_eq length)]
  have whole : wholeFrame ((0xC3 :: len :: commands) ++ [check]) = true := by
    rw [List.cons_append, List.cons_append, wholeFrame_cons, List.length_append, List.length_singleton, length]
    exact decide_eq_true rfl
  have notLength : ¬ ((0xC3 :: len :: commands) ++ [check]).length = 2 := by
    have : len.toNat ≠ 0 := fun zero => some (BitVec.eq_of_toNat_eq zero)
    rw [List.length_append, List.length_cons, List.length_cons, List.length_singleton]
    omega
  unfold State.receiveService
  rw [Receiver.take_inFrame, if_neg fun h => notLength h.1, if_pos whole]
  rfl

/-- R159: bytes that begin no frame are discarded. -/
theorem takeServiceBytes_discards (between : s.prt.receiver.between) (e : Bool) (bytes : List Byte) (none : 0xC3 ∉ bytes) :
    s.takeServiceBytes bytes e =
      { s with prt := { s.prt with receiver := if bytes = [] then s.prt.receiver else .discarding } } := by
  induction bytes generalizing s with
  | nil => rfl
  | cons b rest ih =>
    rw [List.mem_cons, not_or] at none
    have first : s.receiveService e b = { s with prt := { s.prt with receiver := .discarding } } := by
      unfold State.receiveService
      rw [Receiver.take_between between, if_neg (Ne.symm none.1)]
      rfl
    have tail := ih (s := { s with prt := { s.prt with receiver := .discarding } }) (fun _ _ => nofun) none.2
    refine (congrArg (State.takeServiceBytes · rest e) first).trans (tail.trans ?_)
    dsimp only
    rw [ite_self, if_neg (List.cons_ne_nil _ _)]

theorem exec_serviceRequest (bytes : List Byte) (e : Bool) (on : s.powered = true) :
    ∃ t, exec (.serviceRequestFrame bytes e) s = .next t ∧ Follows (s.takeServiceBytes bytes e) t :=
  exec_effect (c := .serviceRequestFrame bytes e) on rfl rfl

/-- R159: a frame whose bytes sum to 0, without a stop-bit error, gives its command bytes. -/
theorem judgeServiceFrame_good (len check : Byte) (commands : List Byte) {e : Bool} (clean : e = false)
    (sum : (0xC3 :: len :: (commands ++ [check])).foldl (· + ·) 0 = 0) :
    judgeServiceFrame (0xC3 :: len :: (commands ++ [check])) e = .good commands := by
  unfold judgeServiceFrame
  rw [sum, clean]
  have body : ((0xC3 :: len :: (commands ++ [check])).drop 2).take ((0xC3 :: len :: (commands ++ [check])).length - 3) = commands := by
    simp
  exact congrArg Received.good body

theorem judgeServiceFrame_bad {bytes : List Byte} {e : Bool} (bad : ¬ (e = false ∧ bytes.foldl (· + ·) 0 = 0)) :
    judgeServiceFrame bytes e = .bad := by
  refine if_pos ?_
  rw [Bool.or_eq_true, bne_iff_ne]
  by_cases clean : e = false
  · exact .inr fun sum => bad ⟨clean, sum⟩
  · exact .inl (Bool.eq_true_of_not_eq_false clean)

/-- R159: a complete frame with a right check, as the port is free or not. -/
theorem takeReceived_good (commands : List Byte) : s.takeReceived (.good commands) =
    if s.prt.serviceState = .free then { s with prt := { s.prt with
      service := { s.prt.service with
        counters := { s.prt.service.counters with frames := count16 s.prt.service.counters.frames }, frame := frameOf commands }
      serviceState := .processing, staged := none } }
    else s.countOverrun .service := rfl

/-- R157, R159: a frame that the service port receives whole, outside another. -/
theorem exec_serviceFrame {commands : List Byte} {check : Byte} {e : Bool} (on : s.powered = true) (some : 1 ≤ commands.length)
    (fits : commands.length ≤ 255) (between : s.prt.receiver.between) :
    ∃ t, exec (.serviceRequestFrame ([0xC3, BitVec.ofNat 8 commands.length] ++ commands ++ [check]) e) s = .next t
      ∧ Follows (State.takeReceived { s with prt := { s.prt with receiver := .idle } }
          (judgeServiceFrame ([0xC3, BitVec.ofNat 8 commands.length] ++ commands ++ [check]) e)) t := by
  have length : (BitVec.ofNat 8 commands.length).toNat = commands.length := by
    rw [BitVec.toNat_ofNat]
    exact Nat.mod_eq_of_lt (by omega)
  have notZero : BitVec.ofNat 8 commands.length ≠ 0 := fun zero => by
    rw [zero] at length
    exact absurd length (by change ¬ 0 = _; omega)
  obtain ⟨t, run, follows⟩ := exec_serviceRequest ([0xC3, BitVec.ofNat 8 commands.length] ++ commands ++ [check]) e on
  have whole := takeServiceBytes_whole between e notZero commands check length.symm
  exact ⟨t, run, whole ▸ follows⟩

/-! ### O53 -/

/-- Settles O53, each frame from what its bytes make of the port, each reply from what delivers it. -/
theorem framesAreTakenOrCounted : Obligations.FramesAreTakenOrCounted := by
  refine ⟨fun s bytes on fits free => ?taken, fun s bytes on fits busy => ?overrun, fun s bytes rest b c on event => ?bad,
    fun s commands check e on some fits between => ?service, fun s rest e on between none => ?empty,
    fun s len rest e on between some short => ?incomplete, fun s on waits => ?gap, fun s left on sends => ?sent,
    fun s r clocked on asked control clear ready whole => ?collected, fun s r hold on asked control phase => ?held⟩
  case taken =>
    obtain ⟨t, run, follows⟩ := exec_controlRequest on fits
    rw [takeRequest_taken bytes free] at follows
    refine ⟨t, run, ?_⟩
    rw [follows.ends.prt]
    refine ⟨rfl, rfl, rfl, rfl, rfl, rfl, rfl, rfl, rfl, fun r hold asked control phase => ?_⟩
    dsimp only
    rw [asked, Option.map_some, SoftReset.replace, control, phase]
  case overrun =>
    obtain ⟨t, run, follows⟩ := exec_controlRequest on fits
    rw [takeRequest_overrun bytes busy] at follows
    refine ⟨t, run, ?_⟩
    rw [follows.ends.prt]
    exact ⟨busy, rfl, rfl, rfl, rfl⟩
  case bad =>
    obtain ⟨t, run, follows⟩ := exec_controlBad on event
    exact ⟨t, run, follows.ends⟩
  case service =>
    intro bytes good
    obtain ⟨t, run, follows⟩ := exec_serviceFrame (check := check) (e := e) on some fits between
    refine ⟨t, run, ?_⟩
    have prt := follows.ends.prt
    by_cases isGood : good
    · have judged : judgeServiceFrame bytes e = .good commands := judgeServiceFrame_good _ _ _ isGood.1 isGood.2
      change t.prt = { (State.takeReceived _ (judgeServiceFrame bytes e)).prt with attn := t.prt.attn } at prt
      rw [judged, takeReceived_good] at prt
      by_cases free : s.prt.serviceState = .free
      · rw [if_pos free] at prt
        rw [prt]
        exact ⟨rfl, rfl, fun _ _ => ⟨rfl, rfl, rfl, rfl, rfl⟩, fun _ busy => absurd free busy, fun no => absurd isGood no⟩
      · rw [if_neg free] at prt
        rw [prt]
        exact ⟨rfl, rfl, fun _ isFree => absurd isFree free, fun _ _ => ⟨rfl, rfl⟩, fun no => absurd isGood no⟩
    · have judged : judgeServiceFrame bytes e = .bad := judgeServiceFrame_bad isGood
      change t.prt = { (State.takeReceived _ (judgeServiceFrame bytes e)).prt with attn := t.prt.attn } at prt
      rw [judged] at prt
      rw [prt]
      exact ⟨rfl, rfl, fun yes => absurd yes isGood, fun yes => absurd yes isGood, fun _ => ⟨rfl, rfl⟩⟩
  case empty =>
    obtain ⟨t, run, follows⟩ := exec_serviceRequest (0xC3 :: 0 :: rest) e on
    have split : s.takeServiceBytes (0xC3 :: 0 :: rest) e
        = State.takeServiceBytes (((s.receiveService e 0xC3)).receiveService e 0) rest e := rfl
    rw [split, receiveService_start between, receiveService_empty,
      takeServiceBytes_discards (s := State.countBadFrame { s with prt := { s.prt with receiver := .idle } } .service)
        (fun _ _ => nofun) e rest none] at follows
    exact ⟨t, run, follows.ends⟩
  case incomplete =>
    obtain ⟨t, run, follows⟩ := exec_serviceRequest (0xC3 :: len :: rest) e on
    rw [takeServiceBytes_incomplete between e some rest short] at follows
    exact ⟨t, run, follows.ends⟩
  case gap =>
    have ended : s.serviceGap = State.countBadFrame { s with prt := { s.prt with receiver := .idle } } .service := by
      unfold State.serviceGap
      split
      · next idle => exact absurd idle waits
      · rfl
    obtain ⟨t, run, follows⟩ := exec_effect (c := .serviceFrameGap) on rfl ended
    exact ⟨t, run, follows.ends⟩
  case sent =>
    obtain ⟨t, run, follows⟩ := exec_effect (c := .serviceReplySent) (u := State.onSoftReset
      { s with prt := { s.prt with serviceState := .free } } fun r => r.deliver .service) on rfl (by rw [sends])
    refine ⟨t, run, ?_⟩
    rw [follows.ends.prt]
    refine ⟨rfl, rfl, fun r hold asked service phase => ?_⟩
    change s.prt.softReset.map _ = _
    rw [asked, Option.map_some, SoftReset.deliver, phase, service]
    rfl
  case collected =>
    obtain ⟨t, run, follows⟩ := exec_collectFrame (s := s) (clocked := clocked) on (by omega)
    rw [takeCollect_eq] at follows
    have after : s.prt.replyAfter clocked = .collected := by
      unfold Prt.replyAfter Prt.collect
      rw [clear, ready]
      exact if_pos (by simpa using whole)
    rw [after] at follows
    refine ⟨t, run, ?_⟩
    rw [follows.ends.prt]
    refine ⟨rfl, fun hold phase => ?_, fun hold phase => ?_⟩
    · dsimp only
      rw [if_pos rfl, asked, Option.map_some, SoftReset.deliver, phase, control]
      rfl
    · dsimp only
      rw [if_pos rfl, asked, Option.map_some, SoftReset.deliver, phase]
  case held =>
    refine exec_effect (c := .controlReplyHoldExpiry) on rfl ?_
    have ended : r.endHold = { r with reply := .delivered } := by
      unfold SoftReset.endHold
      rcases phase with ready | replaced
      · rw [control, ready]
      · rw [control, replaced]
    unfold State.onSoftReset
    rw [asked, Option.map_some, ended]

end Sys2Proof.Machine

/-! SUPPORT. The end of a frame and its commit (R157, R159, R166, R167, R180). -/

namespace Sys2Proof.Machine

variable {c : Instr} {s t u : State}

/-! ### The end of a frame with no commands left (R167) -/

theorem finishCommands_none {p : Port} (todo : (s.prt.portRecord p).frame.todo = [])
    (whole : (s.prt.portRecord p).frame.badTail = false) : s.finishCommands p = s := by
  unfold State.finishCommands
  dsimp only
  rw [todo, List.foldl_nil, whole]
  rfl

/-- R167: a commit leaves the ports. -/
theorem applyCommit_prt (s : State) (x : Commit) : (s.applyCommit x).prt = s.prt := by
  unfold State.applyCommit
  split <;> rfl

/-- R167: only an adopted copy changes the table, its mark and its locking condition. -/
theorem applyCommit_kept (x : Commit) (kept : x ≠ .adopted) : s.applyCommit x = s := by
  unfold State.applyCommit
  split
  · exact absurd rfl kept
  · rfl

theorem applyCommit_adopted {table : CombustionTable} (staged : s.prt.staged = some table) :
    s.applyCommit .adopted = s.adopt table := by
  unfold State.applyCommit
  rw [staged]

/-- R159, R166: the end of a service frame: the reply goes out around the commit byte, and the staged copy and the frame go. -/
theorem endFrame_service {x : Commit} (commit : s.commit s.prt.service.frame = x) : s.endFrame .service =
    { s.applyCommit x with prt := { s.prt with
      serviceState := .sending (lineMs (serviceReply (s.prt.service.frame.body ++ [x.code])).length)
      txd := serviceReply (s.prt.service.frame.body ++ [x.code]), staged := none
      service := { s.prt.service with frame := Frame.fresh }
      softReset := s.prt.softReset.map (·.ready .service) } } := by
  unfold State.endFrame
  dsimp only [Prt.portRecord]
  rw [commit, applyCommit_prt]
  rfl

/-- R157: the end of a control frame, which holds no combustion write. -/
theorem endFrame_control (none : s.prt.control.frame.combustionWrite = false) : s.endFrame .control =
    { s with prt := { s.prt with
      replyState := .ready, reply := s.prt.control.frame.body ++ [0]
      control := { s.prt.control with frame := Frame.fresh }
      softReset := s.prt.softReset.map (·.ready .control) } } := by
  have commit : s.commit s.prt.control.frame = .none := by unfold State.commit; rw [none]; rfl
  unfold State.endFrame
  dsimp only [Prt.portRecord]
  rw [commit, applyCommit_kept .none nofun]
  rfl

theorem exec_frameProcessingEnd {p : Port} (on : s.powered = true) (processing : s.prt.processing p = true)
    (todo : (s.prt.portRecord p).frame.todo = []) (whole : (s.prt.portRecord p).frame.badTail = false) :
    ∃ t, exec (.frameProcessingEnd p) s = .next t ∧ Follows (s.endFrame p) t := by
  refine exec_effect (c := .frameProcessingEnd p) on rfl ((if_pos processing).trans ?_)
  rw [finishCommands_none todo whole]

/-- What the end of a service frame leaves, whatever its commit. -/
theorem exec_serviceEnd {x : Commit} (on : s.powered = true) (processing : s.prt.serviceState = .processing)
    (todo : s.prt.service.frame.todo = []) (whole : s.prt.service.frame.badTail = false)
    (commit : s.commit s.prt.service.frame = x) :
    ∃ u t, exec (.frameProcessingEnd .service) s = .next t ∧ Follows u t ∧ u.sto = (s.applyCommit x).sto
      ∧ u.flt = (s.applyCommit x).flt ∧ t.prt.staged = none ∧ t.prt.service.frame = Frame.fresh
      ∧ t.prt.service.counters = s.prt.service.counters ∧ t.prt.control = s.prt.control
      ∧ t.prt.txd = serviceReply (s.prt.service.frame.body ++ [x.code])
      ∧ t.prt.serviceState = .sending (lineMs (serviceReply (s.prt.service.frame.body ++ [x.code])).length) := by
  obtain ⟨t, run, follows⟩ := exec_frameProcessingEnd (p := .service) on (beq_iff_eq.2 processing) todo whole
  rw [endFrame_service commit] at follows
  refine ⟨_, t, run, follows, rfl, rfl, ?_⟩
  rw [follows.ends.prt]
  exact ⟨rfl, rfl, rfl, rfl, rfl, rfl⟩

/-! ### The commit byte (R167) -/

theorem commit_none {f : Frame} (none : f.combustionWrite = false) : s.commit f = .none := by
  unfold State.commit
  rw [none]
  rfl

/-- R167: a valid staged copy of a frame that was refused nothing. -/
theorem commit_valid {f : Frame} {table : CombustionTable} (writes : f.combustionWrite = true) (unlocked : f.noUnlock = false)
    (taken : f.valueRefused = false) (staged : s.prt.staged = some table) (valid : table.valid = true) :
    s.commit f = if s.bsq.state = .idle ∨ s.bsq.state = .lockout then .adopted else .discardedBusy := by
  unfold State.commit
  rw [writes, unlocked, taken, staged]
  dsimp only
  rw [valid]
  rfl

/-- R167: a frame whose table is not taken: a locked one, a refused word, or a copy that is not a valid table. -/
theorem commit_refused {f : Frame} (writes : f.combustionWrite = true) (refused : f.noUnlock = true ∨ f.valueRefused = true
      ∨ ∀ table, s.prt.staged = some table → table.valid = false) :
    s.commit f = if f.noUnlock then .discardedUnlock else if f.valueRefused then .discardedValue else .discardedInvalid := by
  unfold State.commit
  rw [writes]
  cases locked : f.noUnlock
  · cases value : f.valueRefused
    · have invalid := (refused.resolve_left (by rw [locked]; exact nofun)).resolve_left (by rw [value]; exact nofun)
      cases staged : s.prt.staged
      · rfl
      · dsimp only
        rw [invalid _ staged]
        rfl
    · rfl
  · rfl

theorem serviceReply_length (body : List Byte) : (serviceReply body).length = body.length + 4 := by
  unfold serviceReply
  simp

/-- Settles O54, from the commit that each frame is given. -/
theorem frameEndCommitsTheTable : Obligations.FrameEndCommitsTheTable := by
  refine ⟨fun s table on processing todo whole writes unlocked taken staged valid => ?valid,
    fun s on processing todo whole writes refused => ?refused, fun s on processing todo whole none => ?control,
    fun s on processing todo whole none => ?none⟩
  case valid =>
    have commit := commit_valid writes unlocked taken staged valid
    by_cases quiet : s.bsq.state = .idle ∨ s.bsq.state = .lockout
    · rw [if_pos quiet] at commit
      obtain ⟨u, t, run, follows, sto, flt, gone, frame, -, control, txd, -⟩ := exec_serviceEnd on processing todo whole commit
      rw [applyCommit_adopted staged] at sto flt
      refine ⟨t, run, gone, by rw [frame]; rfl, by rw [frame]; rfl, control, fun _ => ?_, fun notIdle notLockout => ?_⟩
      · have marked : Marked .combustion t := follows.marked (.inl (by rw [sto]; exact mem_markItem _ _))
        refine ⟨?_, ?_, marked, ?_, ?_, txd⟩
        · rw [follows.ends.sto, sto]; rfl
        · rw [follows.ends.sto, sto]; rfl
        · rw [follows.ends.flt, flt]; rfl
        · rw [follows.ends.flt, flt]; rfl
      · exact absurd quiet (not_or.2 ⟨notIdle, notLockout⟩)
    · rw [if_neg quiet] at commit
      obtain ⟨u, t, run, follows, sto, flt, gone, frame, -, control, txd, -⟩ := exec_serviceEnd on processing todo whole commit
      rw [applyCommit_kept .discardedBusy nofun] at sto flt
      refine ⟨t, run, gone, by rw [frame]; rfl, by rw [frame]; rfl, control, fun isQuiet => absurd isQuiet quiet, fun _ _ => ?_⟩
      rw [follows.ends.sto, follows.ends.flt, sto, flt]
      exact ⟨rfl, rfl, txd⟩
  case refused =>
    have commit := commit_refused writes refused
    obtain ⟨u, t, run, follows, sto, flt, gone, frame, -, control, txd, -⟩ := exec_serviceEnd on processing todo whole commit
    rw [applyCommit_kept _ (by split_ifs <;> exact nofun)] at sto flt
    refine ⟨t, run, gone, control, ?_⟩
    rw [follows.ends.sto, follows.ends.flt, sto, flt, txd]
    refine ⟨rfl, rfl, rfl, ?_⟩
    split_ifs <;> rfl
  case control =>
    obtain ⟨t, run, follows⟩ := exec_frameProcessingEnd (p := .control) on (beq_iff_eq.2 processing) todo whole
    rw [endFrame_control none] at follows
    refine ⟨t, run, ?_⟩
    rw [follows.ends.prt, follows.ends.sto]
    exact ⟨rfl, rfl, rfl, rfl, rfl, rfl, rfl⟩
  case none =>
    obtain ⟨u, t, run, follows, sto, flt, gone, frame, counters, control, txd, sends⟩ :=
      exec_serviceEnd on processing todo whole (commit_none none)
    rw [applyCommit_kept .none nofun] at sto flt
    refine ⟨t, run, gone, by rw [frame]; rfl, by rw [frame]; rfl, counters, control, ?_⟩
    rw [follows.ends.sto, follows.ends.flt, sto, flt, txd, sends, serviceReply_length, List.length_append]
    exact ⟨rfl, rfl, rfl, rfl, rfl⟩

end Sys2Proof.Machine

/-! SUPPORT. Commands of several words: reads within a space, refused commands, the notice pop and the counters (R160 to R163,
R170, R172). -/

namespace Sys2Proof.Machine

variable {c : Instr} {s t u : State} {p : Port} {space : BitVec 3}

/-! ### The words that a read handles (R161) -/

theorem spaceSize_le (space : BitVec 3) : spaceSize space ≤ 449 := by
  revert space
  decide

/-- R161: a stepped command within its space handles its addresses in order, and its pointer ends after them. -/
theorem walk_within (n a : Nat) (inside : a + n ≤ spaceSize space) :
    walk space true n a = ((List.range n).map (a + ·), a + n, false) := by
  induction n generalizing a with
  | zero => rfl
  | succ n ih =>
    have small := spaceSize_le space
    have here : inSpace space a = true := by
      unfold inSpace
      rw [decide_eq_true (by omega : a < spaceSize space), Bool.true_or]
    have next : nextAddress a true = a + 1 := Nat.mod_eq_of_lt (by omega)
    unfold walk
    rw [if_pos here, next, ih (a + 1) (by omega)]
    refine Prod.ext ?_ (Prod.ext (by dsimp only; omega) rfl)
    rw [List.range_succ_eq_map, List.map_cons, List.map_map]
    refine congrArg (a :: ·) (List.map_congr_left fun i _ => ?_)
    exact (Nat.add_right_comm a 1 i).trans (Nat.add_assoc a i 1) |>.trans rfl

/-- R161: an address that is no info word and lies past the end stops a command. -/
theorem walk_past {n a : Nat} (step : Bool) (some : 1 ≤ n) (past : spaceSize space ≤ a) (noInfo : a < 0xFFF0) :
    walk space step n a = ([], a, true) := by
  obtain ⟨m, rfl⟩ := Nat.exists_eq_succ_of_ne_zero (Nat.one_le_iff_ne_zero.1 some)
  have out : ¬ inSpace space a = true := by
    unfold inSpace isInfo
    rw [decide_eq_false (by omega : ¬ a < spaceSize space), decide_eq_false (by omega : ¬ 0xFFF0 ≤ a)]
    exact nofun
  unfold walk
  exact if_neg out

/-- R161: of what a port reads in spaces 0 to 4, its own frames and pointers are no part. -/
theorem readValue_opened (x : PortCommand) (next : Nat) (low : space.toNat ≤ 4) (a : Nat) :
    (s.opened p x next).readValue p space a = s.readValue p space a := by
  unfold State.readValue
  split
  · rfl
  · unfold State.spaceWord
    have cases : space.toNat = 0 ∨ space.toNat = 1 ∨ space.toNat = 2 ∨ space.toNat = 3 ∨ space.toNat = 4 := by omega
    rcases cases with h | h | h | h | h <;> rw [h] <;> cases p <;> rfl

/-- R169, R170: a read in spaces 0 to 4 does nothing besides. -/
theorem readAll_plain (low : space.toNat ≤ 4) (l : List Nat) : s.readAll p space l = (s, l.map (s.readValue p space)) := by
  have still (a : Nat) : s.readEffect p space a = s := by
    have notNotice : space ≠ 5 := by rintro rfl; exact absurd low (by decide)
    have notPort : space ≠ 6 := by rintro rfl; exact absurd low (by decide)
    unfold State.readEffect
    rw [if_neg fun h => notNotice h.2.1, if_neg fun h => notPort h.2.1]
  induction l with
  | nil => rfl
  | cons a rest ih =>
    unfold State.readAll
    rw [still a, ih]
    rfl

theorem runRead_eq (s : State) (p : Port) (x : PortCommand) (n : Nat) :
    (s.onFrame p fun f => f.take x).runRead p x n =
      let w := walk x.space x.step n ((s.onFrame p fun f => f.take x).startOf p x.space x.start)
      let r := (s.opened p x w.2.1).readAll p x.space w.1
      r.1.reply p ([(if w.2.2 then Status.range else Status.ok).code, BitVec.ofNat 8 r.2.length] ++ r.2.flatMap wordBytes) := rfl

/-- R161, R162: a write command, from the part that it opens. -/
theorem runWrite_eq (s : State) (p : Port) (x : PortCommand) (data : List Word) :
    (s.onFrame p fun f => f.take x).runWrite p x data =
      let w := walk x.space x.step data.length ((s.onFrame p fun f => f.take x).startOf p x.space x.start)
      let r := (s.opened p x w.2.1).writeAll p x.space (w.1.zip data)
      let status := if w.2.2 then Status.range else statusOf r.2.1
      ((r.1.onCounters p fun k => k.count status).noteNoUnlock status).reply p (status.code :: r.2.2) := rfl

/-- The state that a command opens is answered as it stands. -/
theorem opened_answers (x : PortCommand) (next : Nat) (status : Status) (bytes : List Byte) :
    Answers p x.space next status bytes s ((s.opened p x next).reply p (status.code :: bytes)) :=
  answers_of_reply (k := ((s.opened p x next).prt.portRecord p).counters) rfl
    (fun _ other => opened_portRecord_other s p x next other) status bytes

theorem setPort_touches (s : State) (p : Port) (r : PortRecord) : Touches [.prt] s (s.setPort p r) := touches_prt s _

theorem opened_reply_touches (x : PortCommand) (next : Nat) (bytes : List Byte) :
    Touches [.prt] s ((s.opened p x next).reply p bytes) :=
  ((setPort_touches s p _).trans (setPort_touches _ p _)).trans (setPort_touches _ p _)

theorem opened_reply_counters (x : PortCommand) (next : Nat) (bytes : List Byte) :
    (((s.opened p x next).reply p bytes).prt.portRecord p).counters = (s.prt.portRecord p).counters
      ∧ ((s.opened p x next).reply p bytes).prt.notices = s.prt.notices := by
  cases p <;> exact ⟨rfl, rfl⟩

theorem exec_readCommand {start : Start} {step : Bool} {n : Nat} (on : s.powered = true)
    (takes : (s.prt.portRecord p).frame.Takes) (some : 1 ≤ n) (most : n ≤ 63) :
    ∃ t, exec (.readCommand p space start step n) s = .next t ∧ Follows
      ((s.onFrame p fun f => f.take ⟨space, start, step, .inl n⟩).execute p ⟨space, start, step, .inl n⟩) t := by
  have count : countOk ⟨space, start, step, .inl n⟩ = true := by
    unfold countOk
    dsimp only
    rw [decide_eq_true some, decide_eq_true most]
    rfl
  exact exec_effect (c := .readCommand p space start step n) on rfl (portCommand_executes s p _ takes count)

/-- A read command within the rights of its port. -/
theorem exec_readGranted {start : Start} {step : Bool} {n : Nat} (on : s.powered = true)
    (takes : (s.prt.portRecord p).frame.Takes) (some : 1 ≤ n) (most : n ≤ 63) (exist : space ≠ 7) (right : mayRead p space = true) :
    ∃ t, exec (.readCommand p space start step n) s = .next t ∧ Follows
      ((s.onFrame p fun f => f.take ⟨space, start, step, .inl n⟩).runRead p ⟨space, start, step, .inl n⟩ n) t := by
  obtain ⟨t, run, follows⟩ := exec_readCommand (start := start) (step := step) on takes some most
  rw [execute_read (c := ⟨space, start, step, .inl n⟩) (n := n) _ p rfl exist right] at follows
  exact ⟨t, run, follows⟩

/-- R163: a read that is refused as a whole. -/
theorem execute_refused {start : Start} {step : Bool} {n : Nat} (exist : space ≠ 7) (wrong : mayRead p space = false)
    (noInfo : isInfo (s.startOf p space start) = false) :
    s.execute p ⟨space, start, step, .inl n⟩ =
      (s.onCounters p fun k => k.count .denied).reply p [Status.denied.code, 0] := by
  unfold State.execute
  rw [if_neg exist]
  dsimp only
  rw [wrong, noInfo]
  rfl

/-! ### The notice pop (R170) -/

/-- R170: what a pop does to the notices, before what follows in the same event. -/
def State.popped (s : State) : State :=
  match s.prt.notices with
  | [] => { s with prt := { s.prt with overflow := false } }
  | _ :: rest => { s with prt := { s.prt with notices := rest } }

theorem readEffect_pop (s : State) : s.readEffect .control 5 1 = s.popped.settle := by
  refine (if_pos ⟨rfl, rfl, rfl⟩).trans ?_
  unfold State.popped
  cases s.prt.notices <;> rfl

theorem popped_portRecord (s : State) (q : Port) : s.popped.prt.portRecord q = s.prt.portRecord q := by
  unfold State.popped
  split <;> cases q <;> rfl

theorem popped_some {n : Notice} {rest : List Notice} (held : s.prt.notices = n :: rest) :
    s.popped.prt.notices = rest ∧ s.popped.prt.overflow = s.prt.overflow := by
  unfold State.popped
  rw [held]
  exact ⟨rfl, rfl⟩

theorem popped_none (none : s.prt.notices = []) : s.popped.prt.notices = [] ∧ s.popped.prt.overflow = false := by
  unfold State.popped
  rw [none]
  exact ⟨none, rfl⟩

/-- The part as a pop has been carried out. -/
theorem exec_noticePop (on : s.powered = true) (takes : s.prt.control.frame.Takes) :
    let r := s.opened .control (wordRead 5 1) 1
    ∃ t, exec .noticePop s = .next t
      ∧ Follows ((r.readEffect .control 5 1).reply .control (Status.ok.code :: 1 :: wordBytes (popWord s.prt))) t := by
  have read := portCommand_wordRead (s := s) (p := .control) (space := 5) (a := 1) takes (by decide) (by decide) (by decide)
  exact exec_effect (c := .noticePop) on rfl read

/-! ### The counters of a port (R172) -/

theorem writeWord_counter {a : Nat} {k : PortCounter} (test : Option (Word × Word × Word)) (counter : counterAt a = some k)
    (noInfo : isInfo a = false) :
    s.writeWord p 6 test (a, 0) = ⟨s.onCounters p fun c => c.clear k, .ok, []⟩ := by
  unfold State.writeWord
  rw [if_neg (by rw [noInfo]; exact nofun)]
  change s.writePort p test a 0 = _
  unfold State.writePort
  rw [counter]
  rfl

theorem onCounters_onCounters (s : State) (p : Port) (f g : PortCounters → PortCounters) :
    (s.onCounters p f).onCounters p g = s.onCounters p fun c => g (f c) := by
  cases p <;> rfl

/-- R172: the six counters of a port set to 0, one after the other. -/
theorem writeWords_clear (test : Option (Word × Word × Word)) :
    s.writeWords p 6 test [(0, 0), (1, 0), (2, 0), (3, 0), (4, 0), (5, 0)] =
      (s.onCounters p fun _ => ⟨0, 0, 0, 0, 0, 0⟩, [.ok, .ok, .ok, .ok, .ok, .ok], []) := by
  have kept (s : State) : s.countValues p [.ok] = s := if_neg (by decide)
  simp only [State.writeWords, kept, writeWord_counter test (a := 0) (k := .frames) rfl rfl,
    writeWord_counter test (a := 1) (k := .badFrames) rfl rfl, writeWord_counter test (a := 2) (k := .badCommands) rfl rfl,
    writeWord_counter test (a := 3) (k := .denied) rfl rfl, writeWord_counter test (a := 4) (k := .writeErrors) rfl rfl,
    writeWord_counter test (a := 5) (k := .overruns) rfl rfl, onCounters_onCounters]
  rfl

/-! ### O55 -/

theorem readWithin {a : Word} {n : Nat} (on : s.powered = true) (takes : (s.prt.portRecord p).frame.Takes)
    (low : space.toNat ≤ 4) (right : mayRead p space = true) (some : 1 ≤ n) (most : n ≤ 63)
    (inside : a.toNat + n ≤ spaceSize space) :
    ∃ u t, exec (.readCommand p space (.address a) true n) s = .next t ∧ Follows u t ∧ Touches [.prt] s u
      ∧ Answers p space (a.toNat + n) .ok (BitVec.ofNat 8 n :: (List.range n).flatMap fun i =>
          wordBytes (s.readValue p space (a.toNat + i))) s u
      ∧ (u.prt.portRecord p).counters = (s.prt.portRecord p).counters ∧ u.prt.notices = s.prt.notices := by
  have exist : space ≠ 7 := by rintro rfl; exact absurd low (by decide)
  obtain ⟨t, run, follows⟩ := exec_readGranted (start := .address a) (step := true) on takes some most exist right
  have addresses : walk space true n ((s.onFrame p fun f => f.take ⟨space, .address a, true, .inl n⟩).startOf p space (.address a))
      = ((List.range n).map (a.toNat + ·), a.toNat + n, false) := walk_within n a.toNat inside
  rw [runRead_eq] at follows
  dsimp only at follows
  rw [addresses] at follows
  dsimp only at follows
  rw [readAll_plain low] at follows
  have value (i : Nat) := readValue_opened (s := s) (p := p) ⟨space, .address a, true, .inl n⟩ (a.toNat + n) low i
  have words : ([(if false = true then Status.range else Status.ok).code,
      BitVec.ofNat 8 (((List.range n).map (a.toNat + ·)).map
        ((s.opened p ⟨space, .address a, true, .inl n⟩ (a.toNat + n)).readValue p space)).length]
      ++ (((List.range n).map (a.toNat + ·)).map
        ((s.opened p ⟨space, .address a, true, .inl n⟩ (a.toNat + n)).readValue p space)).flatMap wordBytes)
      = Status.ok.code :: BitVec.ofNat 8 n :: (List.range n).flatMap fun i => wordBytes (s.readValue p space (a.toNat + i)) := by
    rw [List.length_map, List.length_map, List.length_range, List.map_map, List.flatMap_map]
    simp only [Function.comp_apply, value]
    rfl
  dsimp only at follows
  rw [words] at follows
  obtain ⟨counters, notices⟩ := opened_reply_counters (s := s) (p := p) ⟨space, .address a, true, .inl n⟩ (a.toNat + n)
    (Status.ok.code :: BitVec.ofNat 8 n :: (List.range n).flatMap fun i => wordBytes (s.readValue p space (a.toNat + i)))
  exact ⟨_, t, run, follows, opened_reply_touches _ _ _, opened_answers ⟨space, .address a, true, .inl n⟩ _ _ _, counters, notices⟩

theorem readPast {a : Word} {n : Nat} (on : s.powered = true) (takes : (s.prt.portRecord p).frame.Takes) (exist : space ≠ 7)
    (right : mayRead p space = true) (some : 1 ≤ n) (most : n ≤ 63) (past : spaceSize space ≤ a.toNat) (noInfo : a.toNat < 0xFFF0) :
    ∃ u t, exec (.readCommand p space (.address a) true n) s = .next t ∧ Follows u t ∧ Touches [.prt] s u
      ∧ Answers p space a.toNat .range [0] s u := by
  obtain ⟨t, run, follows⟩ := exec_readGranted (start := .address a) (step := true) on takes some most exist right
  have stops : walk space true n ((s.onFrame p fun f => f.take ⟨space, .address a, true, .inl n⟩).startOf p space (.address a))
      = ([], a.toNat, true) := walk_past true some past noInfo
  rw [runRead_eq] at follows
  dsimp only at follows
  rw [stops] at follows
  exact ⟨_, t, run, follows, opened_reply_touches _ _ _, opened_answers ⟨space, .address a, true, .inl n⟩ a.toNat .range [0]⟩

theorem readRefused {a : Word} {step : Bool} {n : Nat} (on : s.powered = true) (takes : (s.prt.portRecord p).frame.Takes)
    (some : 1 ≤ n) (most : n ≤ 63) (noInfo : a.toNat < 0xFFF0) (wrong : space = 7 ∨ mayRead p space = false) :
    ∃ u t, exec (.readCommand p space (.address a) step n) s = .next t ∧ Follows u t ∧ Touches [.prt] s u
      ∧ (u.prt.portRecord p).frame.body
        = (s.prt.portRecord p).frame.body ++ (if space = 7 then [3] else [5, 0])
      ∧ (u.prt.portRecord p).counters.denied = min 65535 ((s.prt.portRecord p).counters.denied + 1)
      ∧ (u.prt.portRecord p).pointers = (s.prt.portRecord p).pointers := by
  obtain ⟨t, run, follows⟩ := exec_readCommand (space := space) (start := .address a) (step := step) on takes some most
  by_cases absent : space = 7
  · rw [State.execute, if_pos absent] at follows
    refine ⟨_, t, run, follows, ?_, ?_⟩
    · exact ((setPort_touches s p _).trans (setPort_touches _ p _)).trans (setPort_touches _ p _)
    · rw [if_pos absent]
      cases p <;> exact ⟨rfl, rfl, rfl⟩
  · rw [execute_refused absent (wrong.resolve_left absent)
      (by unfold isInfo; exact Bool.and_eq_false_iff.2 (.inl (decide_eq_false (Nat.not_le.2 noInfo))))] at follows
    refine ⟨_, t, run, follows, ?_, ?_⟩
    · exact ((setPort_touches s p _).trans (setPort_touches _ p _)).trans (setPort_touches _ p _)
    · rw [if_neg absent]
      cases p <;> exact ⟨rfl, rfl, rfl⟩

/-- R170: the answer to a pop whose effect on the notices, with what follows in the same event, is `v` to `u`. -/
theorem pop_answers {v : State} {bytes : List Byte} (same : ∀ q, v.prt.portRecord q
      = (s.opened .control (wordRead 5 1) 1).prt.portRecord q) (ends : EndsFrom v u)
    (follows : Follows (u.reply .control (Status.ok.code :: bytes)) t) : Answers .control 5 1 .ok bytes s t
      ∧ t.prt.notices = v.prt.notices ∧ t.prt.overflow = v.prt.overflow := by
  have ports (q : Port) : u.prt.portRecord q = (s.opened .control (wordRead 5 1) 1).prt.portRecord q :=
    (ends.portRecord q).trans (same q)
  have answers := answers_of_reply (c := wordRead 5 1) (k := (u.prt.portRecord .control).counters) (by rw [ports])
    (fun q other => (ports q).trans (opened_portRecord_other s _ _ _ other)) .ok bytes
  refine ⟨answers.ends follows.ends, ?_⟩
  have notices : u.prt.notices = v.prt.notices ∧ u.prt.overflow = v.prt.overflow := by rw [ends.prt]; exact ⟨rfl, rfl⟩
  rw [follows.ends.prt]
  exact notices

theorem noticePop_takes (on : s.powered = true) (takes : s.prt.control.frame.Takes) :
    ∃ t, exec .noticePop s = .next t
      ∧ (∀ n rest, s.prt.notices = n :: rest → t.prt.notices = rest ∧ t.prt.overflow = s.prt.overflow
          ∧ Answers .control 5 1 .ok (1 :: wordBytes (noticeWord n)) s t)
      ∧ (s.prt.notices = [] → t.prt.notices = [] ∧ t.prt.overflow = false
          ∧ Answers .control 5 1 .ok [1, 0xFF, 0xFF] s t) := by
  obtain ⟨t, run, follows⟩ := exec_noticePop on takes
  have notices : (s.opened .control (wordRead 5 1) 1).prt.notices = s.prt.notices := rfl
  have overflow : (s.opened .control (wordRead 5 1) 1).prt.overflow = s.prt.overflow := rfl
  rw [readEffect_pop] at follows
  have ends := settle_endsFrom (s.opened .control (wordRead 5 1) 1).popped
  generalize (s.opened .control (wordRead 5 1) 1).popped.settle = u at follows ends
  obtain ⟨answers, left, flag⟩ := pop_answers (popped_portRecord _) ends follows
  refine ⟨t, run, fun n rest held => ?_, fun none => ?_⟩
  · obtain ⟨popped, kept⟩ := popped_some (notices.trans held)
    have word : popWord s.prt = noticeWord n := by unfold popWord; rw [held]
    rw [word] at answers
    exact ⟨left.trans popped, (flag.trans kept).trans overflow, answers⟩
  · obtain ⟨popped, cleared⟩ := popped_none (notices.trans none)
    have word : popWord s.prt = 0xFFFF := by unfold popWord; rw [none]
    rw [word] at answers
    exact ⟨left.trans popped, flag.trans cleared, answers⟩

/-- R172: a write of six zeros to the counters. -/
theorem countersCleared (on : s.powered = true) (takes : (s.prt.portRecord p).frame.Takes) :
    ∃ u t, exec (.genericWrite p 6 (.address 0) true [0, 0, 0, 0, 0, 0]) s = .next t ∧ Follows u t ∧ Touches [.prt] s u
      ∧ (u.prt.portRecord p).counters = ⟨0, 0, 0, 0, 0, 0⟩ ∧ Answers p 6 6 .ok [] s u := by
  let x : PortCommand := ⟨6, .address 0, true, .inr [0, 0, 0, 0, 0, 0]⟩
  have written : (s.onFrame p fun f => f.take x).runWrite p x [0, 0, 0, 0, 0, 0]
      = ((s.opened p x 6).onCounters p fun _ => ⟨0, 0, 0, 0, 0, 0⟩).reply p [Status.ok.code] := by
    have addresses : walk x.space x.step [(0 : Word), 0, 0, 0, 0, 0].length
        ((s.onFrame p fun f => f.take x).startOf p x.space x.start) = ([0, 1, 2, 3, 4, 5], 6, false) :=
      walk_within (space := 6) 6 0 (by decide)
    have all : (s.opened p x 6).writeAll p x.space ([0, 1, 2, 3, 4, 5].zip [0, 0, 0, 0, 0, 0]) = _ :=
      (if_neg (by decide)).trans (writeWords_clear _)
    rw [runWrite_eq, addresses]
    dsimp only
    have status : statusOf [.ok, .ok, .ok, .ok, .ok, .ok] = .ok := rfl
    rw [all]
    dsimp only
    rw [if_neg Bool.false_ne_true, status, onCounters_onCounters]
    rfl
  obtain ⟨t, run, follows⟩ := exec_effect (c := .genericWrite p 6 (.address 0) true [0, 0, 0, 0, 0, 0]) on rfl
    (portCommand_executes s p x takes rfl)
  rw [execute_write _ p rfl (by decide) (by cases p <;> decide), written] at follows
  refine ⟨_, t, run, follows, ?_, ?_, ?_⟩
  · exact (((setPort_touches s p _).trans (setPort_touches _ p _)).trans (setPort_touches _ p _)).trans (setPort_touches _ p _)
  · cases p <;> rfl
  · exact answers_of_reply (c := x) (k := ⟨0, 0, 0, 0, 0, 0⟩) (by cases p <;> rfl)
      (fun q other => (State.setPort_portRecord_other _ p _ other).trans (opened_portRecord_other s p x 6 other)) .ok []

/-- Settles O55, from the words that each command handles and the answer that it is given. -/
theorem readsAndWritesAreAnswered : Obligations.ReadsAndWritesAreAnswered :=
  ⟨fun _ _ _ _ _ on takes low right some most inside => readWithin on takes low right some most inside,
    fun _ _ _ _ _ on takes exist right some most past noInfo => readPast on takes exist right some most past noInfo,
    fun _ _ _ _ _ _ on takes some most noInfo wrong => readRefused on takes some most noInfo wrong,
    fun _ on takes => noticePop_takes on takes, fun _ _ on takes => countersCleared on takes⟩

end Sys2Proof.Machine

/-! SUPPORT. Words of the PORT and COMBUSTION spaces and the heartbeat (R166, R168, R172, R173, R182, R183). -/

namespace Sys2Proof.Machine

variable {c : Instr} {s t u v : State} {p : Port} {space : BitVec 3} {a w : Word} {status : Status} {outcomes : List Byte}

/-! ### The answer to a word (R162) -/

/-- R162: the part as a word that has been handled is counted and answered. -/
def State.wordAnswered (s : State) (p : Port) (status : Status) (outcomes : List Byte) : State :=
  (s.onCounters p (·.tally status)).reply p (status.code :: outcomes)

/-- R161: what a word's own meaning leaves for its answer. -/
structure KeepsReply (p : Port) (s t : State) : Prop where
  body : (t.prt.portRecord p).frame.body = (s.prt.portRecord p).frame.body
  pointers : (t.prt.portRecord p).pointers = (s.prt.portRecord p).pointers
  taken : (t.prt.portRecord p).frame.taken = (s.prt.portRecord p).frame.taken
  other : ∀ q, q ≠ p → t.prt.portRecord q = s.prt.portRecord q

theorem KeepsReply.of_ports (ports : ∀ q, t.prt.portRecord q = s.prt.portRecord q) : KeepsReply p s t :=
  ⟨by rw [ports], by rw [ports], by rw [ports], fun q _ => ports q⟩

theorem KeepsReply.refl (s : State) : KeepsReply p s s := .of_ports fun _ => rfl

theorem wordAnswered_portRecord (s : State) (p : Port) (status : Status) (outcomes : List Byte) :
    (s.wordAnswered p status outcomes).prt.portRecord p = { s.prt.portRecord p with
      counters := (s.prt.portRecord p).counters.tally status
      frame := { (s.prt.portRecord p).frame with body := (s.prt.portRecord p).frame.body ++ status.code :: outcomes } } := by
  cases p <;> rfl

/-- The answer writes its own port alone. -/
theorem wordAnswered_frame (s : State) (p : Port) (status : Status) (outcomes : List Byte) :
    Touches [.prt] s (s.wordAnswered p status outcomes)
      ∧ (s.wordAnswered p status outcomes).prt = { s.prt with
          control := (s.wordAnswered p status outcomes).prt.control
          service := (s.wordAnswered p status outcomes).prt.service } := by
  refine ⟨(setPort_touches s p _).trans (setPort_touches _ p _), ?_⟩
  cases p <;> rfl

theorem opened_touches (s : State) (p : Port) (x : PortCommand) (next : Nat) : Touches [.prt] s (s.opened p x next) :=
  (setPort_touches s p _).trans (setPort_touches _ p _)

theorem opened_prt (s : State) (p : Port) (x : PortCommand) (next : Nat) : (s.opened p x next).prt = { s.prt with
    control := (s.opened p x next).prt.control, service := (s.opened p x next).prt.service } := by
  cases p <;> rfl

/-- R161: a word whose meaning keeps the reply is answered by its status and outcomes. -/
theorem KeepsReply.answers {x : PortCommand} {next : Nat} (kept : KeepsReply p (s.opened p x next) v) (status : Status)
    (outcomes : List Byte) : Answers p x.space next status outcomes s (v.wordAnswered p status outcomes) := by
  have before := opened_portRecord s p x next
  constructor
  case body => rw [wordAnswered_portRecord, kept.body, before]; rfl
  case pointers => rw [wordAnswered_portRecord, kept.pointers, before]
  case taken => rw [wordAnswered_portRecord, kept.taken, before]; rfl
  case other =>
    intro q other
    have still : (v.wordAnswered p status outcomes).prt.portRecord q = v.prt.portRecord q :=
      (State.setPort_portRecord_other _ p _ other).trans (State.setPort_portRecord_other v p _ other)
    rw [still, kept.other q other, opened_portRecord_other s p x next other]

/-- R172: a word whose meaning keeps its port's counters is counted by its status. -/
theorem wordAnswered_counts {x : PortCommand} {next : Nat}
    (kept : (v.prt.portRecord p).counters = ((s.opened p x next).prt.portRecord p).counters) :
    Counts p status s (v.wordAnswered p status outcomes) := by
  rw [opened_portRecord] at kept
  unfold Counts
  rw [wordAnswered_portRecord, kept]
  rfl

/-- R160 to R162: a word that its port may write, from its own meaning. -/
theorem portCommand_answered (takes : (s.prt.portRecord p).frame.Takes) (notDemand : space ≠ 1) (exist : space ≠ 7)
    (right : mayWrite p space = true) (inside : inSpace space a.toNat = true)
    (written : (s.opened p (wordWrite space a w) a.toNat).writeWord p space none (a.toNat, w) = ⟨v, status, outcomes⟩)
    (single : statusOf [status] = status) (unlocked : status ≠ .noUnlock) :
    s.portCommand p (wordWrite space a w) = v.wordAnswered p status outcomes :=
  portCommand_wordWrite takes notDemand exist right inside written single unlocked

/-! ### The heartbeat (R168) -/

theorem writeHeartbeat_taken (low : (w.extractLsb' 8 8).toNat = 0x5A) : s.writeHeartbeat w =
    ⟨(s.takeHeartbeat (clampNat 2 60 (w.extractLsb' 0 8).toNat)).settle,
      if clampNat 2 60 (w.extractLsb' 0 8).toNat = (w.extractLsb' 0 8).toNat then .ok else .clamped, []⟩ := by
  refine (if_pos low).trans ?_
  by_cases same : clampNat 2 60 (w.extractLsb' 0 8).toNat = (w.extractLsb' 0 8).toNat
  · rw [if_pos same, taken, if_neg fun changed => bne_iff_ne.1 changed same]
  · rw [if_neg same, taken, if_pos (bne_iff_ne.2 same)]

/-- R168: a heartbeat sets the timer, and clears A07 where supervision begins. -/
theorem takeHeartbeat_takes (s : State) (n : Nat) : (s.takeHeartbeat n).prt.heartbeat = some (n * 1000)
    ∧ (s.takeHeartbeat n).prt.timeout = n ∧ (s.takeHeartbeat n).dta = s.dta
    ∧ (∀ q, (s.takeHeartbeat n).prt.portRecord q = s.prt.portRecord q)
    ∧ (∀ k, (s.takeHeartbeat n).isActive k = (s.isActive k && (s.prt.heartbeat.isSome || k != .a07))) := by
  unfold State.takeHeartbeat
  dsimp only
  split
  · next runs => exact ⟨rfl, rfl, rfl, fun q => by cases q <;> rfl, fun k => by rw [runs]; simp [State.isActive]⟩
  · next rests =>
    generalize isSet : ({ s with prt := { s.prt with heartbeat := some (n * 1000), timeout := n } } : State) = v
    have key := leaveKey_leaves v .a07
    have prt : (v.leaveKey .a07).prt = { v.prt with
        notices := (v.leaveKey .a07).prt.notices, overflow := (v.leaveKey .a07).prt.overflow } := by
      rw [key.notice]
      split
      · exact Prt.post_frame _ _
      · rfl
    refine ⟨by rw [prt, ← isSet], by rw [prt, ← isSet], by rw [key.touches.dta (by decide), ← isSet], fun q => ?_, fun k => ?_⟩
    · rw [prt, ← isSet]
      cases q <;> rfl
    · rw [leaveKey_isActive, Bool.eq_false_iff.2 rests, Bool.false_or, ← isSet]
      rfl

theorem exec_heartbeatWord (on : s.powered = true) (takes : s.prt.control.frame.Takes)
    (written : (s.opened .control (wordWrite 6 0x20 w) 0x20).writeHeartbeat w = ⟨v, status, []⟩)
    (single : statusOf [status] = status) (unlocked : status ≠ .noUnlock) :
    ∃ t, exec (.heartbeatWord w) s = .next t ∧ Follows (v.wordAnswered .control status []) t :=
  exec_effect (c := .heartbeatWord w) on rfl
    (portCommand_answered takes (by decide) (by decide) (by decide) (by decide) written single unlocked)

theorem heartbeat_starts (on : s.powered = true) (takes : s.prt.control.frame.Takes) (low : (w.extractLsb' 8 8).toNat = 0x5A) :
    let low := (w.extractLsb' 0 8).toNat
    let timeout := clampNat 2 60 low
    ∃ t, exec (.heartbeatWord w) s = .next t ∧ t.prt.heartbeat = some (timeout * 1000) ∧ t.prt.timeout = timeout
      ∧ (s.prt.heartbeat = none → t.isActive .a07 = false)
      ∧ (s.prt.heartbeat.isSome = true → t.isActive .a07 = s.isActive .a07)
      ∧ (∀ k, k ≠ .a07 → t.isActive k = s.isActive k) ∧ t.dta.table.board = s.dta.table.board
      ∧ Answers .control 6 0x20 (if timeout = low then .ok else .clamped) [] s t := by
  intro n timeout
  have written := writeHeartbeat_taken (s := s.opened .control (wordWrite 6 0x20 w) 0x20) low
  have single : statusOf [if timeout = n then Status.ok else .clamped] = if timeout = n then .ok else .clamped := by
    split <;> rfl
  obtain ⟨t, run, follows⟩ := exec_heartbeatWord on takes written single (by split <;> exact nofun)
  obtain ⟨heartbeat, limit, dta, ports, keys⟩ := takeHeartbeat_takes (s.opened .control (wordWrite 6 0x20 w) 0x20) timeout
  have active (k : FaultKey) : (s.opened .control (wordWrite 6 0x20 w) 0x20).isActive k = s.isActive k := rfl
  have runs : (s.opened .control (wordWrite 6 0x20 w) 0x20).prt.heartbeat = s.prt.heartbeat := rfl
  have table : (s.opened .control (wordWrite 6 0x20 w) 0x20).dta = s.dta := rfl
  have settled := settle_endsFrom ((s.opened .control (wordWrite 6 0x20 w) 0x20).takeHeartbeat timeout)
  change Follows (State.wordAnswered (State.settle (State.takeHeartbeat _ timeout)) _ _ _) t at follows
  generalize State.takeHeartbeat _ timeout = x at follows heartbeat limit dta ports keys settled
  generalize x.settle = v at follows settled
  have kept : KeepsReply .control (s.opened .control (wordWrite 6 0x20 w) 0x20) v :=
    .of_ports fun q => (settled.portRecord q).trans (ports q)
  obtain ⟨touches, prt⟩ := wordAnswered_frame v .control (if timeout = n then .ok else .clamped) []
  have isActive (k : FaultKey) : t.isActive k = (s.isActive k && (s.prt.heartbeat.isSome || k != .a07)) := by
    rw [follows.ends.isActive, touches.isActive (by decide), settled.isActive, keys, active, runs]
  refine ⟨t, run, ?_, ?_, fun none => ?_, fun isSome => ?_, fun k other => ?_, ?_, (kept.answers _ _).ends follows.ends⟩
  · rw [follows.ends.prt]
    dsimp only
    rw [prt]
    dsimp only
    rw [settled.prt]
    exact heartbeat
  · rw [follows.ends.prt]
    dsimp only
    rw [prt]
    dsimp only
    rw [settled.prt]
    exact limit
  · rw [isActive, none]; simp
  · rw [isActive, isSome]; simp
  · rw [isActive]; simp [other]
  · rw [follows.ends.table, touches.dta (by decide), settled.table, dta, table]

theorem writeHeartbeat_refused (other : (w.extractLsb' 8 8).toNat ≠ 0x5A) : s.writeHeartbeat w = ⟨s, .value, []⟩ := if_neg other

/-- R168: what an expiry leaves of the port's record and of the demand table. -/
theorem heartbeatExpiry_leaves (s : State) : s.heartbeatExpiry.prt.heartbeat = none
    ∧ s.heartbeatExpiry.dta = s.dta.put .board none
    ∧ (∀ k, s.heartbeatExpiry.isActive k = (s.isActive k || k == .a07))
    ∧ s.heartbeatExpiry.prt.brst = if s.sto.settings.boardResetPulse then some 10 else s.prt.brst := by
  generalize isStopped : ({ s with prt := { s.prt with heartbeat := none }, dta := s.dta.put .board none } : State) = v
  have expired : s.heartbeatExpiry = { v.enterKey .a07 with prt := { (v.enterKey .a07).prt with
      expiredFlag := true, expiredNote := false
      brst := if (v.enterKey .a07).sto.settings.boardResetPulse then some Config.brstMs else (v.enterKey .a07).prt.brst } } := by
    rw [← isStopped]
    rfl
  have key := enterKey_enters v .a07
  have prt : (v.enterKey .a07).prt = { v.prt with
      notices := (v.enterKey .a07).prt.notices, overflow := (v.enterKey .a07).prt.overflow } := by
    rw [key.notice]
    split
    · rfl
    · exact Prt.post_frame _ _
  have keys (k : FaultKey) := enterKey_isActive v .a07 k
  have dta := key.touches.dta (by decide)
  have sto := key.sto
  generalize v.enterKey .a07 = x at expired prt keys dta sto
  rw [expired]
  refine ⟨by dsimp only; rw [prt, ← isStopped], by rw [dta, ← isStopped], fun k => (keys k).trans (by rw [← isStopped]; rfl), ?_⟩
  have pulse : x.sto.settings = s.sto.settings := by rw [sto, ← isStopped]
  have lasts : x.prt.brst = s.prt.brst := by rw [prt, ← isStopped]
  dsimp only
  rw [pulse, lasts]
  rfl

/-- Settles O57, from the heartbeat as it is taken and from the five steps of its expiry. -/
theorem heartbeatSupervisesTheBoard : Obligations.HeartbeatSupervisesTheBoard := by
  refine ⟨fun s value on takes low => heartbeat_starts on takes low, fun s value on takes other => ?refused,
    fun s on runs => ?expired, fun s on => exec_effect (c := .brstPulseEnd) on rfl rfl⟩
  case refused =>
    obtain ⟨t, run, follows⟩ := exec_heartbeatWord on takes (writeHeartbeat_refused other) rfl nofun
    refine ⟨t, run, ?_, ((KeepsReply.refl _).answers _ _).ends follows.ends, (wordAnswered_counts rfl).ends follows.ends⟩
    rw [follows.ends.prt]
    rfl
  case expired =>
    obtain ⟨heartbeat, dta, keys, brst⟩ := heartbeatExpiry_leaves s
    have ends := settle_endsFrom s.heartbeatExpiry
    refine ⟨_, exec_heartbeatTimerExpiry s on runs, ?_⟩
    generalize s.heartbeatExpiry.settle = t at ends
    rw [ends.prt, ends.table, ends.isActive, keys, dta]
    refine ⟨heartbeat, rfl, by simp, fun k other => ?_, fun pulse => ?_, fun none => ?_, rfl, rfl⟩
    · rw [ends.isActive, keys]; simp [other]
    · exact brst.trans (if_pos pulse)
    · exact brst.trans (if_neg (by rw [none]; exact nofun))

end Sys2Proof.Machine

/-! SUPPORT. Words of the PORT and COMBUSTION spaces by their values (R166, R172, R173, R182, R183). -/

namespace Sys2Proof.Machine

variable {c : Instr} {s t u v : State} {p : Port} {space : BitVec 3} {a w : Word} {status : Status} {outcomes : List Byte}

/-- R162: the answer to a word, from the part that the word's own meaning has touched. -/
theorem wordAnswered_touches {l : List Block} {x : PortCommand} {next : Nat} (touched : Touches l (s.opened p x next) v)
    (ports : [.prt] ⊆ l) : Touches l s (v.wordAnswered p status outcomes) :=
  (((opened_touches s p x next).mono ports).trans touched).trans ((wordAnswered_frame v p status outcomes).1.mono ports)

/-- The same of a word written by itself. -/
theorem KeepsReply.answersWord {next : Nat} (kept : KeepsReply p (s.opened p (wordWrite space a w) next) v) (status : Status)
    (outcomes : List Byte) : Answers p space next status outcomes s (v.wordAnswered p status outcomes) :=
  kept.answers status outcomes

theorem onFrame_keepsReply (f : Frame → Frame) (body : ∀ x, (f x).body = x.body) (taken : ∀ x, (f x).taken = x.taken) :
    KeepsReply p s (s.onFrame p f) := by
  have own : (s.onFrame p f).prt.portRecord p = { s.prt.portRecord p with frame := f (s.prt.portRecord p).frame } :=
    State.setPort_portRecord s p _
  exact ⟨by rw [own]; exact body _, by rw [own], by rw [own]; exact taken _,
    fun q other => State.setPort_portRecord_other s p _ other⟩

theorem onCounters_keepsReply (f : PortCounters → PortCounters) : KeepsReply p s (s.onCounters p f) := by
  have own : (s.onCounters p f).prt.portRecord p = { s.prt.portRecord p with counters := f (s.prt.portRecord p).counters } :=
    State.setPort_portRecord s p _
  exact ⟨by rw [own], by rw [own], by rw [own], fun q other => State.setPort_portRecord_other s p _ other⟩

theorem KeepsReply.trans (first : KeepsReply p s t) (second : KeepsReply p t u) : KeepsReply p s u :=
  ⟨second.body.trans first.body, second.pointers.trans first.pointers, second.taken.trans first.taken,
    fun q other => (second.other q other).trans (first.other q other)⟩

/-! ### Counters (R172) -/

theorem writeWord_counterAddress (s : State) (p : Port) (k : PortCounter) (w : Word) :
    s.writeWord p 6 none ((counterAddress k).toNat, w) = s.writeCounter p k w := by
  cases k <;> rfl

theorem counterCleared (k : PortCounter) (on : s.powered = true) (takes : (s.prt.portRecord p).frame.Takes) :
    ∃ u t, exec (.counterClear p k w) s = .next t ∧ Follows u t ∧ Touches [.prt] s u
      ∧ (w = 0 → Answers p 6 (counterAddress k).toNat .ok [] s u
          ∧ (u.prt.portRecord p).counters = (s.prt.portRecord p).counters.clear k)
      ∧ (w ≠ 0 → Answers p 6 (counterAddress k).toNat .value [] s u ∧ Counts p .value s u) := by
  have word := writeWord_counterAddress (s.opened p (wordWrite 6 (counterAddress k) w) (counterAddress k).toNat) p k w
  have right : mayWrite p 6 = true := by cases p <;> decide
  have inside : inSpace 6 (counterAddress k).toNat = true := by cases k <;> decide
  by_cases zero : w = 0
  · obtain ⟨t, run, follows⟩ := exec_effect (c := .counterClear p k w) on rfl
      (portCommand_answered (status := .ok) takes (by decide) (by decide) right inside (word.trans (if_pos zero)) rfl nofun)
    refine ⟨_, t, run, follows, wordAnswered_touches (setPort_touches _ p _) (List.Subset.refl _),
      fun _ => ⟨(onCounters_keepsReply _).answersWord _ _, ?_⟩, (absurd zero ·)⟩
    rw [wordAnswered_portRecord]
    change ((State.setPort _ p _).prt.portRecord p).counters = _
    rw [State.setPort_portRecord, opened_portRecord]
  · obtain ⟨t, run, follows⟩ := exec_effect (c := .counterClear p k w) on rfl
      (portCommand_answered takes (by decide) (by decide) right inside (word.trans (if_neg zero)) rfl nofun)
    exact ⟨_, t, run, follows, wordAnswered_touches (.refl _ _) (List.Subset.refl _), (absurd · zero),
      fun _ => ⟨(KeepsReply.refl _).answersWord _ _, wordAnswered_counts rfl⟩⟩

/-! ### Working trim offsets (R182) -/

theorem writeWord_offsetAddress (s : State) (ch : NtcChannel) (w : Word) :
    s.writeWord .service 6 none ((offsetAddress ch).toNat, w) = s.writeOffset ch w := by
  cases ch <;> rfl

theorem writeOffset_eq (s : State) (ch : NtcChannel) (w : Word) : s.writeOffset ch w =
    ⟨{ s with sto := { s.sto with trim := { s.sto.trim with
        offsets := ntcPut s.sto.trim.offsets ch (clampInt (-20) 20 w.toInt) } } },
      if clampInt (-20) 20 w.toInt = w.toInt then .ok else .clamped, []⟩ := by
  unfold State.writeOffset taken clampWord
  dsimp only
  by_cases same : clampInt (-20) 20 w.toInt = w.toInt
  · rw [if_pos same, if_neg fun changed => bne_iff_ne.1 changed same]
  · rw [if_neg same, if_pos (bne_iff_ne.2 same)]

theorem offsetTaken (ch : NtcChannel) (on : s.powered = true) (takes : s.prt.service.frame.Takes) :
    let x := clampInt (-20) 20 w.toInt
    ∃ u t, exec (.trimOffsetWrite ch w) s = .next t ∧ Follows u t ∧ Touches [.prt, .sto] s u
      ∧ u.sto = { s.sto with trim := { s.sto.trim with offsets := ntcPut s.sto.trim.offsets ch x } }
      ∧ Answers .service 6 (offsetAddress ch).toNat (if x = w.toInt then .ok else .clamped) [] s u := by
  intro x
  have word := writeWord_offsetAddress (s.opened .service (wordWrite 6 (offsetAddress ch) w) (offsetAddress ch).toNat) ch w
  have single : statusOf [if x = w.toInt then Status.ok else .clamped] = if x = w.toInt then .ok else .clamped := by
    split <;> rfl
  obtain ⟨t, run, follows⟩ := exec_effect (c := .trimOffsetWrite ch w) on rfl
    (portCommand_answered (p := .service) takes (by decide) (by decide) (by decide) (by cases ch <;> decide)
      (word.trans (writeOffset_eq _ ch w)) single (by split <;> exact nofun))
  refine ⟨_, t, run, follows, wordAnswered_touches ((touches_sto _ _).mono (by decide)) (by decide), rfl, ?_⟩
  exact KeepsReply.answersWord (.of_ports fun q => by cases q <;> rfl) _ _

/-! ### The unlock word (R166) -/

theorem unlockTaken (on : s.powered = true) (takes : s.prt.service.frame.Takes) :
    ∃ u t, exec (.unlockWord w) s = .next t ∧ Follows u t ∧ Touches [.prt] s u
      ∧ u.prt.service.frame.unlock = (s.prt.service.frame.unlock || w == 1)
      ∧ Answers .service 6 0x30 (if w = 1 then .ok else .value) [] s u := by
  by_cases one : w = 1
  · obtain ⟨t, run, follows⟩ := exec_effect (c := .unlockWord w) on rfl
      (portCommand_answered (p := .service) (space := 6) (a := 0x30) (status := .ok) takes (by decide) (by decide) (by decide)
        (by decide) (if_pos one) rfl nofun)
    refine ⟨_, t, run, follows, wordAnswered_touches (setPort_touches _ .service _) (List.Subset.refl _), ?_, ?_⟩
    · rw [one]
      exact (Bool.or_true _).symm
    · rw [if_pos one]
      exact (onFrame_keepsReply (fun f => { f with unlock := true }) (fun _ => rfl) fun _ => rfl).answersWord _ _
  · obtain ⟨t, run, follows⟩ := exec_effect (c := .unlockWord w) on rfl
      (portCommand_answered (p := .service) (space := 6) (a := 0x30) takes (by decide) (by decide) (by decide) (by decide)
        (if_neg one) rfl nofun)
    refine ⟨_, t, run, follows, wordAnswered_touches (.refl _ _) (List.Subset.refl _), ?_, ?_⟩
    · rw [beq_false_of_ne one, Bool.or_false]
      rfl
    · rw [if_neg one]
      exact (KeepsReply.refl _).answersWord _ _

/-! ### The soft reset word (R173) -/

theorem acceptSoftReset_touches (s : State) (p : Port) : Touches [.prt] s (s.acceptSoftReset p) := by
  unfold State.acceptSoftReset
  split
  · exact .refl _ _
  · exact touches_prt s _

theorem acceptSoftReset_portRecord (s : State) (p q : Port) :
    (s.acceptSoftReset p).prt.portRecord q = s.prt.portRecord q := by
  unfold State.acceptSoftReset
  split
  · rfl
  · cases q <;> rfl

theorem acceptSoftReset_first (none : s.prt.softReset = none) : (s.acceptSoftReset p).prt.softReset
    = some ⟨p, if s.prt.processing p then .executing else .delivered, s.sto.flushSet⟩ := by
  unfold State.acceptSoftReset
  rw [none]

theorem acceptSoftReset_second (asked : s.prt.softReset.isSome = true) : s.acceptSoftReset p = s := by
  obtain ⟨r, held⟩ := Option.isSome_iff_exists.1 asked
  unfold State.acceptSoftReset
  rw [held]

theorem writeWord_softReset (s : State) (p : Port) (w : Word) : s.writeWord p 6 none (0x31, w) = s.writeSoftReset p w := by
  cases p <;> rfl

theorem exec_softResetWord (on : s.powered = true) (takes : (s.prt.portRecord p).frame.Takes)
    (written : (s.opened p (wordWrite 6 0x31 w) 0x31).writeSoftReset p w = ⟨v, status, []⟩)
    (single : statusOf [status] = status) (unlocked : status ≠ .noUnlock) :
    ∃ t, exec (.softResetWord p w) s = .next t ∧ Follows (v.wordAnswered p status []) t := by
  have right : mayWrite p 6 = true := by cases p <;> decide
  exact exec_effect (c := .softResetWord p w) on rfl (portCommand_answered (space := 6) (a := 0x31) takes (by decide) (by decide)
    right (by decide) ((writeWord_softReset _ p w).trans written) single unlocked)

/-- A word that is refused changes nothing but its answer. -/
theorem refused_softReset (status : Status) : Touches [.prt] s ((s.opened p (wordWrite 6 0x31 w) 0x31).wordAnswered p status [])
    ∧ Answers p 6 0x31 status [] s ((s.opened p (wordWrite 6 0x31 w) 0x31).wordAnswered p status [])
    ∧ ((s.opened p (wordWrite 6 0x31 w) 0x31).wordAnswered p status []).prt.softReset = s.prt.softReset := by
  refine ⟨wordAnswered_touches (.refl _ _) (List.Subset.refl _), (KeepsReply.refl _).answersWord _ _, ?_⟩
  rw [(wordAnswered_frame _ p status []).2, opened_prt]

theorem softResetTaken (on : s.powered = true) (takes : (s.prt.portRecord p).frame.Takes) :
    ∃ u t, exec (.softResetWord p w) s = .next t ∧ Follows u t ∧ Touches [.prt] s u
      ∧ (w = 1 → s.bsq.state = .idle ∨ s.bsq.state = .lockout →
          Answers p 6 0x31 .ok [] s u ∧ (s.prt.softReset.isSome = true → u.prt.softReset = s.prt.softReset)
          ∧ (s.prt.softReset = none → ∃ r, u.prt.softReset = some r ∧ r.port = p ∧ r.flush = s.sto.flushSet
              ∧ r.reply = if s.prt.processing p then .executing else .delivered))
      ∧ (w = 1 → s.bsq.state ≠ .idle → s.bsq.state ≠ .lockout →
          Answers p 6 0x31 .busy [] s u ∧ u.prt.softReset = s.prt.softReset)
      ∧ (w ≠ 1 → Answers p 6 0x31 .value [] s u ∧ u.prt.softReset = s.prt.softReset) := by
  by_cases one : w = 1
  · by_cases quiet : s.bsq.state = .idle ∨ s.bsq.state = .lockout
    · obtain ⟨t, run, follows⟩ := exec_softResetWord (status := .ok) on takes
        ((if_neg (not_not.2 one)).trans (if_pos quiet)) rfl nofun
      refine ⟨_, t, run, follows, wordAnswered_touches (acceptSoftReset_touches _ p) (List.Subset.refl _),
        fun _ _ => ⟨KeepsReply.answersWord (.of_ports (acceptSoftReset_portRecord _ p)) _ _, fun asked => ?_, fun none => ?_⟩,
        fun _ notIdle notLockout => absurd quiet (not_or.2 ⟨notIdle, notLockout⟩), (absurd one ·)⟩
      · have before : (s.opened p (wordWrite 6 0x31 w) 0x31).prt.softReset = s.prt.softReset := by rw [opened_prt]
        rw [(wordAnswered_frame _ p _ _).2]
        dsimp only
        rw [acceptSoftReset_second (by rw [before]; exact asked), before]
      · have before : (s.opened p (wordWrite 6 0x31 w) 0x31).prt.softReset = s.prt.softReset := by rw [opened_prt]
        refine ⟨⟨p, if s.prt.processing p then .executing else .delivered, s.sto.flushSet⟩, ?_, rfl, rfl, rfl⟩
        rw [(wordAnswered_frame _ p _ _).2]
        dsimp only
        rw [acceptSoftReset_first (before.trans none)]
        cases p <;> rfl
    · obtain ⟨t, run, follows⟩ := exec_softResetWord on takes ((if_neg (not_not.2 one)).trans (if_neg quiet)) rfl nofun
      obtain ⟨touches, answers, kept⟩ := refused_softReset (s := s) (p := p) (w := w) .busy
      exact ⟨_, t, run, follows, touches, fun _ isQuiet => absurd isQuiet quiet, fun _ _ _ => ⟨answers, kept⟩, (absurd one ·)⟩
  · obtain ⟨t, run, follows⟩ := exec_softResetWord on takes (if_pos one) rfl nofun
    obtain ⟨touches, answers, kept⟩ := refused_softReset (s := s) (p := p) (w := w) .value
    exact ⟨_, t, run, follows, touches, (absurd · one), (absurd · one), fun _ => ⟨answers, kept⟩⟩

/-! ### The COMBUSTION space (R166) -/

theorem writeWord_combustion {a : Nat} (noInfo : isInfo a = false) :
    s.writeWord .service 3 none (a, w) = s.writeCombustion a w :=
  if_neg (by rw [noInfo]; exact nofun)

/-- R166: the frame notes a combustion write. -/
def State.writesCombustion (s : State) : State := s.onFrame .service fun f => { f with combustionWrite := true }

theorem writesCombustion_keepsReply (s : State) : KeepsReply .service s s.writesCombustion :=
  onFrame_keepsReply _ (fun _ => rfl) fun _ => rfl

theorem writeCombustion_locked {a : Nat} (locked : s.prt.service.frame.unlock = false) :
    s.writeCombustion a w = ⟨s.writesCombustion, .noUnlock, []⟩ :=
  if_neg (show ¬ s.prt.service.frame.unlock = true by rw [locked]; exact nofun)

/-- R166: under unlock a word that is taken leaves what it has staged. -/
theorem writeCombustion_taken {a : Nat} (unlocked : s.prt.service.frame.unlock = true)
    (staged : s.writesCombustion.stage.stageWord a w = ⟨v, .ok, []⟩) : s.writeCombustion a w = ⟨v, .ok, []⟩ := by
  refine (if_pos (show s.prt.service.frame.unlock = true from unlocked)).trans ?_
  change (let x := s.writesCombustion.stage.stageWord a w; if x.status = .value then _ else x) = _
  rw [staged]
  rfl

/-- R166: under unlock a word refused with VALUE is noted by the frame. -/
theorem writeCombustion_value {a : Nat} (unlocked : s.prt.service.frame.unlock = true)
    (refused : s.writesCombustion.stage.stageWord a w = ⟨v, .value, []⟩) :
    s.writeCombustion a w = ⟨v.onFrame .service fun f => { f with valueRefused := true }, .value, []⟩ := by
  refine (if_pos (show s.prt.service.frame.unlock = true from unlocked)).trans ?_
  change (let x := s.writesCombustion.stage.stageWord a w; if x.status = .value then
    ({ x with state := x.state.onFrame .service fun f => { f with valueRefused := true } } : Written) else x) = _
  rw [refused]
  rfl

/-- The part with this staged copy. -/
def State.withStaged (s : State) (copy : Option CombustionTable) : State := { s with prt := { s.prt with staged := copy } }

theorem withStaged_keepsReply (s : State) (copy : Option CombustionTable) : KeepsReply p s (s.withStaged copy) :=
  .of_ports fun q => by cases q <;> rfl

/-- R166: the copy that a word stages is kept while the service port processes its frame. -/
def Prt.copyOf (x : Prt) (table : CombustionTable) : Option CombustionTable := if x.serviceState = .processing then some table else none

theorem stage_copyOf (x : Prt) (table : CombustionTable) :
    (if x.processing .service then some table else none) = x.copyOf table := by
  unfold Prt.copyOf Prt.processing
  by_cases processing : x.serviceState = .processing
  · rw [if_pos processing, if_pos (beq_iff_eq.2 processing)]
  · rw [if_neg processing, if_neg (mt beq_iff_eq.1 processing)]

theorem stage_eq (s : State) : s.stage = s.withStaged (s.prt.copyOf (s.prt.staged.getD s.sto.table)) :=
  congrArg s.withStaged (stage_copyOf _ _)

theorem stageWord_within {a : Nat} {lo hi : Int} (scalar : a < 0x13) (range : tableRanges[a]? = some (lo, hi))
    (within : lo ≤ (w.toNat : Int) ∧ (w.toNat : Int) ≤ hi) : s.stage.stageWord a w =
      ⟨s.withStaged (s.prt.copyOf ((s.prt.staged.getD s.sto.table).put a w.toNat)), .ok, []⟩ := by
  have limits : combustionRange a = some (lo, hi) := (if_pos scalar).trans range
  have inRange : Machine.within lo hi (unsigned w) = true :=
    Bool.and_eq_true_iff.2 ⟨decide_eq_true within.1, decide_eq_true within.2⟩
  have mapped : (s.prt.copyOf (s.prt.staged.getD s.sto.table)).map (fun t => t.put a (unsigned w))
      = s.prt.copyOf ((s.prt.staged.getD s.sto.table).put a w.toNat) := by
    unfold Prt.copyOf
    split <;> rfl
  rw [stage_eq, ← mapped]
  unfold State.stageWord
  rw [if_neg (by omega), limits]
  dsimp only
  rw [if_pos inRange]
  rfl

theorem stageWord_outside {a : Nat} {lo hi : Int} (scalar : a < 0x13) (range : tableRanges[a]? = some (lo, hi))
    (outside : ¬ (lo ≤ (w.toNat : Int) ∧ (w.toNat : Int) ≤ hi)) : s.stage.stageWord a w =
      ⟨s.withStaged (s.prt.copyOf (s.prt.staged.getD s.sto.table)), .value, []⟩ := by
  have limits : combustionRange a = some (lo, hi) := (if_pos scalar).trans range
  have notInRange : ¬ Machine.within lo hi (unsigned w) = true := fun h => by
    obtain ⟨low, high⟩ := Bool.and_eq_true_iff.1 h
    exact outside ⟨of_decide_eq_true low, of_decide_eq_true high⟩
  rw [← stage_eq]
  unfold State.stageWord
  rw [if_neg (by omega), limits]
  dsimp only
  rw [if_neg notInRange]
  rfl

theorem stageWord_restore : s.stage.stageWord 0x30 1 = ⟨s.withStaged (s.prt.copyOf s.sto.trim.factory), .ok, []⟩ := by
  have staged : s.stage.stageWord 0x30 1
      = ⟨s.withStaged (if s.prt.processing .service then some s.sto.trim.factory else none), .ok, []⟩ := rfl
  rw [staged, stage_copyOf]

theorem stageWord_noRestore (other : w ≠ 1) : s.stage.stageWord 0x30 w =
    ⟨s.withStaged (s.prt.copyOf (s.prt.staged.getD s.sto.table)), .value, []⟩ := by
  rw [← stage_eq]
  exact (if_pos rfl).trans (if_neg other)

/-- What a combustion command finds of the staging as it is opened. -/
theorem opened_combustion (a w : Word) (next : Nat) :
    let o := s.opened .service (wordWrite 3 a w) next
    o.prt.service.frame.unlock = s.prt.service.frame.unlock
      ∧ o.writesCombustion.prt.staged = s.prt.staged ∧ (∀ table, o.writesCombustion.prt.copyOf table = s.prt.copyOf table)
      ∧ o.writesCombustion.sto = s.sto ∧ Touches [.prt] o o.writesCombustion :=
  ⟨rfl, rfl, fun _ => rfl, rfl, setPort_touches _ .service _⟩

theorem inSpace_scalar (scalar : a.toNat < 0x13) : inSpace 3 a.toNat = true ∧ isInfo a.toNat = false := by
  constructor
  · unfold inSpace
    rw [decide_eq_true (show a.toNat < spaceSize 3 from scalar.trans (by decide)), Bool.true_or]
  · unfold isInfo
    rw [decide_eq_false (by omega : ¬ 0xFFF0 ≤ a.toNat), Bool.false_and]

/-- R166: a combustion word that is taken under unlock. -/
theorem portCommand_staged (takes : s.prt.service.frame.Takes) (inside : inSpace 3 a.toNat = true) (noInfo : isInfo a.toNat = false)
    (unlocked : s.prt.service.frame.unlock = true) {copy : Option CombustionTable}
    (staged : (s.opened .service (wordWrite 3 a w) a.toNat).writesCombustion.stage.stageWord a.toNat w
      = ⟨(s.opened .service (wordWrite 3 a w) a.toNat).writesCombustion.withStaged copy, .ok, []⟩) :
    let u := s.portCommand .service (wordWrite 3 a w)
    Touches [.prt] s u ∧ u.prt.staged = copy ∧ Answers .service 3 a.toNat .ok [] s u := by
  obtain ⟨unlock, -, -, -, touches⟩ := opened_combustion (s := s) a w a.toNat
  have written := (writeWord_combustion noInfo).trans (writeCombustion_taken (unlock.trans unlocked) staged)
  have answered := portCommand_answered (p := .service) takes (by decide) (by decide) (by decide) inside written rfl nofun
  rw [answered]
  refine ⟨wordAnswered_touches (touches.trans (touches_prt _ _)) (List.Subset.refl _), rfl, ?_⟩
  exact ((writesCombustion_keepsReply _).trans (withStaged_keepsReply _ _)).answersWord _ _

/-- R166, R167: a combustion word that is refused under unlock. -/
theorem portCommand_valueRefused (takes : s.prt.service.frame.Takes) (inside : inSpace 3 a.toNat = true)
    (noInfo : isInfo a.toNat = false) (unlocked : s.prt.service.frame.unlock = true) {copy : Option CombustionTable}
    (refused : (s.opened .service (wordWrite 3 a w) a.toNat).writesCombustion.stage.stageWord a.toNat w
      = ⟨(s.opened .service (wordWrite 3 a w) a.toNat).writesCombustion.withStaged copy, .value, []⟩) :
    let u := s.portCommand .service (wordWrite 3 a w)
    Touches [.prt] s u ∧ u.prt.staged = copy ∧ u.prt.service.frame.valueRefused = true
      ∧ Answers .service 3 a.toNat .value [] s u := by
  obtain ⟨unlock, -, -, -, touches⟩ := opened_combustion (s := s) a w a.toNat
  have written := (writeWord_combustion noInfo).trans (writeCombustion_value (unlock.trans unlocked) refused)
  have answered := portCommand_answered (p := .service) takes (by decide) (by decide) (by decide) inside written rfl nofun
  rw [answered]
  refine ⟨wordAnswered_touches ((touches.trans (touches_prt _ _)).trans (setPort_touches _ .service _)) (List.Subset.refl _), rfl,
    rfl, ?_⟩
  exact (((writesCombustion_keepsReply _).trans (withStaged_keepsReply _ _)).trans
    (onFrame_keepsReply (fun f => { f with valueRefused := true }) (fun _ => rfl) fun _ => rfl)).answersWord _ _

/-- R166, R167: a combustion word without unlock. -/
theorem portCommand_locked (takes : s.prt.service.frame.Takes) (inside : inSpace 3 a.toNat = true)
    (noInfo : isInfo a.toNat = false) (locked : s.prt.service.frame.unlock = false) :
    let u := s.portCommand .service (wordWrite 3 a w)
    Touches [.prt] s u ∧ u.prt.staged = s.prt.staged ∧ u.prt.service.frame.body = s.prt.service.frame.body ++ [6]
      ∧ u.prt.service.frame.noUnlock = true ∧ Counts .service .noUnlock s u := by
  obtain ⟨unlock, staged, -, -, touches⟩ := opened_combustion (s := s) a w a.toNat
  have written := (writeWord_combustion (w := w) noInfo).trans (writeCombustion_locked (unlock.trans locked))
  have answered : s.portCommand .service (wordWrite 3 a w) =
      (((s.opened .service (wordWrite 3 a w) a.toNat).writesCombustion.onCounters .service (·.tally .noUnlock)).onFrame .service
        fun f => { f with noUnlock := true }).reply .service [6] := by
    have addresses : walk 3 false [w].length ((s.onFrame .service fun f => f.take (wordWrite 3 a w)).startOf .service 3 (.address a))
        = ([a.toNat], a.toNat, false) := walk_one inside
    rw [portCommand_executes s .service _ takes rfl, execute_write _ .service (c := wordWrite 3 a w) rfl (by decide : (3 : BitVec 3) ≠ 7)
      (by decide : mayWrite .service 3 = true), runWrite_eq]
    change (let x := walk 3 false [w].length ((s.onFrame .service fun f => f.take (wordWrite 3 a w)).startOf .service 3 (.address a))
      let r := (s.opened .service (wordWrite 3 a w) x.2.1).writeAll .service 3 (x.1.zip [w])
      let status := if x.2.2 then Status.range else statusOf r.2.1
      ((r.1.onCounters .service fun k => k.count status).noteNoUnlock status).reply .service (status.code :: r.2.2)) = _
    rw [addresses]
    have all : (s.opened .service (wordWrite 3 a w) a.toNat).writeAll .service 3 ([a.toNat].zip [w])
        = ((s.opened .service (wordWrite 3 a w) a.toNat).writesCombustion, [.noUnlock], []) := by
      refine (writeAll_single _ _ (by decide) _ _).trans ?_
      rw [written]
      rfl
    dsimp only
    rw [all]
    rfl
  have opened := opened_touches s .service (wordWrite 3 a w) a.toNat
  rw [answered]
  refine ⟨(((opened.trans touches).trans (setPort_touches _ .service _)).trans (setPort_touches _ .service _)).trans
    (setPort_touches _ .service _), rfl, rfl, rfl, ?_⟩
  rfl

theorem exec_combustionWord (on : s.powered = true) : ∃ t, exec (.combustionWrite .service (.address a) false [w]) s = .next t
    ∧ Follows (s.portCommand .service (wordWrite 3 a w)) t :=
  exec_effect (c := .combustionWrite .service (.address a) false [w]) on rfl rfl

theorem exec_restoreFactory (on : s.powered = true) : ∃ t, exec (.restoreFactoryTable w) s = .next t
    ∧ Follows (s.portCommand .service (wordWrite 3 0x30 w)) t :=
  exec_effect (c := .restoreFactoryTable w) on rfl rfl

/-- Settles O58, space by space, from what each word's own meaning makes of its value. -/
theorem portWordsActByTheirValues : Obligations.PortWordsActByTheirValues := by
  refine ⟨fun s p k w on takes => counterCleared k on takes, fun s ch w on takes => offsetTaken ch on takes,
    fun s w on takes => unlockTaken on takes, fun s a w on takes scalar unlocked => ?staged,
    fun s w on takes unlocked => ?restored, fun s a w c on takes locked scalar event => ?locked,
    fun s p w on takes => softResetTaken on takes⟩
  case staged =>
    obtain ⟨inside, noInfo⟩ := inSpace_scalar scalar
    obtain ⟨t, run, follows⟩ := exec_combustionWord (a := a) (w := w) on
    obtain ⟨range, isRange⟩ : ∃ r, tableRanges[a.toNat]? = some r := ⟨_, List.getElem?_eq_getElem scalar⟩
    obtain ⟨lo, hi⟩ := range
    by_cases within : lo ≤ (w.toNat : Int) ∧ (w.toNat : Int) ≤ hi
    · obtain ⟨touches, copy, answers⟩ := portCommand_staged takes inside noInfo unlocked (stageWord_within scalar isRange within)
      refine ⟨_, t, run, follows, touches, fun lo' hi' same => ?_⟩
      obtain ⟨rfl, rfl⟩ := Prod.mk.inj (Option.some.inj (isRange.symm.trans same))
      exact ⟨fun _ _ => ⟨copy, answers⟩, fun outside => by omega⟩
    · obtain ⟨touches, copy, value, answers⟩ :=
        portCommand_valueRefused takes inside noInfo unlocked (stageWord_outside scalar isRange within)
      refine ⟨_, t, run, follows, touches, fun lo' hi' same => ?_⟩
      obtain ⟨rfl, rfl⟩ := Prod.mk.inj (Option.some.inj (isRange.symm.trans same))
      exact ⟨fun low high => absurd ⟨low, high⟩ within, fun _ => ⟨copy, value, answers⟩⟩
  case restored =>
    obtain ⟨t, run, follows⟩ := exec_restoreFactory (w := w) on
    by_cases one : w = 1
    · subst one
      obtain ⟨touches, copy, answers⟩ := portCommand_staged (a := 0x30) takes (by decide) (by decide) unlocked stageWord_restore
      exact ⟨_, t, run, follows, touches, fun _ => ⟨copy, answers⟩, (absurd rfl ·)⟩
    · obtain ⟨touches, -, -, answers⟩ := portCommand_valueRefused (a := 0x30) takes (by decide) (by decide) unlocked
        (stageWord_noRestore one)
      exact ⟨_, t, run, follows, touches, (absurd · one), fun _ => answers⟩
  case locked =>
    rcases event with rfl | rfl
    · obtain ⟨inside, noInfo⟩ := inSpace_scalar scalar
      obtain ⟨t, run, follows⟩ := exec_combustionWord (a := a) (w := w) on
      exact ⟨_, t, run, follows, portCommand_locked takes inside noInfo locked⟩
    · obtain ⟨t, run, follows⟩ := exec_restoreFactory (w := w) on
      exact ⟨_, t, run, follows, portCommand_locked (a := 0x30) takes (by decide) (by decide) locked⟩

end Sys2Proof.Machine

/-! SUPPORT. The history ring: its searches, and writes to several of its slots (R131 to R134). -/

namespace Sys2Proof.Machine

variable {s t u v : State}

/-! ### Searches (R131, R132) -/

/-- What a search finds is a record of the ring that it looks for. -/
theorem bestSlot_mem {better : Nat → Nat → Bool} {q : HistoryRecord → Bool} {l : List HistorySlot} {base i : Nat}
    {r : HistoryRecord} (found : bestSlot better q l base = some (i, r)) :
    base ≤ i ∧ ∃ x, l[i - base]? = some x ∧ x.record = some r ∧ q r = true := by
  induction l generalizing base with
  | nil => exact nomatch found
  | cons x rest ih =>
    have later (h : bestSlot better q rest (base + 1) = some (i, r)) :
        base ≤ i ∧ ∃ y, (x :: rest)[i - base]? = some y ∧ y.record = some r ∧ q r = true := by
      obtain ⟨low, y, held, record, fits⟩ := ih h
      refine ⟨by omega, y, ?_, record, fits⟩
      rw [show i - base = (i - (base + 1)) + 1 by omega, List.getElem?_cons_succ]
      exact held
    have here {r' : HistoryRecord} (record : x.record = some r') (fits : q r' = true) (same : (base, r') = (i, r)) :
        base ≤ i ∧ ∃ y, (x :: rest)[i - base]? = some y ∧ y.record = some r ∧ q r = true := by
      obtain ⟨rfl, rfl⟩ := Prod.mk.inj same
      exact ⟨Nat.le_refl _, x, by rw [Nat.sub_self, List.getElem?_cons_zero], record, fits⟩
    unfold bestSlot at found
    split at found
    · exact later found
    · next r' record _ =>
      split at found
      · next fits => exact here record fits (Option.some.inj found)
      · exact nomatch found
    · next r' b record rest' =>
      split at found
      · next fits =>
        exact here record (Bool.and_eq_true_iff.1 fits).1 (Option.some.inj found)
      · exact later (rest'.trans found)

theorem newestSlot_mem {q : HistoryRecord → Bool} {ring : List HistorySlot} {i : Nat} {r : HistoryRecord}
    (found : newestSlot q ring = some (i, r)) : ∃ x, ring[i]? = some x ∧ x.record = some r ∧ q r = true :=
  (bestSlot_mem found).2

/-- R132: a record with a number below every other one is the oldest. -/
theorem bestSlot_least {l : List HistorySlot} {base i : Nat} {x : HistorySlot} {r : HistoryRecord} (held : l[i]? = some x)
    (record : x.record = some r)
    (least : ∀ j y q, l[j]? = some y → y.record = some q → j ≠ i → r.number < q.number) :
    bestSlot (fun a b => a < b) (fun _ => true) l base = some (base + i, r) := by
  induction l generalizing base i with
  | nil => exact nomatch held
  | cons y rest ih =>
    unfold bestSlot
    cases i with
    | zero =>
      obtain rfl : y = x := Option.some.inj held
      rw [record]
      cases found : bestSlot (fun a b => decide (a < b)) (fun _ => true) rest (base + 1) with
      | none => rfl
      | some b =>
        obtain ⟨j, q⟩ := b
        obtain ⟨low, z, there, other, -⟩ := bestSlot_mem found
        have below := least (j - (base + 1) + 1) z q there other (Nat.succ_ne_zero _)
        dsimp only
        rw [decide_eq_true below]
        rfl
    | succ i =>
      have rest' := ih (base := base + 1) held fun j z q there other different =>
        least (j + 1) z q there other (fun e => different (Nat.succ.inj e))
      rw [show base + (i + 1) = base + 1 + i by omega, rest']
      cases y' : y.record with
      | none => rfl
      | some q =>
        have above := least 0 y q rfl y' (Nat.succ_ne_zero i).symm
        dsimp only
        rw [decide_eq_false (by omega)]
        rfl

/-- R131: the first empty slot is empty. -/
theorem emptySlot_mem {l : List HistorySlot} {base i : Nat} (found : emptySlot l base = some i) :
    base ≤ i ∧ ∃ x, l[i - base]? = some x ∧ x.record = none := by
  induction l generalizing base with
  | nil => exact nomatch found
  | cons x rest ih =>
    unfold emptySlot at found
    split at found
    · next empty =>
      obtain rfl := Option.some.inj found
      exact ⟨Nat.le_refl _, x, by rw [Nat.sub_self, List.getElem?_cons_zero], Option.isNone_iff_eq_none.1 empty⟩
    · obtain ⟨low, y, held, empty⟩ := ih found
      refine ⟨by omega, y, ?_, empty⟩
      rw [show i - base = (i - (base + 1)) + 1 by omega, List.getElem?_cons_succ]
      exact held

/-- R131: a full ring has no empty slot, and only a full one. -/
theorem emptySlot_none {l : List HistorySlot} {base : Nat} :
    emptySlot l base = none ↔ ∀ x ∈ l, x.record.isSome = true := by
  induction l generalizing base with
  | nil => exact ⟨fun _ _ m => absurd m List.not_mem_nil, fun _ => rfl⟩
  | cons x rest ih =>
    unfold emptySlot
    rw [List.forall_mem_cons]
    split
    · next empty =>
      exact ⟨nofun, fun h => by rw [Option.isNone_iff_eq_none.1 empty] at h; exact nomatch h.1⟩
    · next full => rw [ih]; exact ⟨fun h => ⟨Option.ne_none_iff_isSome.1 fun e => full (by rw [e]; rfl), h⟩, fun h => h.2⟩

theorem slotForNew_empty {ring : List HistorySlot} {i : Nat} (empty : emptySlot ring 0 = some i) : slotForNew ring = i := by
  unfold slotForNew
  rw [empty]

/-- R131: in a full ring a new record takes the slot of the oldest. -/
theorem slotForNew_full {ring : List HistorySlot} {i : Nat} {r : HistoryRecord} (full : emptySlot ring 0 = none)
    (oldest : oldestSlot ring = some (i, r)) : slotForNew ring = i := by
  unfold slotForNew
  rw [full, oldest]

/-! ### The slots whose records are picked (R134, R136) -/

/-- The slots of the records that satisfy `q`, with their records. -/
def pickSlots (q : HistoryRecord → Bool) (ring : List HistorySlot) : List (Nat × HistoryRecord) :=
  ring.zipIdx.filterMap fun x =>
    match x.1.record with
    | some r => if q r then some (x.2, r) else none
    | none => none

theorem openDuringLockout_eq (ring : List HistorySlot) :
    openDuringLockout ring = pickSlots (fun r => r.duringLockout && r.clearedStamp.isNone) ring := rfl

theorem leftOpenSlots_eq (ring : List HistorySlot) : leftOpenSlots ring = pickSlots HistoryRecord.leftOpen ring := rfl

theorem mem_pickSlots {q : HistoryRecord → Bool} {ring : List HistorySlot} {i : Nat} {r : HistoryRecord} :
    (i, r) ∈ pickSlots q ring ↔ ∃ x, ring[i]? = some x ∧ x.record = some r ∧ q r = true := by
  unfold pickSlots
  rw [List.mem_filterMap]
  constructor
  · rintro ⟨⟨x, j⟩, held, picked⟩
    rw [List.mem_zipIdx_iff_getElem?] at held
    dsimp only at held picked
    split at picked
    · next r' record =>
      split at picked
      · next fits =>
        obtain ⟨rfl, rfl⟩ := Prod.mk.inj (Option.some.inj picked)
        exact ⟨x, held, record, fits⟩
      · exact nomatch picked
    · exact nomatch picked
  · rintro ⟨x, held, record, fits⟩
    refine ⟨(x, i), List.mem_zipIdx_iff_getElem?.2 held, ?_⟩
    dsimp only
    rw [record]
    exact if_pos fits

/-- A slot holds one record. -/
theorem pickSlots_one {q : HistoryRecord → Bool} {ring : List HistorySlot} {x y : Nat × HistoryRecord}
    (first : x ∈ pickSlots q ring) (second : y ∈ pickSlots q ring) (same : x.1 = y.1) : x = y := by
  obtain ⟨i, r⟩ := x
  obtain ⟨j, r'⟩ := y
  obtain rfl : i = j := same
  obtain ⟨x, held, record, -⟩ := mem_pickSlots.1 first
  obtain ⟨y, held', record', -⟩ := mem_pickSlots.1 second
  obtain rfl := Option.some.inj (held.symm.trans held')
  rw [Option.some.inj (record.symm.trans record')]

/-! ### Writes to several slots -/

/-- Each slot of a list is given the contents that `put` makes of its record. -/
def State.putAll (s : State) (put : HistoryRecord → HistorySlot) (l : List (Nat × HistoryRecord)) : State :=
  l.foldl (fun s x => s.putSlot x.1 (put x.2)) s

theorem putAll_cons (s : State) (put : HistoryRecord → HistorySlot) (x : Nat × HistoryRecord) (rest : List (Nat × HistoryRecord)) :
    s.putAll put (x :: rest) = (s.putSlot x.1 (put x.2)).putAll put rest := rfl

theorem putAll_dirty (put : HistoryRecord → HistorySlot) (l : List (Nat × HistoryRecord)) (s : State) :
    s.sto.dirty ⊆ (s.putAll put l).sto.dirty := by
  induction l generalizing s with
  | nil => exact List.Subset.refl _
  | cons x rest ih =>
    rw [putAll_cons]
    exact List.Subset.trans (subset_markItem _ _) (ih (s.putSlot x.1 (put x.2)))

theorem putAll_length (put : HistoryRecord → HistorySlot) (l : List (Nat × HistoryRecord)) (s : State) :
    (s.putAll put l).flt.ring.length = s.flt.ring.length := by
  induction l generalizing s with
  | nil => rfl
  | cons x rest ih =>
    rw [putAll_cons]
    exact (ih (s.putSlot x.1 (put x.2))).trans List.length_set

/-- Slots that are named once each are written as they are named, and no other slot changes. -/
theorem putAll_ring (put : HistoryRecord → HistorySlot) (l : List (Nat × HistoryRecord)) (s : State)
    (one : ∀ x ∈ l, ∀ y ∈ l, x.1 = y.1 → x = y) (bound : ∀ x ∈ l, x.1 < s.flt.ring.length) :
    (∀ x ∈ l, (s.putAll put l).flt.ring[x.1]? = some (put x.2) ∧ StoreItem.slot x.1 ∈ (s.putAll put l).sto.dirty)
      ∧ ∀ i, (∀ x ∈ l, x.1 ≠ i) → (s.putAll put l).flt.ring[i]? = s.flt.ring[i]? := by
  induction l generalizing s with
  | nil => exact ⟨fun _ m => absurd m List.not_mem_nil, fun _ _ => rfl⟩
  | cons x rest ih =>
    have inside : x.1 < s.flt.ring.length := bound x List.mem_cons_self
    obtain ⟨named, other⟩ := ih (s.putSlot x.1 (put x.2))
      (fun y m z m' => one y (List.mem_cons_of_mem _ m) z (List.mem_cons_of_mem _ m'))
      (fun y m => (bound y (List.mem_cons_of_mem _ m)).trans_eq List.length_set.symm)
    rw [putAll_cons]
    refine ⟨fun y m => ?_, fun i none => ?_⟩
    · by_cases again : ∃ z ∈ rest, z.1 = y.1
      · obtain ⟨z, m', same⟩ := again
        obtain rfl := one z (List.mem_cons_of_mem _ m') y m same
        exact named z m'
      · obtain rfl : y = x := (List.mem_cons.1 m).resolve_right fun m' => again ⟨y, m', rfl⟩
        refine ⟨(other y.1 fun z m' same => again ⟨z, m', same⟩).trans ?_, putAll_dirty put rest _ (mem_markItem _ _)⟩
        exact List.getElem?_set_self inside
    · rw [List.forall_mem_cons] at none
      exact (other i none.2).trans (List.getElem?_set_ne none.1)

/-- R134: what each of the open records is given. -/
theorem stampAll_eq (l : List (Nat × HistoryRecord)) (s : State) : l.foldl (fun s x => s.stampSlot x) s
    = s.putAll (fun r => ⟨some { r with clearedStamp := some s.minute }, some s.seconds⟩) l := by
  have go (v : State) (minute : v.minute = s.minute) (seconds : v.seconds = s.seconds) : l.foldl (fun s x => s.stampSlot x) v
      = v.putAll (fun r => ⟨some { r with clearedStamp := some s.minute }, some s.seconds⟩) l := by
    induction l generalizing v with
    | nil => rfl
    | cons x rest ih =>
      have first : v.stampSlot x = v.putSlot x.1 ⟨some { x.2 with clearedStamp := some s.minute }, some s.seconds⟩ := by
        unfold State.stampSlot
        rw [minute, seconds]
      rw [List.foldl_cons, putAll_cons, first]
      exact ih _ minute seconds
  exact go s rfl rfl

/-- R136: what each record that the reset left open is given. -/
theorem closeAll_eq (l : List (Nat × HistoryRecord)) (s : State) : l.foldl State.closeSlot s
    = s.putAll (fun r => ⟨some { r with clearedStamp := some s.minute }, none⟩) l := by
  have go (v : State) (minute : v.minute = s.minute) : l.foldl State.closeSlot v
      = v.putAll (fun r => ⟨some { r with clearedStamp := some s.minute }, none⟩) l := by
    induction l generalizing v with
    | nil => rfl
    | cons x rest ih =>
      have first : v.closeSlot x = v.putSlot x.1 ⟨some { x.2 with clearedStamp := some s.minute }, none⟩ := by
        unfold State.closeSlot
        rw [minute]
      rw [List.foldl_cons, putAll_cons, first]
      exact ih _ minute
  exact go s rfl

/-- The picked slots of the ring are written as `put` says, and no other slot changes. -/
theorem putPicked_ring (put : HistoryRecord → HistorySlot) (q : HistoryRecord → Bool) {i : Nat} {x : HistorySlot}
    {r : HistoryRecord} (held : s.flt.ring[i]? = some x) (record : x.record = some r) :
    (q r = true → (s.putAll put (pickSlots q s.flt.ring)).flt.ring[i]? = some (put r)
        ∧ StoreItem.slot i ∈ (s.putAll put (pickSlots q s.flt.ring)).sto.dirty)
      ∧ (q r = false → (s.putAll put (pickSlots q s.flt.ring)).flt.ring[i]? = some x) := by
  obtain ⟨named, other⟩ := putAll_ring put (pickSlots q s.flt.ring) s (fun _ m _ m' => pickSlots_one m m')
    (fun y m => by
      obtain ⟨x, held, -⟩ := mem_pickSlots.1 m
      exact (List.getElem?_eq_some_iff.1 held).1)
  refine ⟨fun fits => named (i, r) (mem_pickSlots.2 ⟨x, held, record, fits⟩), fun fails => (other i fun y m same => ?_).trans held⟩
  obtain ⟨z, held', record', fits⟩ := mem_pickSlots.1 m
  rw [same, held] at held'
  obtain rfl := Option.some.inj held'
  rw [Option.some.inj (record.symm.trans record'), fits] at fails
  exact nomatch fails

end Sys2Proof.Machine

/-! SUPPORT. Lockout reset requests and the history clear (R127 to R135, R165). -/

namespace Sys2Proof.Machine

variable {c : Instr} {s t u v : State} {p : Port} {w : Word}

/-! ### The cleared stamps of an accepted reset (R134) -/

/-- R134: a record with its cleared stamp, and the second of the clear. -/
def State.stamped (s : State) (r : HistoryRecord) : HistorySlot := ⟨some { r with clearedStamp := some s.minute }, some s.seconds⟩

/-- R134: the records that an accepted reset gives their cleared stamps. -/
def ResetStamps (cause : FaultKey) (ring : List HistorySlot) (i : Nat) (r : HistoryRecord) : Prop :=
  r.clearedStamp = none ∧ (r.duringLockout = true
    ∨ newestSlot (fun q => q.raises cause && q.clearedStamp.isNone) ring = some (i, r))

theorem putAll_flt (put : HistoryRecord → HistorySlot) (l : List (Nat × HistoryRecord)) (s : State) :
    (s.putAll put l).flt = { s.flt with ring := (s.putAll put l).flt.ring } ∧ (s.putAll put l).minute = s.minute
      ∧ (s.putAll put l).seconds = s.seconds := by
  induction l generalizing s with
  | nil => exact ⟨rfl, rfl, rfl⟩
  | cons x rest ih =>
    rw [putAll_cons]
    obtain ⟨flt, minute, seconds⟩ := ih (s.putSlot x.1 (put x.2))
    exact ⟨flt, minute, seconds⟩

theorem fillCleared_built {k : FaultKey} (built : s.flt.ringBuilt = true) : s.fillCleared k =
    s.putAll s.stamped (newestSlot (fun r => r.raises k && r.clearedStamp.isNone) s.flt.ring).toList := by
  unfold State.fillCleared
  rw [if_pos built]
  split
  · next x found => rw [found]; rfl
  · next none => rw [none]; rfl

theorem fillDuringLockout_eq (s : State) : s.fillDuringLockout =
    s.putAll s.stamped (pickSlots (fun r => r.duringLockout && r.clearedStamp.isNone) s.flt.ring) := stampAll_eq _ s

/-- R134: which records of a built ring are given their cleared stamps by an accepted reset. -/
theorem resetStamps_ring {cause : FaultKey} (built : s.flt.ringBuilt = true) {i : Nat} {x : HistorySlot} {r : HistoryRecord}
    (held : s.flt.ring[i]? = some x) (record : x.record = some r) :
    (ResetStamps cause s.flt.ring i r → (s.fillCleared cause).fillDuringLockout.flt.ring[i]? = some (s.stamped r)
        ∧ StoreItem.slot i ∈ (s.fillCleared cause).fillDuringLockout.sto.dirty)
      ∧ (¬ ResetStamps cause s.flt.ring i r → (s.fillCleared cause).fillDuringLockout.flt.ring[i]? = some x) := by
  rw [fillDuringLockout_eq]
  have first := fillCleared_built (k := cause) built
  obtain ⟨-, minute, seconds⟩ := putAll_flt s.stamped (newestSlot (fun r => r.raises cause && r.clearedStamp.isNone) s.flt.ring).toList s
  rw [← first] at minute seconds
  have same : (s.fillCleared cause).stamped = s.stamped := by
    unfold State.stamped
    rw [minute, seconds]
  rw [same]
  obtain ⟨named, other⟩ := putAll_ring s.stamped
    (newestSlot (fun r => r.raises cause && r.clearedStamp.isNone) s.flt.ring).toList s
    (fun y m z m' _ => Option.some.inj ((Option.mem_toList.1 m).symm.trans (Option.mem_toList.1 m')))
    (fun y m => by
      obtain ⟨z, held, -⟩ := newestSlot_mem (i := y.1) (r := y.2) (Option.mem_toList.1 m)
      exact (List.getElem?_eq_some_iff.1 held).1)
  rw [← first] at named other
  by_cases newest : newestSlot (fun q => q.raises cause && q.clearedStamp.isNone) s.flt.ring = some (i, r)
  · obtain ⟨stamp, dirty⟩ := named (i, r) (Option.mem_toList.2 newest)
    obtain ⟨-, -, -, fits⟩ := newestSlot_mem newest
    have isOpen : r.clearedStamp = none := Option.isNone_iff_eq_none.1 (Bool.and_eq_true_iff.1 fits).2
    obtain ⟨-, stays⟩ := putPicked_ring s.stamped (fun r => r.duringLockout && r.clearedStamp.isNone) stamp rfl
    exact ⟨fun _ => ⟨stays (Bool.and_false _), putAll_dirty _ _ _ dirty⟩, fun no => absurd ⟨isOpen, .inr newest⟩ no⟩
  · have still : (s.fillCleared cause).flt.ring[i]? = some x := by
      refine (other i fun y m own => newest ?_).trans held
      obtain ⟨z, held', record', -⟩ := newestSlot_mem (i := y.1) (r := y.2) (Option.mem_toList.1 m)
      rw [own, held] at held'
      obtain rfl := Option.some.inj held'
      rw [Option.mem_toList.1 m, ← own, Option.some.inj (record.symm.trans record')]
    obtain ⟨stamps, stays⟩ := putPicked_ring s.stamped (fun r => r.duringLockout && r.clearedStamp.isNone) still record
    refine ⟨fun stamped => ?_, fun no => ?_⟩
    · obtain ⟨isOpen, during | isNewest⟩ := stamped
      · exact stamps (by rw [during, isOpen]; rfl)
      · exact absurd isNewest newest
    · refine stays (Bool.eq_false_iff.2 fun fits => no ?_)
      obtain ⟨during, isOpen⟩ := Bool.and_eq_true_iff.1 fits
      exact ⟨Option.isNone_iff_eq_none.1 isOpen, .inl during⟩

/-- R129, R131: the part as an accepted reset has made its record, before the cleared stamps. -/
def State.resetMade (s : State) (cause : FaultKey) (src : ResetSource) : State :=
  (({ s with flt := { s.flt.countReset with lockout := none } } : State).markDirty .lockout).createRecord
    (s.resetRecord cause src)

theorem resetHistory_eq (s : State) (cause : FaultKey) (src : ResetSource) :
    s.resetHistory cause src = ((s.resetMade cause src).fillCleared cause).fillDuringLockout := rfl

/-- R131: the RESET record with its number. -/
def State.resetEntry (s : State) (cause : FaultKey) (src : ResetSource) : HistorySlot :=
  ⟨some { s.resetRecord cause src with number := nextNumber s.flt.lastCreation }, none⟩

theorem resetMade_flt (s : State) (cause : FaultKey) (src : ResetSource) :
    (s.resetMade cause src).flt.ring = s.flt.ring.set (slotForNew s.flt.ring) (s.resetEntry cause src)
      ∧ (s.resetMade cause src).flt.lastCreation = nextNumber s.flt.lastCreation
      ∧ (s.resetMade cause src).flt.ringBuilt = s.flt.ringBuilt ∧ (s.resetMade cause src).stamped = s.stamped
      ∧ StoreItem.slot (slotForNew s.flt.ring) ∈ (s.resetMade cause src).sto.dirty
      ∧ StoreItem.lockout ∈ (s.resetMade cause src).sto.dirty :=
  ⟨rfl, rfl, rfl, rfl, mem_markItem _ _, subset_markItem _ _ (mem_markItem _ _)⟩

theorem fillDuringLockout_dirty (s : State) : s.sto.dirty ⊆ s.fillDuringLockout.sto.dirty := by
  rw [fillDuringLockout_eq]
  exact putAll_dirty _ _ _

theorem resetHistory_dirty (s : State) (cause : FaultKey) (src : ResetSource) :
    (s.resetMade cause src).sto.dirty ⊆ (s.resetHistory cause src).sto.dirty :=
  List.Subset.trans (fillCleared_dirty _ _) (fillDuringLockout_dirty _)

theorem resetHistory_lastCreation (s : State) (cause : FaultKey) (src : ResetSource) (built : s.flt.ringBuilt = true) :
    (s.resetHistory cause src).flt.lastCreation = nextNumber s.flt.lastCreation := by
  obtain ⟨-, number, same, -⟩ := resetMade_flt s cause src
  rw [resetHistory_eq, fillDuringLockout_eq, (putAll_flt _ _ _).1, fillCleared_built (same.trans built)]
  dsimp only
  rw [(putAll_flt _ _ _).1]
  exact number

/-! ### A reset request of a port (R127, R165) -/

/-- The part as its reset request word finds it. -/
def State.resetOpened (s : State) (p : Port) (w : Word) : State := s.opened p (wordWrite 4 0x30 w) 0x30

theorem resetOpened_frame (s : State) (p : Port) (w : Word) : Touches [.prt] s (s.resetOpened p w)
    ∧ (s.resetOpened p w).prt.notices = s.prt.notices := by
  refine ⟨opened_touches _ _ _ _, ?_⟩
  unfold State.resetOpened
  rw [opened_prt]

/-- R165: a reset request word is judged, the event's consequences follow, and the outcome is its answer. -/
theorem exec_resetRequestWord (on : s.powered = true) (takes : (s.prt.portRecord p).frame.Takes) :
    ∃ t, exec (.resetRequestWord p w) s = .next t
      ∧ Follows (((s.resetOpened p w).requestReset (portSource p)).1.settle.wordAnswered p .ok
          [((s.resetOpened p w).requestReset (portSource p)).2.code]) t := by
  have right : mayWrite p 4 = true := by cases p <;> decide
  have written : (s.resetOpened p w).writeWord p 4 none (0x30, w)
      = ⟨((s.resetOpened p w).requestReset (portSource p)).1.settle, .ok,
          [((s.resetOpened p w).requestReset (portSource p)).2.code]⟩ := rfl
  exact exec_effect (c := .resetRequestWord p w) on rfl
    (portCommand_answered (space := 4) (a := 0x30) takes (by decide) (by decide) right (by decide) written rfl nofun)

/-- What the answer to a reset request leaves of what the request has done. -/
structure ResetAnswered (p : Port) (outcome : ResetOutcome) (s x t : State) : Prop where
  flt : t.flt = { x.flt with alarmActive := t.flt.alarmActive, alarmHigh := t.flt.alarmHigh }
  notices : t.prt.notices = x.prt.notices
  body : (t.prt.portRecord p).frame.body = (s.prt.portRecord p).frame.body ++ [0, outcome.code]
  failures : t.bsq.provingFailures = x.bsq.provingFailures
  plain : x.bsq.state ≠ .startCheck → x.bsq.state ≠ .lockout → t.bsq.state ≠ .startCheck ∧ t.bsq.state ≠ .lockout
  alarm : AlarmLaw t
  marked : ∀ i, Marked i x → Marked i t

/-- A reset request leaves the ports' records. -/
theorem requestReset_portRecord (s : State) (src : ResetSource) (q : Port) :
    (s.requestReset src).1.prt.portRecord q = s.prt.portRecord q := by
  have posted (x : Prt) (n : Notice) : (x.post n).portRecord q = x.portRecord q := by
    rw [Prt.post_frame]
    cases q <;> rfl
  unfold State.requestReset
  split
  · next l _ _ =>
    dsimp only
    rw [(acceptReset_accepted s _ src).prt, posted, posted]
  · have key := enterKey_enters (s.post (.reset .limit src)) .a12
    dsimp only
    rw [key.notice]
    split
    · exact posted _ _
    · exact (posted _ _).trans (posted _ _)
  · exact posted _ _

theorem reset_answered {x : State} {outcome : ResetOutcome} (request : (s.resetOpened p w).requestReset (portSource p) = (x, outcome))
    (follows : Follows (((s.resetOpened p w).requestReset (portSource p)).1.settle.wordAnswered p .ok
      [((s.resetOpened p w).requestReset (portSource p)).2.code]) t) : ResetAnswered p outcome s x t := by
  have ports (q : Port) : x.prt.portRecord q = (s.resetOpened p w).prt.portRecord q := by
    have kept := requestReset_portRecord (s.resetOpened p w) (portSource p) q
    rwa [request] at kept
  rw [request] at follows
  dsimp only at follows
  have planned : Follows x x.settle := settle_follows x
  have marks := keepsMarks_stageKept.settle x
  generalize x.settle = v at follows planned marks
  have kept : KeepsReply p (s.opened p (wordWrite 4 0x30 w) 0x30) v :=
    .of_ports fun q => (planned.ends.portRecord q).trans (ports q)
  obtain ⟨touches, prt⟩ := wordAnswered_frame v p .ok [outcome.code]
  have answers := (kept.answersWord .ok [outcome.code]).ends follows.ends
  generalize v.wordAnswered p .ok [outcome.code] = u at follows touches prt
  constructor
  case flt =>
    have before : u.flt = v.flt := touches.flt (by decide)
    rw [follows.ends.flt, before, planned.ends.flt]
  case notices =>
    rw [follows.ends.prt]
    dsimp only
    rw [prt]
    dsimp only
    rw [planned.ends.prt]
  case body => exact answers.body
  case failures =>
    have before : u.bsq = v.bsq := touches.bsq (by decide)
    rw [follows.ends.bsq.1, before, planned.ends.bsq.1]
  case plain =>
    intro notStart notLockout
    have before : u.bsq = v.bsq := touches.bsq (by decide)
    exact ⟨follows.notStart (by rw [before]; exact planned.notStart notStart),
      follows.notLockout (by rw [before]; exact planned.notLockout notLockout)⟩
  case alarm => exact follows.settled ▸ settle_alarm u
  case marked =>
    intro i marked
    have before : u.sto = v.sto := touches.sto (by decide)
    refine follows.marked ?_
    unfold Marked
    rw [before]
    exact marks.marked i marked

/-- R127, R129, R131, R134: an accepted reset request of a port. -/
theorem resetRequest_accepted {l : Lockout} (on : s.powered = true) (takes : (s.prt.portRecord p).frame.Takes)
    (held : s.flt.lockout = some l) (state : s.bsq.state ≠ .startCheck) (below : s.flt.resetCounter < 5)
    (clear : s.flt.conditions = ⟨false, false, false, false, false⟩) :
    ∃ t, exec (.resetRequestWord p w) s = .next t ∧ t.flt.lockout = none ∧ t.flt.resetCounter = s.flt.resetCounter + 1
      ∧ t.flt.decay = (if s.flt.resetCounter = 0 then some 180000 else s.flt.decay) ∧ t.bsq.provingFailures = 0
      ∧ t.bsq.state ≠ .lockout ∧ t.flt.alarmActive = false
      ∧ t.flt.active = dropKey s.flt.active l.cause ∧ Marked .lockout t
      ∧ (t.prt.portRecord p).frame.body = (s.prt.portRecord p).frame.body ++ [0, 0]
      ∧ (s.prt.notices.length ≤ 14 → t.prt.notices
          = s.prt.notices ++ [.reset .accepted (portSource p), .cleared l.cause])
      ∧ (s.flt.ringBuilt = true → s.flt.lastCreation < 4294967295 →
          let ring := s.flt.ring.set (slotForNew s.flt.ring) (s.resetEntry l.cause (portSource p))
          t.flt.lastCreation = s.flt.lastCreation + 1 ∧ Marked (.slot (slotForNew s.flt.ring)) t
            ∧ ∀ i x r, ring[i]? = some x → x.record = some r →
                (ResetStamps l.cause ring i r → t.flt.ring[i]? = some (s.stamped r) ∧ Marked (.slot i) t)
                ∧ (¬ ResetStamps l.cause ring i r → t.flt.ring[i]? = some x)) := by
  obtain ⟨t, run, follows⟩ := exec_resetRequestWord (w := w) on takes
  obtain ⟨touches, notices⟩ := resetOpened_frame s p w
  have flt : (s.resetOpened p w).flt = s.flt := touches.flt (by decide)
  have bsq : (s.resetOpened p w).bsq = s.bsq := touches.bsq (by decide)
  have stamps : (s.resetOpened p w).stamped = s.stamped := rfl
  have entry : (s.resetOpened p w).resetEntry l.cause (portSource p) = s.resetEntry l.cause (portSource p) := rfl
  have request := requestReset_accepted (s := s.resetOpened p w) (portSource p) (by rw [flt]; exact held) (by rw [bsq]; exact state)
    (by rw [flt]; exact below) (by rw [flt, clear]; rfl)
  have answered := reset_answered request follows
  have accepted := acceptReset_accepted (s.resetOpened p w) l.cause (portSource p)
  have made := resetMade_flt (s.resetOpened p w) l.cause (portSource p)
  have grows := resetHistory_dirty (s.resetOpened p w) l.cause (portSource p)
  have number := resetHistory_lastCreation (s.resetOpened p w) l.cause (portSource p)
  have history := resetHistory_eq (s.resetOpened p w) l.cause (portSource p)
  clear follows request
  generalize (s.resetOpened p w).acceptReset l.cause (portSource p) = x at answered accepted
  rw [flt, entry, stamps] at made
  obtain ⟨ring, -, built, sameStamps, newDirty, lockoutDirty⟩ := made
  obtain ⟨notStart, notLockout⟩ := answered.plain (by rw [accepted.state]; exact nofun) (by rw [accepted.state]; exact nofun)
  have dirty (i : StoreItem) (h : i ∈ (State.resetHistory (s.resetOpened p w) l.cause (portSource p)).sto.dirty) : Marked i t :=
    answered.marked i (.inl (by rw [accepted.dirty]; exact h))
  have unlocked : t.flt.lockout = none := by rw [answered.flt]; exact accepted.unlocked
  have counter : t.flt.resetCounter = s.flt.resetCounter + 1 := by rw [answered.flt, ← flt]; exact accepted.counter
  have decay : t.flt.decay = (if s.flt.resetCounter = 0 then some 180000 else s.flt.decay) := by
    rw [answered.flt, ← flt]; exact accepted.decay
  have active : t.flt.active = dropKey s.flt.active l.cause := by rw [answered.flt, ← flt]; exact accepted.active
  have failures : t.bsq.provingFailures = 0 := answered.failures.trans accepted.failures
  refine ⟨t, run, unlocked, counter, decay, failures, notLockout, ?_, active, dirty _ (grows lockoutDirty), answered.body,
    fun few => ?_, fun isBuilt low => ⟨?_, dirty _ (grows newDirty), fun i y r held record => ?_⟩⟩
  · refine Bool.eq_false_iff.2 fun alarm => ?_
    rcases answered.alarm.alarm.1 alarm with locked | start
    · rw [State.locked, unlocked] at locked; exact nomatch locked
    · exact notStart start
  · rw [answered.notices, accepted.prt, post_room, post_room, notices, List.append_assoc]
    · rfl
    · rw [notices]; omega
    · rw [post_room _ _ (by rw [notices]; omega), List.length_append, notices, List.length_singleton]
      omega
  · have last : t.flt.lastCreation = nextNumber s.flt.lastCreation := by
      rw [answered.flt]
      dsimp only
      rw [accepted.lastCreation, number (by rw [flt]; exact isBuilt), flt]
    exact last.trans (Nat.min_eq_right (by omega))
  · have same : t.flt.ring = (State.resetHistory (s.resetOpened p w) l.cause (portSource p)).flt.ring := by
      rw [answered.flt]; exact accepted.ring
    rw [← ring] at held ⊢
    obtain ⟨stamped, stays⟩ := resetStamps_ring (cause := l.cause) (built.trans isBuilt) held record
    rw [← history, sameStamps] at stamped
    rw [← history] at stays
    rw [same]
    exact ⟨fun h => ⟨(stamped h).1, dirty _ (stamped h).2⟩, stays⟩

/-! ### The other outcomes (R127, R130) -/

theorem requestReset_refused {outcome : ResetOutcome} (src : ResetSource) (judged : s.resetOutcome = outcome)
    (refused : outcome ≠ .accepted ∧ outcome ≠ .limit) : s.requestReset src = (s.post (.reset outcome src), outcome) := by
  subst judged
  unfold State.requestReset
  split
  · next accepted _ => exact absurd accepted refused.1
  · next limit => exact absurd limit refused.2
  · rfl

theorem requestReset_limit (src : ResetSource) (judged : s.resetOutcome = .limit) :
    s.requestReset src = ((s.post (.reset .limit src)).enterKey .a12, .limit) := by
  unfold State.requestReset
  rw [judged]

theorem resetOutcome_notLocked (state : s.bsq.state ≠ .startCheck) (free : s.locked = false) : s.resetOutcome = .notLocked := by
  unfold State.resetOutcome
  rw [if_neg state, if_pos (by rw [free]; rfl)]

theorem resetOutcome_limit (state : s.bsq.state ≠ .startCheck) (locked : s.locked = true) (limit : 5 ≤ s.flt.resetCounter) :
    s.resetOutcome = .limit := by
  unfold State.resetOutcome
  rw [if_neg state, if_neg (by rw [locked]; exact nofun), if_pos limit]

theorem resetOutcome_causePresent (present : s.bsq.state = .startCheck
    ∨ s.locked = true ∧ s.flt.resetCounter < 5 ∧ s.flt.conditions.any = true) : s.resetOutcome = .causePresent := by
  unfold State.resetOutcome
  by_cases state : s.bsq.state = .startCheck
  · rw [if_pos state]
  · obtain ⟨locked, below, any⟩ := present.resolve_left state
    rw [if_neg state, if_neg (by rw [locked]; exact nofun), if_neg (by omega), if_pos any]

theorem resetRequest_refused (on : s.powered = true) (takes : (s.prt.portRecord p).frame.Takes) :
    ∃ t, exec (.resetRequestWord p w) s = .next t
      ∧ (s.bsq.state ≠ .startCheck → s.locked = false → t.flt.lockout = none
          ∧ t.flt.resetCounter = s.flt.resetCounter ∧ t.flt.active = s.flt.active
          ∧ (t.prt.portRecord p).frame.body = (s.prt.portRecord p).frame.body ++ [0, 1])
      ∧ (s.bsq.state ≠ .startCheck → s.locked = true → 5 ≤ s.flt.resetCounter → t.flt.lockout = s.flt.lockout
          ∧ t.flt.resetCounter = s.flt.resetCounter ∧ t.isActive .a12 = true
          ∧ (t.prt.portRecord p).frame.body = (s.prt.portRecord p).frame.body ++ [0, 2])
      ∧ (s.bsq.state = .startCheck ∨ s.locked = true ∧ s.flt.resetCounter < 5 ∧ s.flt.conditions.any = true →
          t.flt.lockout = s.flt.lockout ∧ t.flt.resetCounter = s.flt.resetCounter ∧ t.flt.active = s.flt.active
          ∧ (t.prt.portRecord p).frame.body = (s.prt.portRecord p).frame.body ++ [0, 3]) := by
  obtain ⟨t, run, follows⟩ := exec_resetRequestWord (w := w) on takes
  obtain ⟨touches, -⟩ := resetOpened_frame s p w
  have flt : (s.resetOpened p w).flt = s.flt := touches.flt (by decide)
  have bsq : (s.resetOpened p w).bsq = s.bsq := touches.bsq (by decide)
  have locked : (s.resetOpened p w).locked = s.locked := by unfold State.locked; rw [flt]
  refine ⟨t, run, fun state free => ?_, fun state isLocked limit => ?_, fun present => ?_⟩
  · have answered := reset_answered (requestReset_refused (portSource p)
      (resetOutcome_notLocked (by rw [bsq]; exact state) (locked.trans free)) ⟨nofun, nofun⟩) follows
    have same : ((s.resetOpened p w).post (.reset .notLocked (portSource p))).flt = s.flt := flt
    refine ⟨?_, ?_, ?_, answered.body⟩
    · rw [answered.flt, same]
      exact Option.isSome_eq_false_iff.1 free |> Option.isNone_iff_eq_none.1
    · rw [answered.flt, same]
    · rw [answered.flt, same]
  · have answered := reset_answered (requestReset_limit (portSource p)
      (resetOutcome_limit (by rw [bsq]; exact state) (locked.trans isLocked) (by rw [flt]; exact limit))) follows
    have key := enterKey_enters ((s.resetOpened p w).post (.reset .limit (portSource p))) .a12
    have active := enterKey_isActive ((s.resetOpened p w).post (.reset .limit (portSource p))) .a12 .a12
    have same : ((s.resetOpened p w).post (.reset .limit (portSource p))).flt = s.flt := flt
    have isActive : t.isActive .a12
        = (((s.resetOpened p w).post (.reset .limit (portSource p))).enterKey .a12).isActive .a12 :=
      isActive_of_active (by rw [answered.flt]) .a12
    refine ⟨?_, ?_, isActive.trans (active.trans (by simp)), answered.body⟩
    · rw [answered.flt]
      dsimp only
      rw [key.flt, same]
    · rw [answered.flt]
      dsimp only
      rw [key.flt, same]
  · have answered := reset_answered (requestReset_refused (portSource p)
      (resetOutcome_causePresent (by rw [bsq, locked, flt]; exact present)) ⟨nofun, nofun⟩) follows
    have same : ((s.resetOpened p w).post (.reset .causePresent (portSource p))).flt = s.flt := flt
    refine ⟨?_, ?_, ?_, answered.body⟩ <;> rw [answered.flt, same]

/-! ### The history clear word (R135) -/

theorem markAll_dirty (l : List Nat) (s : State) : (∀ i ∈ l, StoreItem.slot i ∈ (l.foldl (fun s i => s.markDirty (.slot i)) s).sto.dirty)
    ∧ s.sto.dirty ⊆ (l.foldl (fun s i => s.markDirty (.slot i)) s).sto.dirty
    ∧ (l.foldl (fun s i => s.markDirty (.slot i)) s).flt = s.flt
    ∧ (l.foldl (fun s i => s.markDirty (.slot i)) s).prt = s.prt := by
  induction l generalizing s with
  | nil => exact ⟨fun _ m => absurd m List.not_mem_nil, List.Subset.refl _, rfl, rfl⟩
  | cons n rest ih =>
    obtain ⟨marked, grows, flt, prt⟩ := ih (s.markDirty (.slot n))
    rw [List.foldl_cons]
    refine ⟨fun i m => ?_, List.Subset.trans (subset_markItem _ _) grows, flt, prt⟩
    rcases List.mem_cons.1 m with rfl | later
    · exact grows (mem_markItem _ _)
    · exact marked i later

/-- The store's marks of the ring slots in `l`. -/
def State.markSlots (s : State) (l : List Nat) : State :=
  l.foldl (fun s i => s.markDirty (.slot i)) s

theorem markSlots_marks (s : State) (l : List Nat) : (∀ i ∈ l, StoreItem.slot i ∈ (s.markSlots l).sto.dirty)
    ∧ (s.markSlots l).flt = s.flt ∧ (s.markSlots l).prt = s.prt :=
  have ⟨marked, _, flt, prt⟩ := markAll_dirty l s
  ⟨marked, flt, prt⟩

theorem clearHistory_eq (s : State) : s.clearHistory = (({ s with flt := { s.flt with ring := List.replicate 32 ⟨none, none⟩ } }
    : State).markSlots (List.range 32)).markDirty .lockout := by
  unfold State.clearHistory State.markSlots
  rfl

/-- R135: the part as the history has been cleared. -/
theorem clearHistory_clears (s : State) : s.clearHistory.flt = { s.flt with ring := List.replicate 32 ⟨none, none⟩ }
    ∧ s.clearHistory.prt = s.prt ∧ (∀ i < 32, StoreItem.slot i ∈ s.clearHistory.sto.dirty)
    ∧ StoreItem.lockout ∈ s.clearHistory.sto.dirty := by
  obtain ⟨marked, flt, prt⟩ := markSlots_marks
    { s with flt := { s.flt with ring := List.replicate 32 ⟨none, none⟩ } } (List.range 32)
  have low (i : Nat) (h : i < 32) : i ∈ List.range 32 := List.mem_range.2 h
  rw [clearHistory_eq]
  generalize List.range 32 = l at *
  generalize State.markSlots _ l = v at *
  exact ⟨flt, prt, fun i h => subset_markItem _ _ (marked i (low i h)), mem_markItem _ _⟩

theorem history_cleared (on : s.powered = true) (takes : s.prt.service.frame.Takes) :
    ∃ t, exec (.historyClearWord .service w) s = .next t ∧ t.flt.ring = List.replicate 32 ⟨none, none⟩
      ∧ t.flt.lastCreation = s.flt.lastCreation ∧ t.flt.active = s.flt.active ∧ t.flt.lockout = s.flt.lockout
      ∧ t.flt.resetCounter = s.flt.resetCounter ∧ Answers .service 4 0x31 .ok [] s t
      ∧ (∀ i < 32, Marked (.slot i) t) ∧ Marked .lockout t := by
  have written : (s.opened .service (wordWrite 4 0x31 w) 0x31).writeWord .service 4 none (0x31, w)
      = ⟨(s.opened .service (wordWrite 4 0x31 w) 0x31).clearHistory.settle, .ok, []⟩ := rfl
  obtain ⟨t, run, follows⟩ := exec_effect (c := .historyClearWord .service w) on rfl
    (portCommand_answered (p := .service) (space := 4) (a := 0x31) takes (by decide) (by decide) (by decide) (by decide) written rfl nofun)
  obtain ⟨flt, prt, slots, lockout⟩ := clearHistory_clears (s.opened .service (wordWrite 4 0x31 w) 0x31)
  have same : (s.opened .service (wordWrite 4 0x31 w) 0x31).flt = s.flt := rfl
  rw [same] at flt
  generalize (s.opened .service (wordWrite 4 0x31 w) 0x31).clearHistory = x at follows flt prt slots lockout
  have planned : Follows x x.settle := settle_follows x
  generalize x.settle = v at follows planned
  have kept : KeepsReply .service (s.opened .service (wordWrite 4 0x31 w) 0x31) v :=
    .of_ports fun q => (planned.ends.portRecord q).trans (by rw [prt])
  obtain ⟨touches, -⟩ := wordAnswered_frame v .service .ok []
  have before : (v.wordAnswered .service .ok []).flt = v.flt := touches.flt (by decide)
  have stored : (v.wordAnswered .service .ok []).sto = v.sto := touches.sto (by decide)
  have marked (i : StoreItem) (h : i ∈ x.sto.dirty) : Marked i t := by
    have inV := planned.marked (.inl h)
    refine follows.marked ?_
    unfold Marked
    rw [stored]
    exact inV
  refine ⟨t, run, ?_, ?_, ?_, ?_, ?_, (kept.answersWord _ _).ends follows.ends, fun i low => marked _ (slots i low), marked _ lockout⟩ <;>
    rw [follows.ends.flt, before, planned.ends.flt, flt]

theorem portSource_eq (p : Port) : (match p with | .control => .control | .service => .service) = portSource p := by
  cases p <;> rfl

/-- The entry of a RESET record, where the creation number has not reached its highest value. -/
theorem resetEntry_eq (s : State) (cause : FaultKey) (p : Port) (low : s.flt.lastCreation < 4294967295) :
    s.resetEntry cause (portSource p) = ⟨some
      { kind := .reset, key := cause, source := some (match p with | .control => .control | .service => .service)
        seqState := .lockout, flow := s.flow, rate := 0, raiseStamp := s.minute, clearedStamp := none, count := 1
        duringLockout := false, number := s.flt.lastCreation + 1 }, none⟩ := by
  have number : nextNumber s.flt.lastCreation = s.flt.lastCreation + 1 := Nat.min_eq_right (by omega)
  unfold State.resetEntry State.resetRecord
  rw [number, portSource_eq]

/-- R135: without the right to clear the history the control port's word is DENIED. -/
theorem historyClear_denied (on : s.powered = true) (takes : s.prt.control.frame.Takes) :
    ∃ u t, exec (.historyClearWord .control w) s = .next t ∧ Follows u t ∧ Touches [.prt] s u
      ∧ Answers .control 4 0x31 .denied [] s u ∧ Counts .control .denied s u := by
  obtain ⟨t, run, follows⟩ := exec_effect (c := .historyClearWord .control w) on rfl
    (portCommand_answered (p := .control) (space := 4) (a := 0x31) (v := s.opened .control (wordWrite 4 0x31 w) 0x31)
      (status := .denied) (outcomes := []) takes (by decide) (by decide) (by decide) (by decide) rfl rfl nofun)
  exact ⟨_, t, run, follows, wordAnswered_touches (.refl _ _) (List.Subset.refl _), (KeepsReply.refl _).answersWord _ _,
    wordAnswered_counts rfl⟩

/-- Settles O59: the accepted request, the refused ones and the history clear of each port. -/
theorem resetRequestsAreJudged : Obligations.ResetRequestsAreJudged := by
  refine ⟨fun s p w l on takes held state below clear => ?accepted, fun s p w on takes => resetRequest_refused on takes,
    fun s w on takes => history_cleared on takes, fun s w on takes => historyClear_denied on takes⟩
  case accepted =>
    obtain ⟨t, run, unlocked, counter, decay, failures, left, alarm, active, marked, body, notices, ring⟩ :=
      resetRequest_accepted (w := w) on takes held state below clear
    refine ⟨t, run, unlocked, counter, decay, failures, left, alarm, active, marked, body, fun few => ?_, fun built low => ?_⟩
    · exact notices few
    · have made := ring built low
      rw [resetEntry_eq s l.cause p low] at made
      exact made

end Sys2Proof.Machine

/-! SUPPORT. Writes of several words, and the demand entries that a port writes (R24 to R26, R164). -/

namespace Sys2Proof.Machine

variable {c : Instr} {s t u v : State} {p : Port} {w : Word} {status : Status} {outcomes : List Byte}

/-! ### A command of several words (R160 to R162) -/

/-- R160 to R162: a command that its port may write, from its words' own meanings. -/
theorem portCommand_wordsAnswered {x : PortCommand} {data : List Word} {addresses : List Nat} {next : Nat} {statuses : List Status}
    (takes : (s.prt.portRecord p).frame.Takes) (body : x.body = .inr data) (count : countOk x = true) (exist : x.space ≠ 7)
    (right : mayWrite p x.space = true)
    (walked : walk x.space x.step data.length ((s.onFrame p fun f => f.take x).startOf p x.space x.start)
      = (addresses, next, false))
    (written : (s.opened p x next).writeAll p x.space (addresses.zip data) = (v.countValues p [status], statuses, outcomes))
    (all : statusOf statuses = status) (unlocked : status ≠ .noUnlock) :
    s.portCommand p x = v.wordAnswered p status outcomes := by
  rw [portCommand_executes s p x takes count, execute_write _ p body exist right, runWrite_eq]
  dsimp only
  rw [walked]
  dsimp only
  rw [written]
  dsimp only
  rw [if_neg Bool.false_ne_true, all, countValues_count]
  unfold State.noteNoUnlock
  rw [if_neg unlocked]
  rfl

theorem statusOf_taken {l : List Status} (each : ∀ x ∈ l, x = .ok ∨ x = .clamped) :
    statusOf l = .ok ∨ statusOf l = .clamped := by
  have go (l : List Status) (acc : Status) (first : acc = .ok ∨ acc = .clamped) (each : ∀ x ∈ l, x = .ok ∨ x = .clamped) :
      l.foldl Status.first acc = .ok ∨ l.foldl Status.first acc = .clamped := by
    induction l generalizing acc with
    | nil => exact first
    | cons x rest ih =>
      rw [List.foldl_cons]
      refine ih _ ?_ fun y m => each y (List.mem_cons_of_mem x m)
      rcases first with rfl | rfl <;> rcases each x (List.mem_cons_self ..) with rfl | rfl <;> decide
  exact go l .ok (.inl rfl) each

/-! ### One block of the demand table (R24 to R26, R164) -/

/-- R164: a command whose words all lie in one entry's block, none of them refused with VALUE. -/
theorem writeAll_block {l : List (Nat × Word)} {src : Source} {ws : List (Nat × Word)} {statuses : List Status}
    (block : splitBlocks l = [(some src, ws)]) (written : s.writeBlock p src ws = (v, statuses))
    (valid : Status.value ∉ statuses) : s.writeAll p 1 l = (v, statuses, []) := by
  have none : v.countValues p statuses = v := if_neg fun h => valid (List.contains_iff_mem.1 h)
  have demand : s.writeDemand p [(some src, ws)] = (v, statuses) := by
    unfold State.writeDemand
    dsimp only
    rw [written]
    dsimp only
    rw [none]
    unfold State.writeDemand
    dsimp only
    rw [List.append_nil]
  refine (if_pos rfl).trans ?_
  rw [block, demand]

/-- R24 to R26: a write that is not refused as a whole, all of whose words are taken. -/
theorem writeBlock_taken {src : Source} {ws : List (Nat × Word)} (allowed : s.refusesEntry p src false = false)
    (keeps : (ws.any fun x => x.1 == 0 && x.2 == 0) = false) (all : takenWords src ws = ws) (some : ws ≠ []) :
    ∃ absent, s.writeBlock p src ws = (s.writeEntry src ws, ws.map (s.entryStatus src absent)) := by
  unfold State.writeBlock
  dsimp only
  rw [keeps, allowed, all]
  exact ⟨_, (if_neg Bool.false_ne_true).trans ((if_neg Bool.false_ne_true).trans (if_neg fun h => some (List.isEmpty_iff.1 h)))⟩

theorem entryStatus_taken {src : Source} {absent : Bool} {x : Nat × Word} (may : mayCarry src x.1 = true)
    (valid : badSelection x.1 x.2 = false) :
    s.entryStatus src absent x = if entryClamps s.sto.table absent x.1 x.2 = true then .clamped else .ok := by
  unfold State.entryStatus
  rw [may, valid]
  rfl

theorem taken_statuses {src : Source} {absent : Bool} {ws : List (Nat × Word)} (all : takenWords src ws = ws) :
    ∀ x ∈ ws.map (s.entryStatus src absent), x = .ok ∨ x = .clamped := by
  intro status m
  obtain ⟨x, inWords, rfl⟩ := List.mem_map.1 m
  have kept := List.filter_eq_self.1 all x inWords
  rw [Bool.and_eq_true, Bool.not_eq_true'] at kept
  rw [entryStatus_taken kept.1 kept.2]
  split
  · exact .inr rfl
  · exact .inl rfl

/-- A stepped command's words in the DEMAND space, where they all are taken by one entry. -/
theorem portCommand_entry {a : Word} {data : List Word} {src : Source} {ws : List (Nat × Word)}
    (takes : (s.prt.portRecord p).frame.Takes) (few : 1 ≤ data.length ∧ data.length ≤ 63)
    (inside : a.toNat + data.length ≤ 144) (block : splitBlocks (((List.range data.length).map (a.toNat + ·)).zip data) = [(some src, ws)])
    (allowed : s.refusesEntry p src false = false) (keeps : (ws.any fun x => x.1 == 0 && x.2 == 0) = false)
    (all : takenWords src ws = ws) (some : ws ≠ []) :
    let o := s.opened p ⟨1, .address a, true, .inr data⟩ (a.toNat + data.length)
    ∃ absent, s.portCommand p ⟨1, .address a, true, .inr data⟩
      = (o.writeEntry src ws).wordAnswered p (statusOf (ws.map (s.entryStatus src absent))) [] := by
  intro o
  have touches := opened_touches s p ⟨1, .address a, true, .inr data⟩ (a.toNat + data.length)
  have allowed' : o.refusesEntry p src false = false := by
    have same : o.refusesEntry p src false = s.refusesEntry p src false := by
      unfold State.refusesEntry State.locked
      rw [touches.flt (by decide), opened_prt]
    exact same.trans allowed
  obtain ⟨absent, written⟩ := writeBlock_taken allowed' keeps all some
  have same : o.entryStatus src absent = s.entryStatus src absent := by
    funext x
    unfold State.entryStatus
    rw [touches.sto (by decide)]
  rw [same] at written
  have each := taken_statuses (s := s) (absent := absent) all
  have valid : Status.value ∉ ws.map (s.entryStatus src absent) := fun m => by
    rcases each _ m with h | h <;> exact absurd h nofun
  have status := statusOf_taken each
  have notValue : (o.writeEntry src ws).countValues p [statusOf (ws.map (s.entryStatus src absent))] = o.writeEntry src ws := by
    refine if_neg ?_
    rcases status with h | h <;> rw [h] <;> decide
  refine ⟨absent, portCommand_wordsAnswered (data := data) takes rfl ?_ (show (1 : BitVec 3) ≠ 7 by decide)
    (show mayWrite p 1 = true by cases p <;> decide)
    (walk_within (space := 1) data.length a.toNat inside) ?_ rfl ?_⟩
  · unfold countOk
    dsimp only
    rw [decide_eq_true few.1, decide_eq_true few.2]
    rfl
  · rw [notValue]
    exact writeAll_block block written valid
  · rcases status with h | h <;> rw [h] <;> exact nofun

/-- R162: of an event, the command that it carries. -/
theorem exec_demandWrite {a : Word} {data : List Word} (on : s.powered = true) (u : State)
    (answered : s.portCommand p ⟨1, .address a, true, .inr data⟩ = u) :
    ∃ t, exec (.demandWrite p (.address a) true data) s = .next t ∧ Follows u t :=
  exec_effect (c := .demandWrite p (.address a) true data) on rfl answered

/-! ### The BOARD entry (R25) -/

theorem zoneOf_eq (w : Word) : zoneOf w = if w = 1 then some .zone1 else if w = 2 then some .zone2 else none := by
  have one : w = 1 ↔ w.toNat = 1 := BitVec.toNat_inj.symm
  have two : w = 2 ↔ w.toNat = 2 := BitVec.toNat_inj.symm
  unfold zoneOf
  split
  · next isOne => exact (if_pos (one.2 isOne)).symm
  · next isTwo => rw [if_neg (fun h => absurd (one.1 h) (by omega)), if_pos (two.2 isTwo)]
  · next notOne notTwo => rw [if_neg (mt one.1 notOne), if_neg (mt two.1 notTwo)]

/-- R25: the BOARD entry after one write of its five words. -/
theorem boardAfter_five (old : Entry) (asks flow setpoint actual zone : Word) :
    boardAfter old [(2, asks), (3, flow), (4, setpoint), (5, actual), (6, zone)] = { old with
      requesting := asks != 0
      flowRequest := if flow = 0 then none else some (clampInt 200 900 flow.toInt)
      roomPair := if setpoint = 0 then none else some ⟨clampInt 50 300 setpoint.toInt, clampInt 0 400 actual.toInt⟩
      zone := if zone = 1 then some .zone1 else if zone = 2 then some .zone2 else none } := by
  rw [← zoneOf_eq]
  rfl

/-- R161: what the arbiter makes of a taken write, and what follows in the same event, leave the answer and the entries that the
end of an event does not judge. -/
theorem written_answers {x : PortCommand} {next : Nat} {d : Dta} (ends : EndsFrom { s.opened p x next with dta := d } v)
    (follows : Follows (v.wordAnswered p status outcomes) t) : Answers p x.space next status outcomes s t
      ∧ t.dta.table.board = d.table.board ∧ t.dta.table.room = d.table.room ∧ t.dta.table.service = d.table.service := by
  have kept : KeepsReply p (s.opened p x next) v := .of_ports ends.portRecord
  refine ⟨(kept.answers _ _).ends follows.ends, ?_⟩
  rw [follows.ends.table, (wordAnswered_frame v p status outcomes).1.dta (by decide), ends.table]
  exact ⟨rfl, rfl, rfl⟩

theorem boardWritten (asks flow setpoint actual zone : Word) (on : s.powered = true) (takes : s.prt.control.frame.Takes)
    (supervised : s.prt.heartbeat.isSome = true) :
    let old := s.dta.table.board.getD ⟨false, none, none, none, none, none, none, false⟩
    ∃ t status, exec (.demandWrite .control (.address 2) true [asks, flow, setpoint, actual, zone]) s = .next t
      ∧ Answers .control 1 7 status [] s t ∧ (status = .ok ∨ status = .clamped)
      ∧ t.dta.table.board = some { old with
          requesting := asks != 0
          flowRequest := if flow = 0 then none else some (clampInt 200 900 flow.toInt)
          roomPair := if setpoint = 0 then none else some ⟨clampInt 50 300 setpoint.toInt, clampInt 0 400 actual.toInt⟩
          zone := if zone = 1 then some .zone1 else if zone = 2 then some .zone2 else none }
      ∧ t.dta.table.room = s.dta.table.room ∧ t.dta.table.service = s.dta.table.service := by
  intro old
  have allowed : s.refusesEntry .control .board false = false := by
    unfold State.refusesEntry
    rw [← Option.not_isSome, supervised]
    rfl
  have all : takenWords .board [(2, asks), (3, flow), (4, setpoint), (5, actual), (6, zone)]
      = [(2, asks), (3, flow), (4, setpoint), (5, actual), (6, zone)] := rfl
  obtain ⟨absent, answered⟩ := portCommand_entry (s := s) (p := .control) (a := 2) (data := [asks, flow, setpoint, actual, zone])
    (src := .board) (ws := [(2, asks), (3, flow), (4, setpoint), (5, actual), (6, zone)]) takes
    (show 1 ≤ 5 ∧ 5 ≤ 63 by decide) (show 2 + 5 ≤ 144 by decide)
    (by simp [splitBlocks, isInfo, sourceAt, allSources, List.range_succ]) allowed rfl all nofun
  obtain ⟨t, run, follows⟩ := exec_demandWrite on _ answered
  obtain ⟨answers, board, room, service⟩ := written_answers
    (settle_endsFrom { s.opened .control ⟨1, .address 2, true, .inr [asks, flow, setpoint, actual, zone]⟩ 7 with
      dta := s.dta.put .board (some (boardAfter old [(2, asks), (3, flow), (4, setpoint), (5, actual), (6, zone)])) }) follows
  refine ⟨t, _, run, answers, statusOf_taken (taken_statuses all), ?_, room, service⟩
  rw [board, ← boardAfter_five]
  rfl

theorem boardDenied (asks : Word) (on : s.powered = true) (takes : s.prt.control.frame.Takes) (alone : s.prt.heartbeat = none) :
    ∃ u t, exec (.demandWrite .control (.address 2) true [asks]) s = .next t ∧ Follows u t ∧ Touches [.prt] s u
      ∧ Answers .control 1 3 .denied [] s u ∧ Counts .control .denied s u := by
  let x : PortCommand := ⟨1, .address 2, true, .inr [asks]⟩
  have refused : (s.opened .control x 3).writeBlock .control .board [(2, asks)] = (s.opened .control x 3, [.denied]) := by
    refine if_pos ?_
    unfold State.refusesEntry
    dsimp only
    have none : (s.opened .control x 3).prt.heartbeat = none := alone
    rw [none]
    rfl
  have answered : s.portCommand .control x = (s.opened .control x 3).wordAnswered .control .denied [] :=
    portCommand_wordsAnswered (data := [asks]) (statuses := [.denied]) takes rfl rfl (show (1 : BitVec 3) ≠ 7 by decide)
      (show mayWrite .control 1 = true by decide)
      (walk_within (space := 1) 1 2 (by decide)) 
      (writeAll_block (by simp [splitBlocks, isInfo, sourceAt, allSources, List.range_succ]) refused (by decide)) rfl nofun
  obtain ⟨t, run, follows⟩ := exec_demandWrite on _ answered
  exact ⟨_, t, run, follows, wordAnswered_touches (.refl _ _) (List.Subset.refl _), (KeepsReply.refl _).answers (x := x) _ _,
    wordAnswered_counts rfl⟩

/-! ### The SERVICE entry (R26, R63, R164) -/

/-- R63: the rate that a changed selection forms is no part of the entry, of the clock's answer or of the ports. -/
theorem formOnChange_leaves (s : State) (old : Option Entry) : (s.formOnChange old).dta.table.service = s.dta.table.service
    ∧ ∀ q, (s.formOnChange old).prt.portRecord q = s.prt.portRecord q := by
  unfold State.formOnChange
  dsimp only
  split
  · have touches := serviceForm_touches s
    have ends := settle_endsFrom s.serviceForm
    generalize s.serviceForm = x at touches ends
    generalize x.settle = v at ends
    refine ⟨?_, fun q => ?_⟩
    · rw [ends.table, touches.dta (by decide)]
    · rw [ends.portRecord, touches.prt (by decide)]
  · exact ⟨rfl, fun _ => rfl⟩

/-- R32, R33: while SERVICE asks, the plan is its own. -/
theorem PlanLaw.of_service (h : PlanLaw s) (asks : s.dta.asks .service = true) :
    s.dta.plan.mode = .service ∧ s.dta.plan.sources = [.service] := by
  have mode : s.chooseMode = .service := if_pos asks
  refine ⟨h.mode.trans mode, ?_⟩
  rw [h.sources, mode]
  rfl

/-- R26: the part with this SERVICE entry. -/
def State.withService (s : State) (e : Entry) : State := { s with dta := s.dta.put .service (some e) }

theorem writeEntry_service (s : State) (ws : List (Nat × Word)) : s.writeEntry .service ws =
    (s.withService (serviceAfter s.sto.table s.dta.table.service ws s.serviceExpiry)).settle.formOnChange
      s.dta.table.service := rfl

theorem writeEntry_service_leaves (s : State) (ws : List (Nat × Word)) :
    (s.writeEntry .service ws).dta.table.service = some (serviceAfter s.sto.table s.dta.table.service ws s.serviceExpiry)
      ∧ ∀ q, (s.writeEntry .service ws).prt.portRecord q = s.prt.portRecord q := by
  rw [writeEntry_service]
  generalize serviceAfter s.sto.table s.dta.table.service ws s.serviceExpiry = e
  have ends := settle_endsFrom (s.withService e)
  generalize (s.withService e).settle = v at ends
  obtain ⟨service, ports⟩ := formOnChange_leaves v s.dta.table.service
  refine ⟨service.trans ?_, fun q => (ports q).trans (ends.portRecord q)⟩
  rw [ends.table]
  rfl

/-- R26, R164: a write of the SERVICE block that makes its entry. -/
theorem serviceWritten {data : List Word} {ws : List (Nat × Word)} {entry : Entry} (on : s.powered = true)
    (takes : (s.prt.portRecord p).frame.Takes) (free : s.locked = false) (few : 1 ≤ data.length ∧ data.length ≤ 57)
    (block : splitBlocks (((List.range data.length).map (0x57 + ·)).zip data) = [(some .service, ws)])
    (keeps : (ws.any fun x => x.1 == 0 && x.2 == 0) = false) (all : takenWords .service ws = ws) (words : ws ≠ [])
    (made : serviceAfter s.sto.table s.dta.table.service ws s.serviceExpiry = entry) (asks : entry.requesting = true) :
    ∃ t absent, exec (.demandWrite p (.address 0x57) true data) s = .next t
      ∧ Answers p 1 (0x57 + data.length) (statusOf (ws.map (s.entryStatus .service absent))) [] s t
      ∧ t.dta.table.service = some entry ∧ t.dta.plan.mode = .service ∧ t.dta.plan.sources = [.service] := by
  have allowed : s.refusesEntry p .service false = false := by
    unfold State.refusesEntry
    rw [free]
    rfl
  obtain ⟨absent, answered⟩ := portCommand_entry (s := s) (p := p) (a := 0x57) takes ⟨few.1, by omega⟩
    (show 0x57 + data.length ≤ 144 by omega) block allowed keeps all words
  obtain ⟨t, run, follows⟩ := exec_demandWrite on _ answered
  obtain ⟨service, ports⟩ := writeEntry_service_leaves
    (s.opened p ⟨1, .address 0x57, true, .inr data⟩ (0x57 + data.length)) ws
  have plan : PlanLaw t := follows.settled ▸ settle_plan _
  change Follows (State.wordAnswered (State.writeEntry (s.opened p _ (0x57 + data.length)) .service ws) _ _ _) t at follows
  generalize State.writeEntry (s.opened p _ (0x57 + data.length)) .service ws = v at follows service ports
  have isEntry : t.dta.table.service = some entry := by
    rw [follows.ends.table, (wordAnswered_frame v p _ []).1.dta (by decide)]
    exact service.trans (congrArg some made)
  obtain ⟨mode, sources⟩ := plan.of_service (by unfold Dta.asks; exact (congrArg requests isEntry).trans asks)
  exact ⟨t, absent, run, ((KeepsReply.of_ports ports).answers _ _).ends follows.ends, isEntry, mode, sources⟩

theorem serviceSelected (selection : Word) (on : s.powered = true) (takes : (s.prt.portRecord p).frame.Takes)
    (free : s.locked = false) (absent : s.dta.table.service = none) (low : 1 ≤ selection.toNat) (high : selection.toNat ≤ 3) :
    ∃ t, exec (.demandWrite p (.address 0x57) true [selection]) s = .next t ∧ Answers p 1 0x58 .ok [] s t
      ∧ t.dta.table.service = some ⟨true, none, none, selectionOf selection, none, none,
          some (s.clock.now + s.sto.settings.serviceMin.toNat * 60000), false⟩ ∧ t.dta.plan.mode = .service := by
  have valid : badSelection 7 selection = false := by
    unfold badSelection
    rw [decide_eq_false (by omega : ¬ selection.toNat < 1), decide_eq_false (by omega : ¬ 4 < selection.toNat)]
    rfl
  have notExplicit : selection ≠ 4 := by rintro rfl; exact absurd high (by decide)
  have all : takenWords .service [(7, selection)] = [(7, selection)] := by
    unfold takenWords
    rw [List.filter_cons_of_pos (by rw [valid]; rfl), List.filter_nil]
  have made : serviceAfter s.sto.table s.dta.table.service [(7, selection)] s.serviceExpiry
      = ⟨true, none, none, selectionOf selection, none, none, some s.serviceExpiry, false⟩ := by
    have rate : explicitAfter s.sto.table none (some selection) none = none := if_neg notExplicit
    have entry : serviceAfter s.sto.table none [(7, selection)] s.serviceExpiry = ⟨true, none, none, selectionOf selection,
        explicitAfter s.sto.table none (some selection) none, none, some s.serviceExpiry, false⟩ := rfl
    rw [absent, entry, rate]
  obtain ⟨t, pair, run, answers, service, mode, -⟩ := serviceWritten (p := p) (data := [selection]) (ws := [(7, selection)])
    on takes free (show 1 ≤ 1 ∧ 1 ≤ 57 by decide) (by simp [splitBlocks, isInfo, sourceAt, allSources, List.range_succ]) rfl all
    nofun made rfl
  have status : statusOf ([(7, selection)].map (s.entryStatus .service pair)) = .ok := by
    rw [List.map_cons, entryStatus_taken rfl valid]
    rfl
  rw [status] at answers
  exact ⟨t, run, answers, service, mode⟩

/-- R63, R164: a SERVICE write with an explicit rate. -/
theorem serviceRated (rate : Word) (on : s.powered = true) (takes : (s.prt.portRecord p).frame.Takes)
    (free : s.locked = false) (absent : s.dta.table.service = none) :
    let r := clampInt s.sto.table.rmin s.sto.table.dhwMax rate.toNat
    ∃ t, exec (.demandWrite p (.address 0x57) true [4, rate]) s = .next t
      ∧ Answers p 1 0x59 (if r = rate.toNat then .ok else .clamped) [] s t
      ∧ t.dta.table.service = some ⟨true, none, none, some .explicit, some r, none,
          some (s.clock.now + s.sto.settings.serviceMin.toNat * 60000), false⟩
      ∧ t.dta.plan.mode = .service ∧ t.dta.plan.sources = [.service] := by
  intro r
  have made : serviceAfter s.sto.table s.dta.table.service [(7, 4), (8, rate)] s.serviceExpiry
      = ⟨true, none, none, some .explicit, some r, none, some s.serviceExpiry, false⟩ := by
    rw [absent]
    rfl
  obtain ⟨t, pair, run, answers, service, mode, sources⟩ := serviceWritten (p := p) (data := [4, rate]) (ws := [(7, 4), (8, rate)])
    on takes free (show 1 ≤ 2 ∧ 2 ≤ 57 by decide) (by simp [splitBlocks, isInfo, sourceAt, allSources, List.range_succ]) rfl rfl
    nofun made rfl
  have status : statusOf ([(7, 4), (8, rate)].map (s.entryStatus .service pair)) = if r = rate.toNat then .ok else .clamped := by
    have first : s.entryStatus .service pair (7, 4) = .ok := entryStatus_taken rfl rfl
    have clamps : entryClamps s.sto.table pair 8 rate = (r != rate.toNat) := rfl
    have second : s.entryStatus .service pair (8, rate) = if r = rate.toNat then .ok else .clamped := by
      rw [entryStatus_taken rfl rfl, clamps]
      by_cases same : r = rate.toNat
      · rw [if_pos same, if_neg fun changed => bne_iff_ne.1 changed same]
      · rw [if_neg same, if_pos (bne_iff_ne.2 same)]
    rw [List.map_cons, List.map_cons, first, second, List.map_nil]
    split <;> rfl
  rw [status] at answers
  exact ⟨t, run, answers, service, mode, sources⟩

end Sys2Proof.Machine

/-! SUPPORT. A setting as a port writes it (R53, R150, R163, R179). -/

namespace Sys2Proof.Machine

variable {c : Instr} {s t u v x y : State} {p : Port} {a w : Word} {status : Status} {outcomes : List Byte}

/-- R179: what the blocks that use a taken setting leave of it, of A09, of the slots and of the ports. -/
structure KeepsSetting (s t : State) : Prop where
  settings : t.sto.settings = s.sto.settings
  active : t.isActive .a09 = s.isActive .a09
  marked : Marked .settings s → Marked .settings t
  slots : t.rlc.slots = s.rlc.slots
  ports : ∀ q, t.prt.portRecord q = s.prt.portRecord q

theorem KeepsSetting.refl (s : State) : KeepsSetting s s := ⟨rfl, rfl, id, rfl, fun _ => rfl⟩

theorem KeepsSetting.trans (h : KeepsSetting s t) (k : KeepsSetting t u) : KeepsSetting s u :=
  ⟨k.settings.trans h.settings, k.active.trans h.active, k.marked ∘ h.marked, k.slots.trans h.slots,
    fun q => (k.ports q).trans (h.ports q)⟩

theorem Follows.keepsSetting (h : Follows u t) : KeepsSetting u t :=
  ⟨by rw [h.ends.sto], h.ends.isActive .a09, h.marked, by rw [h.ends.rlc], h.ends.portRecord⟩

theorem judgePause_keepsSetting (s : State) : KeepsSetting s s.judgePause := by
  rw [judgePause_frame]
  exact ⟨rfl, rfl, id, rfl, fun q => by cases q <;> rfl⟩

/-- R179: the settings block with A09 cleared, before the blocks that use the setting act. -/
def State.settingPut (s : State) (new : Settings) : State :=
  (({ s with sto := { s.sto with settings := new } } : State).markDirty .settings).leaveKey .a09

theorem settingPut_puts (s : State) (new : Settings) : (s.settingPut new).sto.settings = new
    ∧ (s.settingPut new).isActive .a09 = false ∧ Marked .settings (s.settingPut new) ∧ (s.settingPut new).rlc = s.rlc
    ∧ ∀ q, (s.settingPut new).prt.portRecord q = s.prt.portRecord q := by
  unfold State.settingPut
  generalize isMarked : ({ s with sto := { s.sto with settings := new } } : State).markDirty .settings = v
  have key := leaveKey_leaves v .a09
  refine ⟨?_, by simp, .inl (leaveKey_dirty v .a09 ?_), ?_, fun q => ?_⟩
  · rw [key.sto, ← isMarked]
    rfl
  · rw [← isMarked]
    exact mem_markItem _ _
  · rw [key.touches.rlc (by decide), ← isMarked]
    rfl
  · have prt : (v.leaveKey .a09).prt = { v.prt with
        notices := (v.leaveKey .a09).prt.notices, overflow := (v.leaveKey .a09).prt.overflow } := by
      rw [key.notice]
      split
      · exact Prt.post_frame _ _
      · rfl
    rw [prt, ← isMarked]
    cases q <;> rfl

/-- R150: what a setting that is handed to the room loop controller leaves, and the slots that it makes. -/
structure TakesSlot (slots : SlotSet SlotRecord) (x y : State) : Prop where
  sto : y.sto = x.sto
  flt : y.flt = x.flt
  slots : y.rlc.slots = slots
  ports : ∀ q, y.prt.portRecord q = x.prt.portRecord q

/-- R179: a setting as it has been taken, and what each block that uses it has done. -/
theorem takeSetting_takes {a : Nat} {new : Settings} {slots : SlotSet SlotRecord}
    (outdoor : new.outdoorFitted = s.sto.settings.outdoorFitted)
    (slot : TakesSlot slots (s.settingPut new) ((s.settingPut new).takeSlot (slotOfSetting a))) :
    (s.takeSetting a new).sto.settings = new ∧ (s.takeSetting a new).isActive .a09 = false
      ∧ Marked .settings (s.takeSetting a new) ∧ (s.takeSetting a new).rlc.slots = slots
      ∧ ∀ q, (s.takeSetting a new).prt.portRecord q = s.prt.portRecord q := by
  obtain ⟨settings, active, marked, -, ports⟩ := settingPut_puts s new
  have fitted : (s.settingPut new).takeOutdoor s.sto.settings.outdoorFitted = s.settingPut new := by
    unfold State.takeOutdoor
    dsimp only
    exact if_pos (by rw [settings]; exact outdoor)
  have taken : s.takeSetting a new = (let v := (((s.settingPut new).takeOutdoor s.sto.settings.outdoorFitted).takeSlot
      (slotOfSetting a)).settle; if a = 0x00 then v.judgePause.settle else v) := rfl
  rw [taken, fitted]
  generalize s.settingPut new = x at *
  generalize x.takeSlot (slotOfSetting a) = y at *
  have acted : KeepsSetting y (if a = 0x00 then y.settle.judgePause.settle else y.settle) := by
    have first := (settle_follows y).keepsSetting
    split
    · exact (first.trans (judgePause_keepsSetting _)).trans (settle_follows _).keepsSetting
    · exact first
  dsimp only
  generalize (if a = 0x00 then y.settle.judgePause.settle else y.settle) = v at acted
  refine ⟨?_, ?_, acted.marked ?_, acted.slots.trans slot.slots, fun q => ?_⟩
  · rw [acted.settings, slot.sto, settings]
  · exact (acted.active.trans (isActive_of_active (congrArg Flt.active slot.flt) .a09)).trans active
  · unfold Marked
    rw [slot.sto]
    exact marked
  · rw [acted.ports, slot.ports, ports]

/-- R162, R179: a setting in its range is taken and answered. -/
theorem settingAnswered {new : Settings} {clamps : Bool} {slots : SlotSet SlotRecord} (on : s.powered = true)
    (takes : (s.prt.portRecord p).frame.Takes) (inside : inSpace 2 a.toNat = true) (noInfo : isInfo a.toNat = false)
    (put : s.sto.settings.put a.toNat w = some (new, clamps)) (outdoor : new.outdoorFitted = s.sto.settings.outdoorFitted)
    (slot : ∀ x : State, x.sto.settings = new → x.rlc = s.rlc → TakesSlot slots x (x.takeSlot (slotOfSetting a.toNat))) :
    ∃ t, exec (.settingsWrite p (.address a) false [w]) s = .next t ∧ t.sto.settings = new ∧ Marked .settings t
      ∧ t.isActive .a09 = false ∧ t.rlc.slots = slots
      ∧ Answers p 2 a.toNat (if clamps = true then .clamped else .ok) [] s t := by
  have opened : (s.opened p (wordWrite 2 a w) a.toNat).sto = s.sto := (opened_touches s p _ _).sto (by decide)
  have rlc : (s.opened p (wordWrite 2 a w) a.toNat).rlc = s.rlc := (opened_touches s p _ _).rlc (by decide)
  have written : (s.opened p (wordWrite 2 a w) a.toNat).writeWord p 2 none (a.toNat, w)
      = ⟨(s.opened p (wordWrite 2 a w) a.toNat).takeSetting a.toNat new, if clamps = true then .clamped else .ok, []⟩ := by
    refine (if_neg (by rw [noInfo]; exact nofun)).trans ?_
    change (s.opened p (wordWrite 2 a w) a.toNat).writeSetting a.toNat w = _
    unfold State.writeSetting
    rw [opened, put]
    rfl
  have single : statusOf [if clamps = true then Status.clamped else .ok] = if clamps = true then .clamped else .ok := by
    split <;> rfl
  obtain ⟨t, run, follows⟩ := exec_effect (c := .settingsWrite p (.address a) false [w]) on rfl
    (portCommand_answered takes (by decide) (by decide) (by cases p <;> decide) inside written single (by split <;> exact nofun))
  obtain ⟨put', -, -, still, -⟩ := settingPut_puts (s.opened p (wordWrite 2 a w) a.toNat) new
  obtain ⟨settings, active, marked, made, ports⟩ := takeSetting_takes (s := s.opened p (wordWrite 2 a w) a.toNat) (a := a.toNat)
    (new := new) (by rw [opened]; exact outdoor) (slot _ put' (still.trans rlc))
  generalize (s.opened p (wordWrite 2 a w) a.toNat).takeSetting a.toNat new = v at follows settings active marked made ports
  obtain ⟨touches, -⟩ := wordAnswered_frame v p (if clamps = true then .clamped else .ok) []
  have after := follows.keepsSetting
  refine ⟨t, run, ?_, after.marked ?_, ?_, ?_, ((KeepsReply.of_ports ports).answersWord _ _).ends follows.ends⟩
  · rw [after.settings, touches.sto (by decide), settings]
  · unfold Marked
    rw [touches.sto (by decide)]
    exact marked
  · rw [after.active, touches.isActive (by decide), active]
  · rw [after.slots, touches.rlc (by decide), made]

/-- R53, R179: the DHW setpoint. -/
theorem setpointTaken (value : Word) (on : s.powered = true) (takes : (s.prt.portRecord p).frame.Takes) :
    let x := clampInt 350 600 value.toInt
    ∃ t, exec (.settingsWrite p (.address 0) false [value]) s = .next t
      ∧ t.sto.settings = { s.sto.settings with dhwSetpoint := x } ∧ Marked .settings t ∧ t.isActive .a09 = false
      ∧ Answers p 2 0 (if x = value.toInt then .ok else .clamped) [] s t := by
  intro x
  have put : s.sto.settings.put (0 : Word).toNat value = some ({ s.sto.settings with dhwSetpoint := x }, x != value.toInt) := rfl
  obtain ⟨t, run, settings, marked, active, -, answers⟩ := settingAnswered (p := p) (a := 0) (slots := s.rlc.slots) on takes
    (by decide) (by decide) put rfl (fun y _ rlc => ⟨rfl, rfl, congrArg Rlc.slots rlc, fun _ => rfl⟩)
  refine ⟨t, run, settings, marked, active, ?_⟩
  by_cases same : x = value.toInt
  · rw [if_neg fun changed => bne_iff_ne.1 changed same] at answers
    rw [if_pos same]
    exact answers
  · rw [if_pos (bne_iff_ne.2 same)] at answers
    rw [if_neg same]
    exact answers

/-- R150: a disabled slot that is enabled begins to search. -/
theorem takeSlotSetting_searching (n : RoomSlot) (z : Option Zone) (disabled : (x.rlc.slots.get n).state = .disabled) :
    TakesSlot (x.rlc.slots.set n { x.rlc.slots.get n with
      enable := true, zone := z, state := .searching, misses := 0, lastReset := false }) x (x.takeSlotSetting n ⟨true, z⟩) := by
  have made : x.takeSlotSetting n ⟨true, z⟩ = (let u := (x.slotSet n ⟨true, z⟩).slotSearching n
      { u with dta := u.dta.put (.room n) ((u.dta.table.room.get n).map fun e => { e with zone := z }) }) := by
    rw [takeSlotSetting_eq, disabled]
    rfl
  rw [made]
  refine ⟨rfl, rfl, by cases n <;> rfl, fun q => ?_⟩
  have posted := Prt.post_frame (((x.slotSet n ⟨true, z⟩).setSlotRecord n { (x.slotSet n ⟨true, z⟩).rlc.slots.get n with
    state := .searching, misses := 0, lastReset := false }).prt) (.slot n .searching)
  change (Prt.post _ _).portRecord q = _
  rw [posted]
  cases q <;> rfl

/-- R150, R179: the word that enables slot 1. -/
theorem slotEnabled_searches (on : s.powered = true) (takes : (s.prt.portRecord p).frame.Takes)
    (disabled : s.rlc.slots.slot1.state = .disabled) :
    ∃ t, exec (.settingsWrite p (.address 0x17) false [0x101]) s = .next t
      ∧ t.sto.settings.slots = { s.sto.settings.slots with slot1 := ⟨true, some .zone1⟩ } ∧ Marked .settings t
      ∧ t.rlc.slots.slot1 = { s.rlc.slots.slot1 with
          enable := true, zone := some .zone1, state := .searching, misses := 0, lastReset := false }
      ∧ t.rlc.slots.slot2 = s.rlc.slots.slot2 ∧ Answers p 2 0x17 .ok [] s t := by
  have put : s.sto.settings.put (0x17 : Word).toNat 0x101
      = some ({ s.sto.settings with slots := { s.sto.settings.slots with slot1 := ⟨true, some .zone1⟩ } }, false) := rfl
  obtain ⟨t, run, settings, marked, -, slots, answers⟩ := settingAnswered (p := p) (a := 0x17) (w := 0x101) on takes
    (by decide) (by decide) put rfl (slots := s.rlc.slots.set .slot1 { s.rlc.slots.get .slot1 with
      enable := true, zone := some .zone1, state := .searching, misses := 0, lastReset := false })
    (fun y new rlc => by
      have searching := takeSlotSetting_searching (x := y) .slot1 (some .zone1) (by rw [rlc]; exact disabled)
      have enabled : y.takeSlot (slotOfSetting (0x17 : Word).toNat) = y.takeSlotSetting .slot1 ⟨true, some .zone1⟩ := by
        change y.takeSlotSetting .slot1 (y.sto.settings.slots.get .slot1) = _
        rw [new]
        rfl
      rw [enabled, ← rlc]
      exact searching)
  refine ⟨t, run, by rw [settings], marked, by rw [slots]; rfl, by rw [slots]; rfl, answers⟩

end Sys2Proof.Machine

/-! SUPPORT. The output test as the service port asks for it (R186, R187, R189). -/

namespace Sys2Proof.Machine

variable {c : Instr} {s t u v : State} {p : Port} {w : Word} {status : Status} {outcomes : List Byte}

/-! ### The test levels (R104) -/

/-- R104: the test levels of the five channels that a test can force. -/
def Ocu.levels (o : Ocu) : Option Nat × Option Nat × Option Nat × Option Nat × Option Nat :=
  (o.fan.testLevel, o.pump.testLevel, o.diverter.testLevel, o.zone1.testLevel, o.zone2.testLevel)

theorem Ocu.level_of_levels {o o' : Ocu} (same : o'.levels = o.levels) (c : TestChannel) :
    (o'.get (testTarget c)).testLevel = (o.get (testTarget c)).testLevel := by
  simp only [Ocu.levels, Prod.mk.injEq] at same
  obtain ⟨fan, pump, diverter, zone1, zone2⟩ := same
  cases c
  case fan => exact fan
  case pump => exact pump
  case diverter => exact diverter
  case zone1 => exact zone1
  case zone2 => exact zone2

theorem takeFan_level (r : ChannelRecord) (target : Nat) : (r.takeFan target).testLevel = r.testLevel := by
  unfold ChannelRecord.takeFan
  split
  · rfl
  · split <;> rfl

theorem commandFan_levels (o : Ocu) (target : Nat) : (o.commandFan target).levels = o.levels := by
  unfold Ocu.commandFan Ocu.levels
  dsimp only
  split
  · rfl
  · rw [takeFan_level]

theorem closeValve_levels (o : Ocu) (g : GasValve) : (o.closeValve g).levels = o.levels := by
  unfold Ocu.closeValve
  dsimp only
  split <;> cases g <;> rfl

theorem commandPump_levels (o : Ocu) (r : PumpRequest) : (o.commandPump r).levels = o.levels := by
  unfold Ocu.commandPump
  split
  · rfl
  · dsimp only
    split
    · rfl
    · cases r <;> rfl

theorem commandSteady_level (r : ChannelRecord) (energised : Bool) : (r.commandSteady energised).testLevel = r.testLevel := by
  unfold ChannelRecord.commandSteady
  dsimp only
  split <;> rfl

theorem driveOutputs_levels (s : State) : s.driveOutputs.ocu.levels = s.ocu.levels := by
  rw [← commandPump_levels s.ocu s.dta.plan.pump]
  unfold Ocu.levels State.driveOutputs
  dsimp only
  rw [commandSteady_level, commandSteady_level, commandSteady_level]

theorem setFanTarget_levels (s : State) (r : Nat) : (s.setFanTarget r).ocu.levels = s.ocu.levels := commandFan_levels _ _

theorem goto_levels (s : State) {q : SeqState} (shut : q.gasOpen = false) : (s.goto q).ocu.levels = s.ocu.levels := by
  rw [goto_eq_shutFor s shut, setFanTarget_levels]
  exact (closeValve_levels _ _).trans (closeValve_levels _ _)

theorem takeRate_levels (s : State) (r : Int × LimitReason) : (s.takeRate r).ocu.levels = s.ocu.levels := by
  rw [takeRate_eq]
  dsimp only
  split
  · rfl
  · split
    · exact setFanTarget_levels _ _
    · rfl

theorem applyCaps_levels (s : State) : s.applyCaps.ocu.levels = s.ocu.levels := by
  unfold State.applyCaps
  dsimp only
  split
  · exact takeRate_levels _ _
  · rfl

theorem serveMode_levels (s : State) : s.serveMode.ocu.levels = s.ocu.levels := by
  unfold State.serveMode
  split
  · cases s.dta.plan.mode <;> dsimp only
    · exact applyCaps_levels _
    · exact takeRate_levels _ _
  · rfl

theorem startBurn_levels (s : State) : s.startBurn.ocu.levels = s.ocu.levels := by
  have entered : (State.goto { s with bsq := s.bsq.beginBurn } .preCheck).ocu.levels = s.ocu.levels := goto_levels _ rfl
  unfold State.startBurn
  dsimp only
  split
  · exact (goto_levels _ rfl).trans entered
  · exact entered

theorem judgeRequest_levels (s : State) : s.judgeRequest.ocu.levels = s.ocu.levels := by
  rcases judgeRequest_cases s with same | ⟨-, -, burn⟩ | ⟨-, idle | post⟩
  · rw [same]
  · rw [burn, startBurn_levels]
  · rw [idle, goto_levels _ rfl]
  · rw [post, goto_levels _ rfl]

theorem judgePreCheck_levels (s : State) : s.judgePreCheck.ocu.levels = s.ocu.levels := by
  unfold State.judgePreCheck
  split
  · exact goto_levels _ rfl
  · rfl

/-- R104, R189: a channel that follows its owner is not forced as the event ends. -/
def KeepsFreed (s t : State) : Prop :=
  ∀ c, (s.ocu.get (testTarget c)).testLevel = none → (t.ocu.get (testTarget c)).testLevel = none

theorem KeepsFreed.of_levels (same : t.ocu.levels = s.ocu.levels) : KeepsFreed s t := fun c free =>
  (Ocu.level_of_levels same c).trans free

theorem endTest_keepsFreed (s : State) (cause : TestEnd) : KeepsFreed s (s.endTest cause) := by
  intro c free
  unfold State.endTest
  split
  · have freed (o : Ocu) (same : (o.get (testTarget c)).testLevel = none) :
        ((o.endTest cause).get (testTarget c)).testLevel = none := by
      have all := Ocu.unforceAll_testLevel o.test.listed o c (.inr same)
      cases c <;> exact all
    refine freed _ ?_
    split
    · cases c <;> exact free
    · exact free
  · exact free

theorem keepsFreed_stageKept : StageKept KeepsFreed where
  refl _ _ free := free
  trans h k c free := k c (h c free)
  guardTap _ := .of_levels rfl
  judgeKeepwarm _ := .of_levels rfl
  endTest := endTest_keepsFreed
  formTargets _ := .of_levels rfl
  evaluate _ := .of_levels rfl
  serveMode s := .of_levels (serveMode_levels s)
  applyCaps s := .of_levels (applyCaps_levels s)
  judgeRequest s := .of_levels (judgeRequest_levels s)
  judgePreCheck s := .of_levels (judgePreCheck_levels s)
  driveOutputs s := .of_levels (driveOutputs_levels s)
  drivePins _ := .of_levels rfl
  remark s := .of_levels (by rw [(remark_touches s).ocu (by decide)])
  startWrite s := .of_levels (by rw [(startWrite_touches s).ocu (by decide)])

/-- R46: a homing move goes on through the end of an event. -/
theorem keepsHoming_stageKept : StageKept fun s t => s.dta.homing = true → t.dta.homing = true where
  refl _ := id
  trans h k := k ∘ h
  guardTap s homing := by
    rw [guardTap_cases]
    split
    · exact homing
    · split <;> exact homing
  judgeKeepwarm s homing := by
    unfold State.judgeKeepwarm
    dsimp only
    split <;> split <;> exact homing
  endTest s cause homing := by
    unfold State.endTest
    split
    · dsimp only
      split
      · rfl
      · exact homing
    · exact homing
  formTargets _ := id
  evaluate _ := id
  serveMode s homing := by rw [(serveMode_touches s).dta (by decide)]; exact homing
  applyCaps s homing := by rw [(applyCaps_touches s).dta (by decide)]; exact homing
  judgeRequest s homing := by
    have leaves := judgeRequest_leaves s
    unfold LeavesDemand at leaves
    rw [leaves]
    exact homing
  judgePreCheck s homing := by
    have leaves := judgePreCheck_leaves s
    unfold LeavesDemand at leaves
    rw [leaves]
    exact homing
  driveOutputs _ := id
  drivePins _ := id
  remark s homing := by rw [(remark_touches s).dta (by decide)]; exact homing
  startWrite s homing := by rw [(startWrite_touches s).dta (by decide)]; exact homing

/-! ### A test that no demand meets (R187, R189) -/

/-- R187: what leaves a running test alone: IDLE, with no entry that asks and none that the keep-warm detector makes. -/
structure Quiet (s : State) : Prop where
  idle : s.bsq.state = .idle
  silent : ∀ src, s.dta.asks src = false
  absent : s.dta.table.keepwarm = none
  begins : s.keepwarmBegins = false

/-- R104, R187: the test and its levels. -/
structure KeepsForced (s t : State) : Prop where
  quiet : Quiet t
  test : t.ocu.test = s.ocu.test
  levels : t.ocu.levels = s.ocu.levels

theorem KeepsForced.refl (h : Quiet s) : KeepsForced s s := ⟨h, rfl, rfl⟩

theorem KeepsForced.trans (h : KeepsForced s t) (k : KeepsForced t u) : KeepsForced s u :=
  ⟨k.quiet, k.test.trans h.test, k.levels.trans h.levels⟩

/-- What a quiet part's conditions depend on. -/
theorem Quiet.congr (h : Quiet s) (bsq : t.bsq.state = s.bsq.state) (dta : t.dta.table = s.dta.table)
    (spacing : t.dta.spacing = s.dta.spacing) (settings : t.sto.settings = s.sto.settings) (ntc : t.mfe.ntc = s.mfe.ntc)
    (active : t.flt.active = s.flt.active) (lockout : t.flt.lockout = s.flt.lockout) : Quiet t := by
  have same : SameDemand s t := ⟨dta, spacing, settings, ntc, active, lockout⟩
  refine ⟨bsq.trans h.idle, fun src => (same.asks src).trans (h.silent src), by rw [dta]; exact h.absent, ?_⟩
  have begins : t.keepwarmBegins = s.keepwarmBegins := by
    unfold State.keepwarmBegins
    rw [same.outlet, same.asks, same.settings, same.scope, same.spacing]
  exact begins.trans h.begins

theorem Quiet.guardTap (h : Quiet s) : Quiet s.guardTap := by
  have asks (src : Source) : s.guardTap.dta.asks src = false := by
    rw [guardTap_cases]
    split
    · cases src
      case tap => rfl
      case room n => exact h.silent (.room n)
      case board => exact h.silent .board
      case service => exact h.silent .service
      case frost => exact h.silent .frost
      case keepwarm => exact h.silent .keepwarm
    · split <;> exact h.silent src
  have absent : s.guardTap.dta.table.keepwarm = none := by
    rw [guardTap_cases]
    split
    · exact h.absent
    · split <;> exact h.absent
  have spacing : s.guardTap.dta.spacing = s.dta.spacing := by
    rw [guardTap_cases]
    split
    · rfl
    · split <;> rfl
  have begins : s.guardTap.keepwarmBegins = s.keepwarmBegins := by
    have outlet : s.guardTap.outlet = s.outlet := rfl
    have scope : s.guardTap.scopeInForce = s.scopeInForce := rfl
    unfold State.keepwarmBegins
    rw [outlet, scope, spacing, asks, h.silent .tap]
    rfl
  exact ⟨h.idle, asks, absent, begins.trans h.begins⟩

theorem Quiet.detected (h : Quiet s) : s.guardTap.judgeKeepwarm.testMeetsDemand = s.guardTap := by
  have guarded := h.guardTap
  generalize s.guardTap = x at *
  have keepwarm : x.judgeKeepwarm = x := by
    unfold State.judgeKeepwarm
    rw [guarded.absent, guarded.begins]
    rfl
  have silent : x.dta.anyAsking = false := by
    refine List.any_eq_false.2 fun src _ => ?_
    rw [guarded.silent src]
    exact Bool.false_ne_true
  rw [keepwarm]
  exact if_neg (by rw [silent]; exact Bool.false_ne_true)

/-- R32, R36: a plan that nobody asks for has no burner request. -/
theorem Quiet.request (h : Quiet s) : s.evaluate.dta.plan.request = false := by
  have silent : s.evaluate.dta.chAsking = [] := List.filter_eq_nil_iff.2 fun src _ => by
    have asks : s.evaluate.dta.asks src = false := h.silent src
    rw [asks]
    exact Bool.false_ne_true
  have asks (src : Source) : s.evaluate.dta.asks src = false := h.silent src
  have mode : s.evaluate.chooseMode = .none := by
    unfold State.chooseMode
    rw [asks, asks, asks, silent]
    rfl
  cases request : s.evaluate.dta.plan.request
  · rfl
  · exact absurd mode ((evaluate_plan s).request request).2

theorem Quiet.replan (h : Quiet s) : KeepsForced s s.replan ∧ s.replan.dta.plan.request = false := by
  have planned : s.replan = s.guardTap.formTargets.evaluate := by
    unfold State.replan
    rw [h.detected]
  have guarded := h.guardTap
  rw [planned]
  have formed : Quiet s.guardTap.formTargets := guarded.congr rfl rfl rfl rfl rfl rfl rfl
  exact ⟨⟨formed.congr rfl rfl rfl rfl rfl rfl rfl, rfl, rfl⟩, formed.request⟩

/-- R187: outside RUNNING the plan's readers form no rate. -/
theorem served_notRunning (state : s.bsq.state ≠ .running) : s.serveMode.applyCaps =
    { s with fre := { s.fre with caps := s.formedCaps } } := by
  have served : s.serveMode = s := if_neg fun h => state h.1
  rw [served]
  exact if_neg fun h => state h.1

theorem judged_idle (state : s.bsq.state = .idle) (request : s.dta.plan.request = false) :
    s.judgeRequest.judgePreCheck = s := by
  have judged : s.judgeRequest = s := by
    unfold State.judgeRequest
    rw [request, state]
    rfl
  rw [judged]
  exact if_neg fun h => absurd (h.1.symm.trans state) nofun

theorem driveOutputs_test (s : State) : s.driveOutputs.ocu.test = s.ocu.test := commandPump_test s.ocu s.dta.plan.pump

theorem Quiet.round (h : Quiet s) : KeepsForced s s.round := by
  obtain ⟨planned, request⟩ := h.replan
  have rounds : s.round = State.driveOutputs { s.replan with fre := { s.replan.fre with caps := s.replan.formedCaps } } := by
    unfold State.round
    rw [served_notRunning (by rw [planned.quiet.idle]; exact nofun)]
    exact congrArg State.driveOutputs (judged_idle planned.quiet.idle request)
  rw [rounds]
  generalize s.replan = x at *
  refine planned.trans ⟨planned.quiet.congr rfl rfl rfl rfl rfl rfl rfl, ?_, ?_⟩
  · rw [driveOutputs_test]
  · rw [driveOutputs_levels]

/-- R187: a test that no demand meets goes on through the end of an event. -/
theorem Quiet.settle (h : Quiet s) : KeepsForced s s.settle := by
  have first := h.round
  have rounds := first.trans first.quiet.round
  unfold State.settle
  generalize s.round.round = x at rounds
  have written := writeStore_touches x.drivePins
  refine rounds.trans ⟨rounds.quiet.congr ?_ ?_ ?_ (writeStore_kept x.drivePins).2 ?_ ?_ ?_, ?_, ?_⟩
  · rw [written.bsq (by decide)]; rfl
  · rw [written.dta (by decide)]; rfl
  · rw [written.dta (by decide)]; rfl
  · rw [written.mfe (by decide)]; rfl
  · rw [written.flt (by decide)]; rfl
  · rw [written.flt (by decide)]; rfl
  · rw [written.ocu (by decide)]; rfl
  · rw [written.ocu (by decide)]; rfl

/-! ### The request (R186, R187) -/

/-- The command of an output test request. -/
def testCommand (channel level duration : Word) : PortCommand := ⟨6, .address 0x60, true, .inr [channel, level, duration]⟩

theorem writeWord_test (s : State) (x : Word × Word × Word) (w : Word) :
    s.writeWord .service 6 (some x) (0x60, w) = ⟨s, .ok, []⟩ ∧ s.writeWord .service 6 (some x) (0x61, w) = ⟨s, .ok, []⟩
      ∧ s.writeWord .service 6 (some x) (0x62, w) = s.requestTest x.1 x.2.1 x.2.2 := ⟨rfl, rfl, rfl⟩

/-- R186: the three words of a request make one. -/
theorem writeAll_test {channel level duration : Word} (requested : s.requestTest channel level duration = ⟨v, status, []⟩) :
    s.writeAll .service 6 [(0x60, channel), (0x61, level), (0x62, duration)]
      = (v.countValues .service [status], [.ok, .ok, status], []) := by
  have covered : coveredTest [(0x60, channel), (0x61, level), (0x62, duration)] = some (channel, level, duration) := rfl
  have kept (s : State) : s.countValues .service [.ok] = s := if_neg (by decide)
  obtain ⟨first, -, -⟩ := writeWord_test s (channel, level, duration) channel
  obtain ⟨-, second, -⟩ := writeWord_test s (channel, level, duration) level
  obtain ⟨-, -, third⟩ := writeWord_test s (channel, level, duration) duration
  refine (if_neg (by decide)).trans ?_
  rw [covered]
  simp only [State.writeWords, kept, first, second, third, requested]
  rfl

/-- R162, R186: a request is answered by what it comes to. -/
theorem exec_outputTest {channel level duration : Word} (on : s.powered = true) (takes : s.prt.service.frame.Takes)
    (requested : (s.opened .service (testCommand channel level duration) 0x63).requestTest channel level duration
      = ⟨v, status, []⟩) (all : statusOf [.ok, .ok, status] = status) (unlocked : status ≠ .noUnlock) :
    ∃ t, exec (.outputTestRequest channel level duration) s = .next t ∧ Follows (v.wordAnswered .service status []) t :=
  exec_effect (c := .outputTestRequest channel level duration) on rfl
    (portCommand_wordsAnswered (x := testCommand channel level duration) (data := [channel, level, duration])
      (statuses := [.ok, .ok, status]) takes rfl rfl (show (6 : BitVec 3) ≠ 7 by decide) (show mayWrite .service 6 = true by decide)
      (walk_within (space := 6) 3 0x60 (by decide)) (writeAll_test requested) all unlocked)

theorem listTest_mem (l : List (TestChannel × Nat)) (c : TestChannel) (level : Nat) : (c, level) ∈ listTest l c level := by
  unfold listTest
  split
  · next listed =>
    obtain ⟨x, m, same⟩ := List.any_eq_true.1 listed
    exact List.mem_map.2 ⟨x, m, if_pos (beq_iff_eq.1 same)⟩
  · exact List.mem_append_right _ (List.mem_singleton.2 rfl)

theorem force_level (o : Ocu) (c : TestChannel) (level : Nat) :
    ((o.force c level).get (testTarget c)).testLevel = some level := by
  cases c
  case fan => exact takeFan_level _ _
  case pump =>
    change (if level = 0 then _ else _ : ChannelRecord).testLevel = _
    split <;> rfl
  all_goals rfl

theorem force_test (o : Ocu) (c : TestChannel) (level : Nat) : (o.force c level).test = o.test := by
  cases c <;> rfl

/-- R187: the channel of a request that is taken is listed and forced. -/
theorem startTest_starts (s : State) (c : TestChannel) (level n : Nat) :
    (s.startTest c level n).ocu.test.timer = some (min 60 n * 1000) ∧ (c, level) ∈ (s.startTest c level n).ocu.test.listed
      ∧ ((s.startTest c level n).ocu.get (testTarget c)).testLevel = some level := by
  refine ⟨rfl, ?_, ?_⟩
  · change (c, level) ∈ listTest (s.ocu.force c level).test.listed c level
    exact listTest_mem _ _ _
  · rw [← force_level s.ocu c level]
    cases c <;> rfl

theorem testMade {channel level duration : Word} {c : TestChannel} (on : s.powered = true) (takes : s.prt.service.frame.Takes)
    (named : testChannelOf channel = some c) (long : 1 ≤ duration.toNat) (idle : s.bsq.state = .idle) (noPurge : s.bsq.purgeLeft = 0)
    (free : s.locked = false) (silent : s.dta.anyAsking = false) (absent : s.dta.table.keepwarm = none)
    (begins : s.keepwarmBegins = false) :
    ∃ t, exec (.outputTestRequest channel level duration) s = .next t
      ∧ t.ocu.test.timer = some (min 60 duration.toNat * 1000) ∧ (c, (testLevelOf c level).1) ∈ t.ocu.test.listed
      ∧ (t.ocu.get (testTarget c)).testLevel = some (testLevelOf c level).1
      ∧ Answers .service 6 0x63 (if (testLevelOf c level).2 ∨ 60 < duration.toNat then .clamped else .ok) [] s t := by
  have quiet : Quiet s := ⟨idle, fun src => Bool.eq_false_iff.2 fun asks => Bool.false_ne_true (silent.symm.trans (asks_of_mem asks)),
    absent, begins⟩
  have runs : duration ≠ 0 := by rintro rfl; exact absurd long (by decide)
  have free' : (s.opened .service (testCommand channel level duration) 0x63).testBusy c = false := by
    change (s.bsq.state != .idle || s.dta.anyAsking || s.locked || (c == .fan && s.bsq.purgeLeft != 0)) = false
    rw [idle, silent, free, noPurge]
    cases c <;> rfl
  have requested : (s.opened .service (testCommand channel level duration) 0x63).requestTest channel level duration
      = ⟨((s.opened .service (testCommand channel level duration) 0x63).startTest c (testLevelOf c level).1 duration.toNat).settle,
        if (testLevelOf c level).2 ∨ 60 < duration.toNat then .clamped else .ok, []⟩ := by
    unfold State.requestTest
    rw [if_neg runs, named]
    dsimp only
    rw [free', if_neg Bool.false_ne_true]
    unfold taken
    simp only [Bool.or_eq_true, decide_eq_true_eq]
  have quietO : Quiet ((s.opened .service (testCommand channel level duration) 0x63).startTest c (testLevelOf c level).1
      duration.toNat) := quiet.congr rfl rfl rfl rfl rfl rfl rfl
  obtain ⟨timer, listed, forced⟩ := startTest_starts (s.opened .service (testCommand channel level duration) 0x63) c
    (testLevelOf c level).1 duration.toNat
  have ports (q : Port) : ((s.opened .service (testCommand channel level duration) 0x63).startTest c (testLevelOf c level).1
    duration.toNat).prt.portRecord q = (s.opened .service (testCommand channel level duration) 0x63).prt.portRecord q := rfl
  obtain ⟨t, run, follows⟩ := exec_outputTest on takes requested (by split <;> rfl) (by split <;> exact nofun)
  clear requested
  generalize State.startTest _ c _ _ = x at follows quietO timer listed forced ports
  have ends := settle_endsFrom x
  have kept := quietO.settle
  generalize x.settle = v at follows ends kept
  have answered := (wordAnswered_frame v .service (if (testLevelOf c level).2 ∨ 60 < duration.toNat then .clamped else .ok) []).1
  have reply : KeepsReply .service (s.opened .service (testCommand channel level duration) 0x63) v :=
    .of_ports fun q => (ends.portRecord q).trans (ports q)
  have answers := reply.answers (if (testLevelOf c level).2 ∨ 60 < duration.toNat then .clamped else .ok) []
  generalize v.wordAnswered .service _ [] = y at follows answered answers
  have quietY : Quiet y := kept.quiet.congr (by rw [answered.bsq (by decide)]) (by rw [answered.dta (by decide)])
    (by rw [answered.dta (by decide)]) (by rw [answered.sto (by decide)]) (by rw [answered.mfe (by decide)])
    (by rw [answered.flt (by decide)]) (by rw [answered.flt (by decide)])
  have last : KeepsForced y t := follows.settled ▸ quietY.settle
  have ocu : y.ocu = v.ocu := answered.ocu (by decide)
  have test : t.ocu.test = x.ocu.test := by rw [last.test, ocu, kept.test]
  have levels : t.ocu.levels = x.ocu.levels := by rw [last.levels, ocu, kept.levels]
  exact ⟨t, run, by rw [test, timer], by rw [test]; exact listed, (Ocu.level_of_levels levels c).trans forced,
    answers.ends follows.ends⟩

theorem testRefused {channel level duration : Word} (on : s.powered = true) (takes : s.prt.service.frame.Takes)
    (runs : duration ≠ 0) : ∃ u t, exec (.outputTestRequest channel level duration) s = .next t ∧ Follows u t
      ∧ (testChannelOf channel = none → Touches [.prt] s u ∧ Answers .service 6 0x63 .value [] s u)
      ∧ (testChannelOf channel ≠ none → s.bsq.state ≠ .idle ∨ s.dta.anyAsking = true ∨ s.locked = true →
          Touches [.prt] s u ∧ Answers .service 6 0x63 .busy [] s u) := by
  have refused (status : Status) : Touches [.prt] s
        ((s.opened .service (testCommand channel level duration) 0x63).wordAnswered .service status [])
      ∧ Answers .service 6 0x63 status [] s
        ((s.opened .service (testCommand channel level duration) 0x63).wordAnswered .service status []) :=
    ⟨wordAnswered_touches (.refl _ _) (List.Subset.refl _), (KeepsReply.refl _).answers (x := testCommand channel level duration) _ _⟩
  cases named : testChannelOf channel with
  | none =>
    have requested : (s.opened .service (testCommand channel level duration) 0x63).requestTest channel level duration
        = ⟨s.opened .service (testCommand channel level duration) 0x63, .value, []⟩ := by
      unfold State.requestTest
      rw [if_neg runs, named]
      rfl
    obtain ⟨t, run, follows⟩ := exec_outputTest on takes requested rfl nofun
    exact ⟨_, t, run, follows, fun _ => refused .value, fun isSome => absurd rfl isSome⟩
  | some c =>
    by_cases busy : (s.opened .service (testCommand channel level duration) 0x63).testBusy c = true
    · have requested : (s.opened .service (testCommand channel level duration) 0x63).requestTest channel level duration
          = ⟨s.opened .service (testCommand channel level duration) 0x63, .busy, []⟩ := by
        unfold State.requestTest
        rw [if_neg runs, named]
        dsimp only
        rw [if_pos busy]
        rfl
      obtain ⟨t, run, follows⟩ := exec_outputTest on takes requested rfl nofun
      exact ⟨_, t, run, follows, nofun, fun _ _ => refused .busy⟩
    · have free : ¬ (s.bsq.state ≠ .idle ∨ s.dta.anyAsking = true ∨ s.locked = true) := by
        rintro h
        refine busy ?_
        change (s.bsq.state != .idle || s.dta.anyAsking || s.locked || (c == .fan && s.bsq.purgeLeft != 0)) = true
        rcases h with state | asks | locked
        · rw [bne_iff_ne.2 state]; rfl
        · rw [asks]; simp
        · rw [locked]; simp
      obtain ⟨t, run, follows⟩ := exec_effect (c := .outputTestRequest channel level duration) on rfl rfl
      exact ⟨_, t, run, follows, nofun, fun _ h => absurd h free⟩

theorem testEnded {channel level : Word} (on : s.powered = true) (takes : s.prt.service.frame.Takes) :
    ∃ t, exec (.outputTestRequest channel level 0) s = .next t ∧ Answers .service 6 0x63 .ok [] s t
      ∧ (s.ocu.test.timer.isSome = true → t.ocu.test = ⟨[], none, .ended⟩
          ∧ ∀ c ∈ s.ocu.test.listed.map Prod.fst, (t.ocu.get (testTarget c)).testLevel = none)
      ∧ (s.ocu.test.timer = none → t.ocu.test = s.ocu.test)
      ∧ (s.ocu.test.timer.isSome = true → .diverter ∈ s.ocu.test.listed.map Prod.fst → t.dta.homing = true) := by
  have requested : (s.opened .service (testCommand channel level 0) 0x63).requestTest channel level 0
      = ⟨((s.opened .service (testCommand channel level 0) 0x63).endTest .ended).settle, .ok, []⟩ := if_pos rfl
  obtain ⟨t, run, follows⟩ := exec_outputTest on takes requested rfl nofun
  clear requested
  have ended (runs : s.ocu.test.timer.isSome = true) := endTest_ended (s := s.opened .service (testCommand channel level 0) 0x63)
    runs .ended
  have rests (idle : s.ocu.test.timer = none) : (s.opened .service (testCommand channel level 0) 0x63).endTest .ended
      = s.opened .service (testCommand channel level 0) 0x63 :=
    endTest_rest (s := s.opened .service (testCommand channel level 0) 0x63) idle .ended
  have ports := (endTest_endsFrom (s.opened .service (testCommand channel level 0) 0x63) .ended).portRecord
  have timer := endTest_timer (s.opened .service (testCommand channel level 0) 0x63) .ended
  have ocu : (s.opened .service (testCommand channel level 0) 0x63).ocu = s.ocu := rfl
  generalize (s.opened .service (testCommand channel level 0) 0x63).endTest .ended = x at follows ended rests ports timer
  have ends := settle_endsFrom x
  have freed := keepsFreed_stageKept.settle x
  have homing := keepsHoming_stageKept.settle x
  have test := keepsTest_stageKept.settle x
  generalize x.settle = v at follows ends freed homing test
  have reply : KeepsReply .service (s.opened .service (testCommand channel level 0) 0x63) v :=
    .of_ports fun q => (ends.portRecord q).trans (ports q)
  have answers := reply.answers .ok []
  have answered := (wordAnswered_frame v .service .ok []).1
  generalize v.wordAnswered .service .ok [] = y at follows answered answers
  have freed' : KeepsFreed y t := follows.settled ▸ keepsFreed_stageKept.settle y
  have homing' : y.dta.homing = true → t.dta.homing = true := follows.settled ▸ keepsHoming_stageKept.settle y
  have test' : KeepsTest y t := follows.settled ▸ keepsTest_stageKept.settle y
  have ocuY : y.ocu = v.ocu := answered.ocu (by decide)
  have dtaY : y.dta = v.dta := answered.dta (by decide)
  have same : t.ocu.test = x.ocu.test := by
    rw [test' (by rw [ocuY, test timer]; exact timer), ocuY, test timer]
  refine ⟨t, run, answers.ends follows.ends, fun runs => ⟨same.trans (ended runs).test, fun c listed => ?_⟩, fun idle => ?_,
    fun runs listed => ?_⟩
  · refine freed' c ?_
    rw [ocuY]
    exact freed c ((ended runs).freed c listed)
  · rw [same, rests idle, ocu]
  · refine homing' ?_
    rw [dtaY]
    exact homing (by rw [(ended runs).homes listed]; rfl)

/-- Settles O60: the entries, the settings and the output test, each from what its words do before they are answered. -/
theorem demandsSettingsAndTestsAreTaken : Obligations.DemandsSettingsAndTestsAreTaken :=
  ⟨fun _ asks flow setpoint actual zone on takes supervised => boardWritten asks flow setpoint actual zone on takes supervised,
    fun _ asks on takes alone => boardDenied asks on takes alone,
    fun _ _ selection on takes free absent low high => serviceSelected selection on takes free absent low high,
    fun _ _ rate on takes free absent => serviceRated rate on takes free absent,
    fun _ _ value on takes => setpointTaken value on takes, fun _ _ on takes disabled => slotEnabled_searches on takes disabled,
    fun _ _ _ _ _ on takes named long idle noPurge free silent absent begins =>
      testMade on takes named long idle noPurge free silent absent begins,
    fun _ _ _ _ on takes runs => testRefused on takes runs, fun _ _ _ on takes => testEnded on takes⟩

end Sys2Proof.Machine

/-! SUPPORT. Raises and clears as the history takes them (R123, R124, R131 to R134). -/

namespace Sys2Proof.Machine

variable {s t u v : State} {k : FaultKey} {i : Nat} {r : HistoryRecord}

/-! ### A raise (R131, R133) -/

/-- R131: the slot of a record that is created. -/
theorem createRecord_creates (s : State) (r : HistoryRecord) (low : s.flt.lastCreation < 4294967295) :
    (s.createRecord r).flt.ring = s.flt.ring.set (slotForNew s.flt.ring) ⟨some { r with number := s.flt.lastCreation + 1 }, none⟩
      ∧ (s.createRecord r).flt.lastCreation = s.flt.lastCreation + 1
      ∧ StoreItem.slot (slotForNew s.flt.ring) ∈ (s.createRecord r).sto.dirty := by
  have number : nextNumber s.flt.lastCreation = s.flt.lastCreation + 1 := Nat.min_eq_right (by omega)
  rw [← number]
  exact ⟨rfl, rfl, mem_markItem _ _⟩

/-- R131: a key with no RAISED record of it in the ring takes a new one. -/
theorem recordRaise_new {during : Bool} (built : s.flt.ringBuilt = true)
    (unraised : newestSlot (fun r => r.raises k) s.flt.ring = none) :
    s.recordRaise k during = s.createRecord (s.raisedRecord k during) := by
  unfold State.recordRaise
  rw [if_pos built, unraised]

/-- R133: the newest RAISED record of a key, whether it takes the raise. -/
theorem recordRaise_found {during : Bool} (built : s.flt.ringBuilt = true)
    (found : newestSlot (fun r => r.raises k) s.flt.ring = some (i, r)) : s.recordRaise k during =
      if mergesInto r (noteAt s.flt.ring i) during s.seconds = true then s.putSlot i ⟨some r.merge, none⟩
      else s.createRecord (s.raisedRecord k during) := by
  unfold State.recordRaise
  rw [if_pos built, found]

/-- R131, R133: where a slot is empty, a raise leaves the slots of the other keys' records. -/
theorem recordRaise_spares {during : Bool} {x : HistorySlot} (held : s.flt.ring[i]? = some x) (record : x.record = some r)
    (other : r.raises k = false) (room : ∃ y ∈ s.flt.ring, y.record = none) :
    (s.recordRaise k during).flt.ring[i]? = some x := by
  have created : (s.createRecord (s.raisedRecord k during)).flt.ring[i]? = some x := by
    refine (List.getElem?_set_ne fun same => ?_).trans held
    cases empty : emptySlot s.flt.ring 0 with
    | none =>
      obtain ⟨y, m, isEmpty⟩ := room
      have full := emptySlot_none.1 empty y m
      rw [isEmpty] at full
      exact nomatch full
    | some j =>
      obtain ⟨-, y, here, isEmpty⟩ := emptySlot_mem empty
      have slot : slotForNew s.flt.ring = i := same
      rw [slotForNew_empty empty] at slot
      rw [slot, Nat.sub_zero, held] at here
      rw [Option.some.inj here, isEmpty] at record
      exact nomatch record
  unfold State.recordRaise
  split
  · split
    · next y found =>
      split
      · refine (List.getElem?_set_ne fun same => ?_).trans held
        obtain ⟨z, here, isRecord, fits⟩ := newestSlot_mem (i := y.1) (r := y.2) found
        rw [show y.1 = i from same, held] at here
        rw [← Option.some.inj here, record] at isRecord
        rw [← Option.some.inj isRecord, other] at fits
        exact nomatch fits
      · exact created
    · exact created
  · exact held

/-- The part with a key in its place in the active fault set. -/
def State.withKey (s : State) (k : FaultKey) : State := { s with flt := { s.flt with active := addKey s.flt.active k } }

theorem enterKey_flt (absent : s.isActive k = false) : (s.enterKey k).flt = ((s.withKey k).recordRaise k false).flt
    ∧ (s.enterKey k).sto = ((s.withKey k).recordRaise k false).sto := by
  have entered : s.enterKey k = ((s.withKey k).recordRaise k false).post (.raised k) := if_neg (by rw [absent]; exact nofun)
  rw [entered]
  exact ⟨rfl, rfl⟩

/-- R131: the new record of a key that enters the set. -/
theorem enterKey_new (absent : s.isActive k = false) (built : s.flt.ringBuilt = true)
    (unraised : newestSlot (fun r => r.raises k) s.flt.ring = none) (low : s.flt.lastCreation < 4294967295) :
    (s.enterKey k).flt.lastCreation = s.flt.lastCreation + 1
      ∧ (s.enterKey k).flt.ring = s.flt.ring.set (slotForNew s.flt.ring) ⟨some
          { kind := .raised, key := k, source := none, seqState := s.bsq.state, flow := s.flow, rate := s.reportedRate
            raiseStamp := s.minute, clearedStamp := none, count := 1, duringLockout := false
            number := s.flt.lastCreation + 1 }, none⟩
      ∧ StoreItem.slot (slotForNew s.flt.ring) ∈ (s.enterKey k).sto.dirty := by
  obtain ⟨flt, sto⟩ := enterKey_flt absent
  obtain ⟨ring, number, dirty⟩ := createRecord_creates (s.withKey k) ((s.withKey k).raisedRecord k false) low
  rw [flt, sto, recordRaise_new (s := s.withKey k) built unraised]
  exact ⟨number, ring, dirty⟩

theorem enterKey_again {sec : Nat} (absent : s.isActive k = false) (built : s.flt.ringBuilt = true)
    (found : newestSlot (fun r => r.raises k) s.flt.ring = some (i, r)) (note : noteAt s.flt.ring i = some sec)
    (during : r.duringLockout = false) (cleared : r.clearedStamp.isSome = true) (low : s.flt.lastCreation < 4294967295) :
    (s.seconds - sec ≤ 60 →
      (s.enterKey k).flt.ring = s.flt.ring.set i ⟨some { r with count := min 255 (r.count + 1), clearedStamp := none }, none⟩
        ∧ (s.enterKey k).flt.lastCreation = s.flt.lastCreation) ∧
    (60 < s.seconds - sec → (s.enterKey k).flt.lastCreation = s.flt.lastCreation + 1) := by
  obtain ⟨flt, -⟩ := enterKey_flt absent
  have raised := recordRaise_found (s := s.withKey k) (during := false) built found
  have merges : mergesInto r (noteAt s.flt.ring i) false s.seconds = decide (s.seconds - sec ≤ 60) := by
    unfold mergesInto
    rw [note, during, cleared]
    rfl
  change _ = if mergesInto r (noteAt s.flt.ring i) false s.seconds = true then _ else _ at raised
  rw [merges] at raised
  rw [flt]
  refine ⟨fun soon => ?_, fun late => ?_⟩
  · rw [raised, if_pos (decide_eq_true soon)]
    exact ⟨rfl, rfl⟩
  · rw [raised, if_neg fun soon => absurd (of_decide_eq_true soon) (by omega)]
    exact (createRecord_creates (s.withKey k) _ low).2.1

/-- R123, R131: a locking key raised while another is the cause is written to the history alone. -/
theorem raiseLocking_during {l : Lockout} (held : s.flt.lockout = some l) (absent : s.isActive k = false) :
    (s.raiseLocking k).flt.active = s.flt.active ∧ (s.raiseLocking k).flt.lockout = some l
      ∧ (s.raiseLocking k).prt = s.prt ∧ Touches [.flt, .sto] s (s.raiseLocking k)
      ∧ (s.flt.ringBuilt = true → newestSlot (fun r => r.raises k) s.flt.ring = none → s.flt.lastCreation < 4294967295 →
          (s.raiseLocking k).flt.lastCreation = s.flt.lastCreation + 1
            ∧ StoreItem.slot (slotForNew s.flt.ring) ∈ (s.raiseLocking k).sto.dirty) := by
  have locked : s.locked = true := by
    unfold State.locked
    rw [held]
    rfl
  have recorded : s.raiseLocking k = s.recordRaise k true := by
    unfold State.raiseLocking
    rw [if_pos locked, absent]
    rfl
  rw [recorded]
  refine ⟨recordRaise_active s k true, ?_, recordRaise_prt s k true, recordRaise_touches s k true, fun built unraised low => ?_⟩
  · exact (congrArg (·.2.1) (recordRaise_kept s k true)).trans held
  · obtain ⟨-, number, dirty⟩ := createRecord_creates s (s.raisedRecord k true) low
    rw [recordRaise_new built unraised]
    exact ⟨number, dirty⟩

/-- R131, R132: in a ring full of other records the oldest one's slot is taken. -/
theorem enterKey_oldest {x : HistorySlot} (absent : s.isActive k = false) (built : s.flt.ringBuilt = true)
    (low : s.flt.lastCreation < 4294967295)
    (full : ∀ y ∈ s.flt.ring, ∃ q, y.record = some q ∧ (q.kind = .raised → q.key ≠ k)) (held : s.flt.ring[i]? = some x)
    (record : x.record = some r) (oldest : ∀ j y q, s.flt.ring[j]? = some y → y.record = some q → j ≠ i → r.number < q.number) :
    (s.enterKey k).flt.lastCreation = s.flt.lastCreation + 1
      ∧ (s.enterKey k).flt.ring = s.flt.ring.set i ⟨some
          { kind := .raised, key := k, source := none, seqState := s.bsq.state, flow := s.flow, rate := s.reportedRate
            raiseStamp := s.minute, clearedStamp := none, count := 1, duringLockout := false
            number := s.flt.lastCreation + 1 }, none⟩
      ∧ StoreItem.slot i ∈ (s.enterKey k).sto.dirty := by
  have unraised : newestSlot (fun r => r.raises k) s.flt.ring = none := by
    refine Option.eq_none_iff_forall_ne_some.2 fun y found => ?_
    obtain ⟨z, there, isRecord, fits⟩ := newestSlot_mem (i := y.1) (r := y.2) found
    obtain ⟨q, isQ, other⟩ := full z (List.mem_of_getElem? there)
    obtain rfl := Option.some.inj (isQ.symm.trans isRecord)
    obtain ⟨raised, key⟩ := Bool.and_eq_true_iff.1 fits
    exact other (beq_iff_eq.1 raised) (beq_iff_eq.1 key)
  have noRoom : emptySlot s.flt.ring 0 = none := emptySlot_none.2 fun y m => by
    obtain ⟨q, isQ, -⟩ := full y m
    rw [isQ]
    rfl
  have slot : slotForNew s.flt.ring = i :=
    slotForNew_full noRoom ((bestSlot_least held record oldest).trans (by rw [Nat.zero_add]))
  have new := enterKey_new absent built unraised low
  rw [slot] at new
  exact new

/-! ### A clear (R134) -/

theorem leaveKey_flt (present : s.isActive k = true) :
    let v : State := { s with flt := { s.flt with active := dropKey s.flt.active k } }
    (s.leaveKey k).flt = (v.fillCleared k).flt ∧ (s.leaveKey k).sto = (v.fillCleared k).sto := by
  intro v
  have left : s.leaveKey k = (v.fillCleared k).post (.cleared k) := if_pos present
  rw [left]
  exact ⟨rfl, rfl⟩

/-- R134: the record that a key leaving the set is stamped in. -/
theorem leaveKey_fills (present : s.isActive k = true) (built : s.flt.ringBuilt = true)
    (found : newestSlot (fun r => r.raises k && r.clearedStamp.isNone) s.flt.ring = some (i, r)) :
    (s.leaveKey k).flt.ring = s.flt.ring.set i ⟨some { r with clearedStamp := some s.minute }, some s.seconds⟩
      ∧ StoreItem.slot i ∈ (s.leaveKey k).sto.dirty := by
  obtain ⟨flt, sto⟩ := leaveKey_flt present
  have filled := fillCleared_built (s := { s with flt := { s.flt with active := dropKey s.flt.active k } }) (k := k) built
  change _ = State.putAll _ _ (newestSlot (fun r => r.raises k && r.clearedStamp.isNone) s.flt.ring).toList at filled
  rw [found] at filled
  rw [flt, sto, filled]
  exact ⟨rfl, mem_markItem _ _⟩

theorem leaveKey_lost (present : s.isActive k = true) (built : s.flt.ringBuilt = true)
    (lost : newestSlot (fun r => r.raises k && r.clearedStamp.isNone) s.flt.ring = none) :
    (s.leaveKey k).flt.ring = s.flt.ring ∧ (s.leaveKey k).sto = s.sto := by
  obtain ⟨flt, sto⟩ := leaveKey_flt present
  have filled := fillCleared_built (s := { s with flt := { s.flt with active := dropKey s.flt.active k } }) (k := k) built
  change _ = State.putAll _ _ (newestSlot (fun r => r.raises k && r.clearedStamp.isNone) s.flt.ring).toList at filled
  rw [lost] at filled
  rw [flt, sto, filled]
  exact ⟨rfl, rfl⟩

/-! ### F09 in place of another cause (R124) -/

/-- R124, R134: what F09 in place of another cause leaves of the record of that cause. -/
theorem raiseF09_stamps {l : Lockout} (held : s.flt.lockout = some l) (other : l.cause ≠ .f09)
    (present : s.isActive l.cause = true) (absent : s.isActive .f09 = false) (built : s.flt.ringBuilt = true)
    (found : newestSlot (fun r => r.raises l.cause && r.clearedStamp.isNone) s.flt.ring = some (i, r))
    (room : ∃ x ∈ s.flt.ring, x.record = none) :
    s.raiseF09.flt.lockout = some ⟨.f09, .startCheck, 0, s.minute⟩ ∧ s.raiseF09.isActive .f09 = true
      ∧ s.raiseF09.isActive l.cause = false ∧ StoreItem.lockout ∈ s.raiseF09.sto.dirty
      ∧ s.raiseF09.flt.ring[i]? = some ⟨some { r with clearedStamp := some s.minute }, some s.seconds⟩ := by
  obtain ⟨x, here, record, fits⟩ := newestSlot_mem found
  obtain ⟨raises, -⟩ := Bool.and_eq_true_iff.1 fits
  obtain ⟨ring, -⟩ := leaveKey_fills present built found
  have clock : (s.leaveKey l.cause).minute = s.minute := by
    unfold State.minute
    rw [(leaveKey_leaves s l.cause).sto]
  have replaced : (s.replaceCause l.cause).flt.ring = (s.leaveKey l.cause).flt.ring := rfl
  have keys (j : FaultKey) : (s.replaceCause l.cause).isActive j = (s.isActive j && j != l.cause) := leaveKey_isActive s l.cause j
  have lockout : (s.replaceCause l.cause).flt.lockout = some ⟨.f09, .startCheck, 0, s.minute⟩ := by
    rw [← clock]
    rfl
  rw [raiseF09_replaces held other]
  generalize s.replaceCause l.cause = v at *
  have entered := enterKey_enters v .f09
  have active := enterKey_isActive v .f09
  obtain ⟨flt, -⟩ := enterKey_flt (s := v) (k := .f09) (by rw [keys, absent]; rfl)
  refine ⟨?_, ?_, ?_, mem_markItem _ _, ?_⟩
  · change (v.enterKey .f09).flt.lockout = _
    rw [entered.flt]
    exact lockout
  · exact (active .f09).trans (by simp)
  · refine (active l.cause).trans ?_
    rw [keys]
    simp [other]
  · change (v.enterKey .f09).flt.ring[i]? = _
    rw [flt]
    have stamped : v.flt.ring[i]? = some ⟨some { r with clearedStamp := some s.minute }, some s.seconds⟩ := by
      rw [replaced, ring]
      exact List.getElem?_set_self (List.getElem?_eq_some_iff.1 here).1
    refine recordRaise_spares (s := v.withKey .f09) stamped rfl ?_ ?_
    · obtain ⟨-, key⟩ := Bool.and_eq_true_iff.1 raises
      refine Bool.and_eq_false_iff.2 (.inr (beq_eq_false_iff_ne.2 ?_))
      rw [show r.key = l.cause from beq_iff_eq.1 key]
      exact other
    · obtain ⟨y, m, empty⟩ := room
      obtain ⟨j, there⟩ := List.mem_iff_getElem?.1 m
      have apart : i ≠ j := by
        rintro rfl
        rw [Option.some.inj (there.symm.trans here), record] at empty
        exact nomatch empty
      refine ⟨y, List.mem_iff_getElem?.2 ⟨j, ?_⟩, empty⟩
      change v.flt.ring[j]? = _
      rw [replaced, ring]
      exact (List.getElem?_set_ne apart).trans there

/-- Settles O21: each raise and each clear by the slot that it writes. -/
theorem raisesAreWrittenToTheHistory : Obligations.RaisesAreWrittenToTheHistory := by
  refine ⟨fun s k i absent built unraised empty low => ?_,
    fun s k i sec r absent built found note during cleared low => enterKey_again absent built found note during cleared low,
    fun s k l held absent => raiseLocking_during held absent,
    fun s k i x r absent built low full held record oldest => enterKey_oldest absent built low full held record oldest,
    fun s k present built => ⟨leaveKey_leaves s k, fun i r found => leaveKey_fills present built found,
      fun lost => leaveKey_lost present built lost⟩,
    fun s l i r held other present absent built found _ room => raiseF09_stamps held other present absent built found room⟩
  have new := enterKey_new absent built unraised low
  rw [slotForNew_empty empty] at new
  exact ⟨enterKey_enters s k, new⟩

end Sys2Proof.Machine

/-! SUPPORT. The start-up reads: what each step of the hand-over gives and leaves (R131, R136, R149, R175, R176, R180, R181). -/

namespace Sys2Proof.Machine

variable {s t u v : State} {k : FaultKey}

/-! ### What leaves the store (R122, R131) -/

/-- What the faults and the sequencer leave of the store: its contents, with its marks, and the ring as built or not. -/
structure KeepsStore (s t : State) : Prop where
  sto : t.sto = { s.sto with dirty := t.sto.dirty }
  marks : s.sto.dirty ⊆ t.sto.dirty
  built : t.flt.ringBuilt = s.flt.ringBuilt

namespace KeepsStore

theorem refl (s : State) : KeepsStore s s := ⟨rfl, List.Subset.refl _, rfl⟩

theorem trans (h : KeepsStore s t) (k : KeepsStore t u) : KeepsStore s u :=
  ⟨by rw [k.sto, h.sto], List.Subset.trans h.marks k.marks, k.built.trans h.built⟩

theorem of_same (sto : t.sto = s.sto) (built : t.flt.ringBuilt = s.flt.ringBuilt) : KeepsStore s t :=
  ⟨by rw [sto], by rw [sto]; exact List.Subset.refl _, built⟩

theorem of_touches {l : List Block} (h : Touches l s t) (sto : .sto ∉ l := by decide) (flt : .flt ∉ l := by decide) :
    KeepsStore s t := .of_same (h.sto sto) (by rw [h.flt flt])

end KeepsStore

theorem markDirty_keepsStore (s : State) (i : StoreItem) : KeepsStore s (s.markDirty i) := ⟨rfl, subset_markItem _ _, rfl⟩

theorem recordRaise_keepsStore (s : State) (k : FaultKey) (during : Bool) : KeepsStore s (s.recordRaise k during) :=
  ⟨recordRaise_sto s k during, recordRaise_dirty s k during, congrArg (·.2.2.2.2.2.1) (recordRaise_kept s k during)⟩

theorem enterKey_keepsStore (s : State) (k : FaultKey) : KeepsStore s (s.enterKey k) :=
  ⟨(enterKey_enters s k).sto, enterKey_dirty s k, by rw [(enterKey_enters s k).flt]⟩

theorem leaveKey_keepsStore (s : State) (k : FaultKey) : KeepsStore s (s.leaveKey k) :=
  ⟨(leaveKey_leaves s k).sto, leaveKey_dirty s k, by rw [(leaveKey_leaves s k).flt]⟩

theorem goto_keepsStore (s : State) (q : SeqState) : KeepsStore s (s.goto q) := .of_touches (goto_touches s q)

theorem beginLockout_keepsStore (s : State) (k : FaultKey) : KeepsStore s (s.beginLockout k) := by
  have marked : KeepsStore s (s.recordLockout k) :=
    ⟨rfl, List.Subset.trans (subset_markItem _ _) (subset_markItem _ _), rfl⟩
  rw [beginLockout_eq]
  refine (marked.trans (enterKey_keepsStore _ k)).trans ?_
  refine .trans (t := { (s.recordLockout k).enterKey k with dta := { ((s.recordLockout k).enterKey k).dta with
    table := { ((s.recordLockout k).enterKey k).dta.table with service := none } } }) (.of_same rfl rfl) ?_
  exact .of_touches (endTest_touches _ _)

theorem raiseLocking_keepsStore (s : State) (k : FaultKey) : KeepsStore s (s.raiseLocking k) := by
  unfold State.raiseLocking
  split
  · split
    · exact .refl s
    · exact recordRaise_keepsStore s k true
  · exact beginLockout_keepsStore s k

theorem raiseAll_keepsStore (s : State) (l : List PendingCause) : KeepsStore s (s.raiseAll l) := by
  induction l generalizing s with
  | nil => exact .refl s
  | cons x rest ih => exact (raiseLocking_keepsStore s x.key).trans (ih _)

theorem lockWith_keepsStore (s : State) (k : FaultKey) : KeepsStore s (s.lockWith k) := by
  refine (raiseLocking_keepsStore s k).trans ?_
  change KeepsStore _ (s.raiseLocking k).gotoLockout
  unfold State.gotoLockout
  split
  · exact .refl _
  · exact goto_keepsStore _ _

theorem raiseF09_keepsStore (s : State) : KeepsStore s s.raiseF09 := by
  cases held : s.flt.lockout with
  | none => rw [raiseF09_begins held]; exact beginLockout_keepsStore s _
  | some l =>
    by_cases same : l.cause = .f09
    · rw [raiseF09_same held same]; exact .refl s
    · rw [raiseF09_replaces held same]
      have replaced : KeepsStore s (s.replaceCause l.cause) := (leaveKey_keepsStore s l.cause).trans (.of_same rfl rfl)
      exact (replaced.trans (enterKey_keepsStore _ .f09)).trans (markDirty_keepsStore _ _)

/-- R73: what the end of START-CHECK leaves of the store. -/
theorem endStartCheck_keepsStore (s : State) (good : Bool) : KeepsStore s (s.endStartCheck good) := by
  have checked : KeepsStore s s.checked := by rw [checked_frame]; exact .of_same rfl rfl
  have bad : KeepsStore s s.checked.badTable := (checked.trans (raiseF09_keepsStore _)).trans (.of_same rfl rfl)
  rw [endStartCheck_eq]
  split
  · exact (bad.trans (goto_keepsStore _ _)).trans (raiseAll_keepsStore _ _)
  · split
    · exact (checked.trans (goto_keepsStore _ _)).trans (raiseAll_keepsStore _ _)
    · split
      · exact checked.trans (goto_keepsStore _ _)
      · exact (checked.trans (lockWith_keepsStore _ _)).trans (raiseAll_keepsStore _ _)

/-! ### Causes raised during a lockout (R123) -/

/-- R123: with a lockout held, the causes that waited are written to the history alone. -/
theorem raiseAll_writesHistory (s : State) (l : List PendingCause) (locked : s.locked = true) : WritesHistory s (s.raiseAll l) := by
  induction l generalizing s with
  | nil => exact .refl s
  | cons x rest ih =>
    have first : WritesHistory s (s.raiseLocking x.key) := by
      unfold State.raiseLocking
      rw [if_pos locked]
      split
      · exact .refl s
      · exact recordRaise_writesHistory s x.key true
    exact first.trans (ih _ (raised_locked s x.key locked))

/-- What a history operation leaves of the fault unit's record, field by field. -/
theorem WritesHistory.fields (h : WritesHistory s t) : t.flt.active = s.flt.active ∧ t.flt.lockout = s.flt.lockout
    ∧ t.flt.resetCounter = s.flt.resetCounter ∧ t.flt.decay = s.flt.decay ∧ t.flt.conditions = s.flt.conditions
    ∧ t.flt.ringBuilt = s.flt.ringBuilt := by
  have kept := h.kept
  simp only [Flt.kept, Prod.mk.injEq] at kept
  obtain ⟨active, lockout, counter, decay, conditions, built, -, -⟩ := kept
  exact ⟨active, lockout, counter, decay, conditions, built⟩

/-! ### Trim, settings, counters and history (R175, steps 1 to 4) -/

/-- R175: the working trim copy that the hand-over puts in force. -/
def State.readTrim (s : State) : Trim :=
  if s.sto.reloadTrim then (if s.sto.nv.trimGood then s.sto.nv.trim.contents else Trim.fallback) else s.sto.trim

/-- R175, R176: the counters that the hand-over puts in force. -/
def State.readCounters (s : State) : Counters :=
  { (if s.sto.nv.countersGood then s.sto.nv.counters.contents else ⟨0, 0, 0⟩) with
    minutes := max (if s.sto.nv.countersGood then s.sto.nv.counters.contents.minutes else 0) s.sto.nv.latestStamp }

/-- The part as the first four steps of the hand-over leave it. -/
def State.readBlocks (s : State) : State := s.handTrim.handSettings.handCounters.handHistory

/-- R175: what the settings' step does to the fault unit, where the block is bad. -/
def State.readFaults (s : State) : State :=
  if s.sto.nv.settingsGood then s.handTrim.takeSettings else (s.handTrim.takeSettings.markDirty .settings).enterKey .a09

theorem handSettings_handTrim (s : State) : s.handTrim.handSettings = s.readFaults := handSettings_eq s.handTrim

/-- R175, R149: the settings as they are taken, with A09 where their block is bad. -/
structure ReadsSettings (s t : State) : Prop where
  touches : Touches [.mfe, .dta, .flt, .rlc, .prt, .sto] s t
  sto : t.sto = { s.sto with
    trimGood := s.sto.nv.trimGood, trim := s.readTrim, settings := s.readSettings, dirty := t.sto.dirty }
  ntc : t.mfe.ntc = { s.mfe.ntc with outdoor := outdoorRecord s.readSettings.outdoorFitted }
  slots : t.rlc.slots = s.handTrim.takeSettings.rlc.slots
  service : t.dta.table.service = s.dta.table.service
  kept : t.flt = { s.flt with
    active := t.flt.active, ring := t.flt.ring, early := t.flt.early, lastCreation := t.flt.lastCreation }
  active : ∀ j, t.isActive j = (s.isActive j || (!s.sto.nv.settingsGood && j == .a09))
  good : s.sto.nv.settingsGood = true → t.flt = s.flt ∧ t.prt = s.prt
  early : ∀ e ∈ t.flt.early, e ∈ s.flt.early ∨ e.key = .a09
  waits : s.sto.nv.settingsGood = false → s.isActive .a09 = false → s.flt.ringBuilt = false → s.flt.early = [] →
    t.flt.early = [⟨.a09, false, false⟩]
  marked : s.sto.nv.settingsGood = false → StoreItem.settings ∈ t.sto.dirty

theorem enterKey_early (s : State) (k : FaultKey) : (s.enterKey k).flt.early = s.flt.early
    ∨ (s.enterKey k).flt.early = waitKey s.flt.early k false ∧ s.flt.ringBuilt = false := by
  cases present : s.isActive k
  · rw [(enterKey_flt present).1]
    unfold State.recordRaise
    split
    · split
      · split <;> exact .inl rfl
      · exact .inl rfl
    · next unbuilt => exact .inr ⟨rfl, Bool.eq_false_iff.2 unbuilt⟩
  · rw [(enterKey_enters s k).ignored present]
    exact .inl rfl

theorem mem_waitKey {l : List EarlyKey} {during : Bool} {e : EarlyKey} (m : e ∈ waitKey l k during) : e ∈ l ∨ e.key = k := by
  unfold waitKey at m
  split at m
  · obtain ⟨x, inList, same⟩ := List.mem_map.1 m
    split at same
    · next own => exact .inr (by rw [← same]; exact own.1)
    · exact .inl (same ▸ inList)
  · rcases List.mem_append.1 m with old | new
    · exact .inl old
    · rw [List.mem_singleton.1 new]
      exact .inr rfl

theorem readFaults_reads (s : State) : ReadsSettings s s.readFaults := by
  have taken : Touches [.mfe, .dta, .rlc, .sto] s s.handTrim.takeSettings := by
    constructor <;> intros <;> simp_all [State.takeSettings, State.handTrim]
  unfold State.readFaults
  split
  · next good =>
    exact {
      touches := taken.mono (by decide)
      sto := rfl
      ntc := rfl
      slots := rfl
      service := rfl
      kept := rfl
      active := fun j => by rw [good]; exact (Bool.or_false _).symm
      good := fun _ => ⟨rfl, rfl⟩
      early := fun e m => .inl m
      waits := fun bad => absurd (good.symm.trans bad) nofun
      marked := fun bad => absurd (good.symm.trans bad) nofun }
  · next bad =>
    have bad : s.sto.nv.settingsGood = false := by simpa using bad
    have key := enterKey_enters (s.handTrim.takeSettings.markDirty .settings) .a09
    have early := enterKey_early (s.handTrim.takeSettings.markDirty .settings) .a09
    have active := enterKey_isActive (s.handTrim.takeSettings.markDirty .settings) .a09
    have entered : s.isActive .a09 = false → s.flt.ringBuilt = false → s.flt.early = [] →
        ((s.handTrim.takeSettings.markDirty .settings).enterKey .a09).flt.early = [⟨.a09, false, false⟩] := by
      intro absent unbuilt none
      rw [(enterKey_flt (s := s.handTrim.takeSettings.markDirty .settings) absent).1]
      unfold State.recordRaise
      rw [if_neg (by change ¬ s.flt.ringBuilt = true; rw [unbuilt]; exact nofun)]
      change waitKey s.flt.early .a09 false = _
      rw [none]
      rfl
    exact {
      touches := ((taken.mono (by decide)).trans ((markDirty_touches _ _).mono (by decide))).trans (key.touches.mono (by decide))
      sto := by rw [key.sto]; rfl
      ntc := by rw [key.touches.mfe (by decide)]; rfl
      slots := by rw [key.touches.rlc (by decide)]; rfl
      service := by rw [key.touches.dta (by decide)]; rfl
      kept := key.flt
      active := fun j => by rw [active, bad]; rfl
      good := fun good => absurd (good.symm.trans bad) nofun
      early := fun e m => by
        rcases early with same | ⟨waits, -⟩
        · exact .inl (same ▸ m)
        · exact mem_waitKey (waits ▸ m)
      waits := fun _ => entered
      marked := fun _ => enterKey_dirty _ _ (mem_markItem _ _) }

/-- R175: the blocks as the first four steps have read them. -/
structure ReadsBlocks (s t : State) : Prop where
  touches : Touches [.mfe, .dta, .flt, .rlc, .prt, .sto] s t
  sto : t.sto = { s.sto with
    trimGood := s.sto.nv.trimGood, trim := s.readTrim, settings := s.readSettings, counters := s.readCounters
    dirty := t.sto.dirty }
  ntc : t.mfe.ntc = { s.mfe.ntc with outdoor := outdoorRecord s.readSettings.outdoorFitted }
  slots : t.rlc.slots = s.handTrim.takeSettings.rlc.slots
  service : t.dta.table.service = s.dta.table.service
  kept : t.flt = { s.flt with
    active := t.flt.active, ring := s.sto.nv.history.map fun x => ⟨handedSlot x, none⟩, early := t.flt.early
    lastCreation := largest (s.sto.nv.records.map HistoryRecord.number), ringBuilt := true }
  active : ∀ j, t.isActive j = (s.isActive j || (!s.sto.nv.settingsGood && j == .a09))
  good : s.sto.nv.settingsGood = true → t.flt.active = s.flt.active ∧ t.flt.early = s.flt.early ∧ t.prt = s.prt
  early : ∀ e ∈ t.flt.early, e ∈ s.flt.early ∨ e.key = .a09
  waits : s.sto.nv.settingsGood = false → s.isActive .a09 = false → s.flt.ringBuilt = false → s.flt.early = [] →
    t.flt.early = [⟨.a09, false, false⟩]
  settings : s.sto.nv.settingsGood = false → StoreItem.settings ∈ t.sto.dirty
  counters : s.sto.nv.countersGood = false ∨ s.sto.nv.counters.contents.minutes < s.sto.nv.latestStamp →
    StoreItem.counters ∈ t.sto.dirty

/-- R175, R176: whether the counters are those of a good block. -/
def State.countersStand (s : State) : Bool :=
  s.sto.nv.countersGood && decide (s.readCounters.minutes
    = (if s.sto.nv.countersGood then s.sto.nv.counters.contents else ⟨0, 0, 0⟩ : Counters).minutes)

theorem handCounters_eq (s : State) : s.handCounters =
    if s.countersStand = true then { s with sto := { s.sto with counters := s.readCounters } }
    else ({ s with sto := { s.sto with counters := s.readCounters } } : State).markDirty .counters := by
  unfold State.handCounters State.countersStand State.readCounters
  cases s.sto.nv.countersGood <;> rfl

theorem handCounters_hands (s : State) : Touches [.sto] s s.handCounters
    ∧ s.handCounters.sto = { s.sto with counters := s.readCounters, dirty := s.handCounters.sto.dirty }
    ∧ s.sto.dirty ⊆ s.handCounters.sto.dirty
    ∧ (s.sto.nv.countersGood = false ∨ s.sto.nv.counters.contents.minutes < s.sto.nv.latestStamp →
        StoreItem.counters ∈ s.handCounters.sto.dirty) := by
  rw [handCounters_eq]
  split
  · next same =>
    refine ⟨touches_sto _ _, rfl, List.Subset.refl _, fun changed => ?_⟩
    obtain ⟨good, minutes⟩ := Bool.and_eq_true_iff.1 same
    have minutes := of_decide_eq_true minutes
    unfold State.readCounters at minutes
    rw [good] at minutes
    dsimp only at minutes
    rcases changed with bad | late
    · exact absurd (good.symm.trans bad) nofun
    · have : max s.sto.nv.counters.contents.minutes s.sto.nv.latestStamp = s.sto.nv.counters.contents.minutes := minutes
      omega
  · exact ⟨(touches_sto _ _).trans (markDirty_touches _ _), rfl, subset_markItem _ _, fun _ => mem_markItem _ _⟩

theorem readBlocks_reads (s : State) : ReadsBlocks s s.readBlocks := by
  have read := readFaults_reads s
  have blocks : s.readBlocks = s.readFaults.handCounters.handHistory := by
    unfold State.readBlocks
    rw [handSettings_handTrim]
  obtain ⟨touches, sto, marks, counters⟩ := handCounters_hands s.readFaults
  have nv : s.readFaults.sto.nv = s.sto.nv := by rw [read.sto]
  have same : s.readFaults.readCounters = s.readCounters := by
    unfold State.readCounters
    rw [nv]
  rw [nv] at counters
  rw [same] at sto
  rw [blocks]
  generalize s.readFaults = x at *
  have flt : x.handCounters.flt = x.flt := touches.flt (by decide)
  have nvC : x.handCounters.sto.nv = s.sto.nv := by rw [sto]; exact nv
  have built : x.handCounters.handHistory.flt = { x.flt with
      ring := s.sto.nv.history.map fun y => ⟨handedSlot y, none⟩, ringBuilt := true
      lastCreation := largest (s.sto.nv.records.map HistoryRecord.number) } := by
    rw [← nvC, ← flt]
    rfl
  exact {
    touches := (read.touches.trans (touches.mono (by decide))).trans ((touches_flt _ _).mono (by decide))
    sto := by
      change x.handCounters.sto = _
      rw [sto, read.sto]
      rfl
    ntc := by rw [← read.ntc, ← touches.mfe (by decide)]; rfl
    slots := by rw [← read.slots, ← touches.rlc (by decide)]; rfl
    service := by rw [← read.service, ← touches.dta (by decide)]; rfl
    kept := by rw [built, read.kept]
    active := fun j => by
      rw [← read.active]
      exact isActive_of_active (congrArg Flt.active flt) j
    good := fun good => by
      obtain ⟨same, prt⟩ := read.good good
      refine ⟨?_, ?_, ?_⟩
      · rw [built, same]
      · rw [built, same]
      · exact (touches.prt (by decide)).trans prt
    early := fun e m => read.early e (by rw [built] at m; exact m)
    waits := fun bad absent unbuilt none => by
      rw [built]
      exact read.waits bad absent unbuilt none
    settings := fun bad => marks (read.marked bad)
    counters := counters }

end Sys2Proof.Machine

/-! SUPPORT. The lockout block of the start-up reads, and the history as they leave it (R131, R136, R175). -/

namespace Sys2Proof.Machine

variable {s t u v : State} {k : FaultKey} {n : Nat}

/-! ### The ring's room (R131) -/

/-- The records that a ring holds. -/
def heldRecords (ring : List HistorySlot) : Nat := ring.countP fun x => x.record.isSome

theorem heldRecords_set_le (ring : List HistorySlot) (i : Nat) (x : HistorySlot) : heldRecords (ring.set i x) ≤ heldRecords ring + 1 := by
  unfold heldRecords
  by_cases low : i < ring.length
  · rw [List.countP_set low]
    split <;> split <;> omega
  · rw [List.set_eq_of_length_le (by omega)]
    omega

theorem heldRecords_set_held {ring : List HistorySlot} {i : Nat} {x y : HistorySlot} (held : ring[i]? = some y)
    (record : y.record.isSome = true) : heldRecords (ring.set i x) ≤ heldRecords ring := by
  unfold heldRecords
  obtain ⟨low, same⟩ := List.getElem?_eq_some_iff.1 held
  have one : 1 ≤ ring.countP fun x => x.record.isSome :=
    List.countP_pos_iff.2 ⟨y, List.mem_of_getElem? held, record⟩
  rw [List.countP_set low, same, if_pos record]
  split <;> omega

/-- R131: while a slot is empty, a raise needs no record's slot. -/
theorem room_of_heldRecords {ring : List HistorySlot} (few : heldRecords ring < ring.length) : ∃ x ∈ ring, x.record = none := by
  obtain ⟨x, m, empty⟩ := List.countP_lt_length_iff.1 few
  exact ⟨x, m, Option.isNone_iff_eq_none.1 (Option.isSome_eq_false_iff.1 empty)⟩

/-- A ring of 32 slots that has room for `n` more records. -/
structure HasRoom (n : Nat) (s : State) : Prop where
  length : s.flt.ring.length = 32
  room : heldRecords s.flt.ring + n ≤ 32

theorem HasRoom.congr (h : HasRoom n s) (ring : t.flt.ring = s.flt.ring) : HasRoom n t :=
  ⟨by rw [ring]; exact h.length, by rw [ring]; exact h.room⟩

theorem HasRoom.less {m : Nat} (h : HasRoom n s) (le : m ≤ n) : HasRoom m s := ⟨h.length, by have := h.room; omega⟩

theorem HasRoom.putSlot (h : HasRoom (n + 1) s) (i : Nat) (x : HistorySlot) : HasRoom n (s.putSlot i x) := by
  refine ⟨List.length_set.trans h.length, ?_⟩
  have := heldRecords_set_le s.flt.ring i x
  have := h.room
  change heldRecords (s.flt.ring.set i x) + n ≤ 32
  omega

theorem HasRoom.recordRaise (h : HasRoom (n + 1) s) (k : FaultKey) (during : Bool) : HasRoom n (s.recordRaise k during) := by
  unfold State.recordRaise
  split
  · split
    · split
      · exact h.putSlot _ _
      · exact HasRoom.putSlot (s := { s with flt := { s.flt with lastCreation := nextNumber s.flt.lastCreation } }) ⟨h.length, h.room⟩ _ _
    · exact HasRoom.putSlot (s := { s with flt := { s.flt with lastCreation := nextNumber s.flt.lastCreation } }) ⟨h.length, h.room⟩ _ _
  · exact ⟨h.length, by have := h.room; dsimp only; omega⟩

theorem HasRoom.fillCleared (h : HasRoom n s) (k : FaultKey) : HasRoom n (s.fillCleared k) := by
  unfold State.fillCleared
  split
  · split
    · next x found =>
      obtain ⟨y, held, record, -⟩ := newestSlot_mem (i := x.1) (r := x.2) found
      refine ⟨List.length_set.trans h.length, ?_⟩
      have := heldRecords_set_held (x := s.stamped x.2) held (by rw [record]; rfl)
      have := h.room
      change heldRecords (s.flt.ring.set x.1 (s.stamped x.2)) + n ≤ 32
      omega
    · exact h
  · exact ⟨h.length, h.room⟩

/-! ### A record through later raises and clears -/

/-- The ring holds a record of this kind. -/
def RingHolds (P : HistoryRecord → Prop) (ring : List HistorySlot) : Prop :=
  ∃ (i : Nat) (x : HistorySlot) (r : HistoryRecord), ring[i]? = some x ∧ x.record = some r ∧ P r

/-- Every record of the ring is of this kind. -/
def RingOnly (P : HistoryRecord → Prop) (ring : List HistorySlot) : Prop := ∀ x ∈ ring, ∀ r, x.record = some r → P r

theorem ringOnly_set {P : HistoryRecord → Prop} {ring : List HistorySlot} {i : Nat} {r : HistoryRecord} {note : Option Nat}
    (only : RingOnly P ring) (new : P r) : RingOnly P (ring.set i ⟨some r, note⟩) := fun x m q record => by
  rcases List.mem_or_eq_of_mem_set m with old | same
  · exact only x old q record
  · subst same
    exact Option.some.inj record ▸ new

theorem recordRaise_ringHolds {P : HistoryRecord → Prop} {during : Bool} (room : HasRoom (n + 1) s)
    (other : ∀ r, P r → r.raises k = false) (holds : RingHolds P s.flt.ring) : RingHolds P (s.recordRaise k during).flt.ring := by
  obtain ⟨i, x, r, held, record, is⟩ := holds
  have few : heldRecords s.flt.ring < s.flt.ring.length := by
    have := room.room
    rw [room.length]
    omega
  exact ⟨i, x, r, recordRaise_spares held record (other r is) (room_of_heldRecords few), record, is⟩

theorem fillCleared_ringHolds {P : HistoryRecord → Prop} (closed : ∀ r stamp, P r → P { r with clearedStamp := stamp })
    (holds : RingHolds P s.flt.ring) : RingHolds P (s.fillCleared k).flt.ring := by
  obtain ⟨i, x, r, held, record, is⟩ := holds
  unfold State.fillCleared
  split
  · split
    · next y found =>
      by_cases same : y.1 = i
      · obtain ⟨z, here, isRecord, -⟩ := newestSlot_mem (i := y.1) (r := y.2) found
        rw [same, held] at here
        obtain rfl : y.2 = r := Option.some.inj (isRecord.symm.trans ((congrArg _ (Option.some.inj here).symm).trans record))
        refine ⟨i, s.stamped y.2, { y.2 with clearedStamp := some s.minute }, ?_, rfl, closed y.2 (some s.minute) is⟩
        change (s.flt.ring.set y.1 (s.stamped y.2))[i]? = _
        rw [same]
        exact List.getElem?_set_self (List.getElem?_eq_some_iff.1 held).1
      · exact ⟨i, x, r, (List.getElem?_set_ne same).trans held, record, is⟩
    · exact ⟨i, x, r, held, record, is⟩
  · exact ⟨i, x, r, held, record, is⟩

theorem recordRaise_ringOnly {P : HistoryRecord → Prop} {during : Bool} (only : RingOnly P s.flt.ring)
    (merged : ∀ r, P r → P r.merge) (new : ∀ number, P { s.raisedRecord k during with number := number }) :
    RingOnly P (s.recordRaise k during).flt.ring := by
  unfold State.recordRaise
  split
  · split
    · next y found =>
      split
      · obtain ⟨z, here, isRecord, -⟩ := newestSlot_mem (i := y.1) (r := y.2) found
        exact ringOnly_set only (merged _ (only z (List.mem_of_getElem? here) _ isRecord))
      · exact ringOnly_set only (new _)
    · exact ringOnly_set only (new _)
  · exact only

/-! ### The records that the reset left open (R136) -/

/-- R136: a slot as the records that the reset left open have been closed. -/
def closedSlot (minute : Nat) (x : HistorySlot) : HistorySlot :=
  match x.record with
  | some r => if r.leftOpen then ⟨some { r with clearedStamp := some minute }, none⟩ else x
  | none => x

theorem closeOpen_eq (s : State) : s.closeOpen =
    s.putAll (fun r => ⟨some { r with clearedStamp := some s.minute }, none⟩) (pickSlots HistoryRecord.leftOpen s.flt.ring) :=
  closeAll_eq _ s

theorem closeOpen_ring (s : State) : s.closeOpen.flt.ring = s.flt.ring.map (closedSlot s.minute) := by
  refine List.ext_getElem? fun i => ?_
  rw [List.getElem?_map, closeOpen_eq]
  cases held : s.flt.ring[i]? with
  | none =>
    refine List.getElem?_eq_none ?_
    rw [putAll_length]
    exact List.getElem?_eq_none_iff.1 held
  | some x =>
    rw [Option.map_some]
    cases record : x.record with
    | none =>
      have same : closedSlot s.minute x = x := by unfold closedSlot; rw [record]
      rw [same, ← held]
      refine (putAll_ring _ _ s (fun _ m _ m' => pickSlots_one m m') (fun y m => ?_)).2 i fun y m own => ?_
      · obtain ⟨z, there, -⟩ := (mem_pickSlots (i := y.1) (r := y.2)).1 m
        exact (List.getElem?_eq_some_iff.1 there).1
      · obtain ⟨z, there, isRecord, -⟩ := (mem_pickSlots (i := y.1) (r := y.2)).1 m
        rw [own, held] at there
        rw [← Option.some.inj there, record] at isRecord
        exact nomatch isRecord
    | some r =>
      obtain ⟨closes, stays⟩ := putPicked_ring (fun r => ⟨some { r with clearedStamp := some s.minute }, none⟩)
        HistoryRecord.leftOpen held record
      unfold closedSlot
      rw [record]
      dsimp only
      split
      · next isOpen => exact (closes isOpen).1
      · next isClosed => exact stays (Bool.eq_false_iff.2 isClosed)

theorem closeOpen_marks {i : Nat} {x : HistorySlot} {r : HistoryRecord} (held : s.flt.ring[i]? = some x)
    (record : x.record = some r) (isOpen : r.leftOpen = true) : StoreItem.slot i ∈ s.closeOpen.sto.dirty := by
  rw [closeOpen_eq]
  exact ((putPicked_ring (fun r => ⟨some { r with clearedStamp := some s.minute }, none⟩) HistoryRecord.leftOpen held
    record).1 isOpen).2

theorem closeOpen_writesHistory (s : State) : WritesHistory s s.closeOpen :=
  writesHistory_foldl (fun u _ => putSlot_writesHistory u _ _) _ s

theorem closeOpen_flt (s : State) : s.closeOpen.flt = { s.flt with ring := s.closeOpen.flt.ring } ∧ s.closeOpen.minute = s.minute
    ∧ s.sto.dirty ⊆ s.closeOpen.sto.dirty := by
  have dirty := putAll_dirty (fun r => ⟨some { r with clearedStamp := some s.minute }, none⟩)
    (pickSlots HistoryRecord.leftOpen s.flt.ring) s
  obtain ⟨flt, minute, -⟩ := putAll_flt (fun r => ⟨some { r with clearedStamp := some s.minute }, none⟩)
    (pickSlots HistoryRecord.leftOpen s.flt.ring) s
  rw [← closeOpen_eq] at flt minute dirty
  exact ⟨flt, minute, dirty⟩

theorem heldRecords_closed (minute : Nat) (ring : List HistorySlot) :
    heldRecords (ring.map (closedSlot minute)) = heldRecords ring := by
  unfold heldRecords
  rw [List.countP_map]
  refine List.countP_congr fun x _ => ?_
  have same : (closedSlot minute x).record.isSome = x.record.isSome := by
    unfold closedSlot
    split
    · next r record =>
      rw [record]
      split
      · rfl
      · rw [record]
    · rfl
  exact iff_of_eq (congrArg (· = true) same)

theorem HasRoom.closeOpen (h : HasRoom n s) : HasRoom n s.closeOpen := by
  refine ⟨?_, ?_⟩
  · rw [closeOpen_ring, List.length_map, h.length]
  · rw [closeOpen_ring, heldRecords_closed]
    exact h.room

theorem closeOpen_ringOnly {P : HistoryRecord → Prop} (only : RingOnly P s.flt.ring)
    (closed : ∀ r stamp, P r → P { r with clearedStamp := stamp }) : RingOnly P s.closeOpen.flt.ring := by
  rw [closeOpen_ring]
  intro x m r record
  obtain ⟨y, old, rfl⟩ := List.mem_map.1 m
  unfold closedSlot at record
  split at record
  · next q isRecord =>
    split at record
    · exact Option.some.inj record ▸ closed q _ (only y old q isRecord)
    · exact only y old r record
  · exact only y old r record

end Sys2Proof.Machine

/-! SUPPORT. The keys that waited for the ring, the lockout block, and the part as the start-up reads hand it over (R136, R175). -/

namespace Sys2Proof.Machine

variable {s t u v : State} {k : FaultKey} {n : Nat}

/-! ### The keys that waited for the ring (R136) -/

/-- The part with no key that waits. -/
def State.withoutEarly (s : State) : State := { s with flt := { s.flt with early := [] } }

theorem recordWaiting_eq (s : State) : s.recordWaiting = s.flt.early.foldl State.recordEarly s.withoutEarly := rfl

theorem recordEarly_writesHistory (s : State) (e : EarlyKey) : WritesHistory s (s.recordEarly e) := by
  unfold State.recordEarly
  dsimp only
  split
  · exact (createRecord_writesHistory s _).trans (fillCleared_writesHistory _ _)
  · exact createRecord_writesHistory s _

theorem recordWaiting_writesHistory (s : State) : WritesHistory s s.recordWaiting := by
  have cleared : WritesHistory s s.withoutEarly := ⟨(touches_flt s _).mono (by decide), rfl, rfl⟩
  exact cleared.trans (writesHistory_foldl recordEarly_writesHistory _ _)

/-- R136: with the ring built, a key that waited leaves no other one waiting. -/
theorem recordEarly_early (e : EarlyKey) (built : s.flt.ringBuilt = true) : (s.recordEarly e).flt.early = s.flt.early := by
  unfold State.recordEarly
  dsimp only
  split
  · have kept := fillCleared_built (s := s.createRecord (s.raisedRecord e.key e.duringLockout)) (k := e.key) built
    rw [kept, (putAll_flt _ _ _).1]
    rfl
  · rfl

theorem recordEarly_marks (s : State) (e : EarlyKey) : s.sto.dirty ⊆ (s.recordEarly e).sto.dirty := by
  have created : s.sto.dirty ⊆ (s.createRecord (s.raisedRecord e.key e.duringLockout)).sto.dirty := subset_markItem _ _
  unfold State.recordEarly
  dsimp only
  split
  · exact List.Subset.trans created (fillCleared_dirty _ _)
  · exact created

theorem recordEarlies_keeps (l : List EarlyKey) (s : State) (built : s.flt.ringBuilt = true) :
    (l.foldl State.recordEarly s).flt.early = s.flt.early ∧ s.sto.dirty ⊆ (l.foldl State.recordEarly s).sto.dirty := by
  induction l generalizing s with
  | nil => exact ⟨rfl, List.Subset.refl _⟩
  | cons e rest ih =>
    have same : (s.recordEarly e).flt.ringBuilt = true := (recordEarly_writesHistory s e).fields.2.2.2.2.2.trans built
    obtain ⟨early, marks⟩ := ih (s.recordEarly e) same
    exact ⟨early.trans (recordEarly_early e built), List.Subset.trans (recordEarly_marks s e) marks⟩

theorem recordWaiting_keeps (s : State) (built : s.flt.ringBuilt = true) :
    s.recordWaiting.flt.early = [] ∧ s.sto.dirty ⊆ s.recordWaiting.sto.dirty := recordEarlies_keeps _ s.withoutEarly built

theorem recordWaiting_none (none : s.flt.early = []) : s.recordWaiting = s.withoutEarly := by
  rw [recordWaiting_eq, none]
  rfl

theorem recordWaiting_one {e : EarlyKey} (one : s.flt.early = [e]) (stands : e.left = false) :
    s.recordWaiting = s.withoutEarly.createRecord (s.withoutEarly.raisedRecord e.key e.duringLockout) := by
  rw [recordWaiting_eq, one, List.foldl_cons, List.foldl_nil]
  unfold State.recordEarly
  rw [stands]
  rfl

theorem fillCleared_ringOnly {P : HistoryRecord → Prop} (only : RingOnly P s.flt.ring)
    (closed : ∀ r stamp, P r → P { r with clearedStamp := stamp }) : RingOnly P (s.fillCleared k).flt.ring := by
  unfold State.fillCleared
  split
  · split
    · next y found =>
      obtain ⟨z, here, isRecord, -⟩ := newestSlot_mem (i := y.1) (r := y.2) found
      exact ringOnly_set only (closed _ _ (only z (List.mem_of_getElem? here) _ isRecord))
    · exact only
  · exact only

theorem recordWaiting_ringOnly {P : HistoryRecord → Prop} (only : RingOnly P s.flt.ring)
    (closed : ∀ r stamp, P r → P { r with clearedStamp := stamp })
    (new : ∀ e ∈ s.flt.early, ∀ (v : State) number, P { v.raisedRecord e.key e.duringLockout with number := number }) :
    RingOnly P s.recordWaiting.flt.ring := by
  have go (l : List EarlyKey) (v : State) (only : RingOnly P v.flt.ring)
      (new : ∀ e ∈ l, ∀ (v : State) number, P { v.raisedRecord e.key e.duringLockout with number := number }) :
      RingOnly P (l.foldl State.recordEarly v).flt.ring := by
    induction l generalizing v with
    | nil => exact only
    | cons e rest ih =>
      refine ih _ ?_ fun x m => new x (List.mem_cons_of_mem _ m)
      have created : RingOnly P (v.createRecord (v.raisedRecord e.key e.duringLockout)).flt.ring :=
        ringOnly_set only (new e List.mem_cons_self v _)
      unfold State.recordEarly
      dsimp only
      split
      · exact fillCleared_ringOnly created closed
      · exact created
  exact go _ s.withoutEarly only new

/-- The slot of a new record lies in the ring. -/
theorem slotForNew_lt {ring : List HistorySlot} (some : 0 < ring.length) : slotForNew ring < ring.length := by
  unfold slotForNew
  split
  · next i found =>
    obtain ⟨-, x, held, -⟩ := emptySlot_mem found
    exact (List.getElem?_eq_some_iff.1 held).1
  · split
    · next y found =>
      obtain ⟨-, x, held, -⟩ := bestSlot_mem (i := y.1) (r := y.2) found
      exact (List.getElem?_eq_some_iff.1 held).1
    · exact some

/-- R131: a record that has just been created is in the ring. -/
theorem createRecord_ringHolds {P : HistoryRecord → Prop} (r : HistoryRecord) (length : s.flt.ring.length = 32)
    (is : ∀ number, P { r with number := number }) : RingHolds P (s.createRecord r).flt.ring :=
  ⟨slotForNew s.flt.ring, _, _, List.getElem?_set_self (slotForNew_lt (by rw [length]; decide)), rfl, is _⟩

theorem HasRoom.createRecord (h : HasRoom (n + 1) s) (r : HistoryRecord) : HasRoom n (s.createRecord r) :=
  HasRoom.putSlot (s := { s with flt := { s.flt with lastCreation := nextNumber s.flt.lastCreation } }) ⟨h.length, h.room⟩ _ _

/-! ### The lockout block (R136) -/

/-- R136: the reset counter, its timer and the creation number of a good lockout block. -/
def State.lockoutRead (s : State) : State :=
  { s with flt := { s.flt with
    resetCounter := s.sto.nv.lockout.contents.resetCounter
    decay := decayFor s.sto.nv.lockout.contents.resetCounter
    lastCreation := max s.sto.nv.lockout.contents.lastCreation s.flt.lastCreation } }

/-- R136: what a bad lockout block leaves. -/
def State.lockoutLost (s : State) : State := { s with flt := { s.flt with resetCounter := 0, decay := none } }

theorem handLockout_stands (good : s.sto.nv.lockoutGood = true)
    (none : s.locked = true ∨ s.sto.nv.lockout.contents.lockout = none) : s.handLockout = s.lockoutRead := by
  unfold State.handLockout
  rw [if_pos good]
  dsimp only
  split
  · next l free stored =>
    rcases none with locked | none
    · exact absurd (free.symm.trans locked) nofun
    · exact absurd (stored.symm.trans none) nofun
  · rfl

theorem handLockout_restores {l : Lockout} (good : s.sto.nv.lockoutGood = true) (free : s.locked = false)
    (stored : s.sto.nv.lockout.contents.lockout = some l) : s.handLockout = s.lockoutRead.restoreLockout l := by
  have free' : s.lockoutRead.locked = false := free
  unfold State.handLockout
  rw [if_pos good]
  change (match s.lockoutRead.locked, s.sto.nv.lockout.contents.lockout with
    | false, some l => s.lockoutRead.restoreLockout l
    | _, _ => s.lockoutRead) = _
  rw [free', stored]

theorem handLockout_makes (bad : s.sto.nv.lockoutGood = false) (free : s.locked = false) :
    s.handLockout = s.lockoutLost.makeF08.markDirty .lockout := by
  unfold State.handLockout
  rw [if_neg (by rw [bad]; exact nofun)]
  have free' : ¬ s.lockoutLost.locked = true := by
    change ¬ s.locked = true
    rw [free]
    exact nofun
  exact congrArg (fun v : State => v.markDirty .lockout) (if_neg free')

theorem handLockout_records (bad : s.sto.nv.lockoutGood = false) (locked : s.locked = true) :
    s.handLockout = (s.lockoutLost.recordRaise .f08 true).markDirty .lockout := by
  unfold State.handLockout
  rw [if_neg (by rw [bad]; exact nofun)]
  exact congrArg (fun v : State => v.markDirty .lockout) (if_pos (show s.lockoutLost.locked = true from locked))

/-- R136: what the lockout block's step gives and leaves, whatever it holds. -/
structure HandsLockout (s t : State) : Prop where
  touches : Touches [.flt, .prt, .sto, .dta] s t
  store : KeepsStore s t
  conditions : t.flt.conditions = s.flt.conditions
  early : t.flt.early = s.flt.early
  active : ∀ j, s.isActive j = true → t.isActive j = true
  joins : ∀ j, t.isActive j = true → s.isActive j = true ∨ keyClass j = .locking
  cause : ∀ l, t.flt.lockout = some l → s.flt.lockout = some l ∨ keyClass l.cause = .locking
  room : ∀ n, HasRoom (n + 1) s → HasRoom n t

theorem HasRoom.enterKey (h : HasRoom (n + 1) s) (k : FaultKey) : HasRoom n (s.enterKey k) := by
  cases present : s.isActive k
  · exact HasRoom.congr (HasRoom.recordRaise (s := s.withKey k) ⟨h.length, h.room⟩ k false)
      (congrArg Flt.ring (enterKey_flt present).1)
  · rw [(enterKey_enters s k).ignored present]
    exact h.less (by omega)

theorem recordRaise_early (built : s.flt.ringBuilt = true) (k : FaultKey) (during : Bool) :
    (s.recordRaise k during).flt.early = s.flt.early := by
  unfold State.recordRaise
  rw [if_pos built]
  split
  · split <;> rfl
  · rfl

theorem handLockout_hands (s : State) (built : s.flt.ringBuilt = true) : HandsLockout s s.handLockout := by
  cases good : s.sto.nv.lockoutGood
  · cases locked : s.locked
    · have key := enterKey_enters s.lockoutLost.recordF08 .f08
      have active := enterKey_isActive s.lockoutLost.recordF08 .f08
      have store := enterKey_keepsStore s.lockoutLost.recordF08 .f08
      have early := enterKey_early s.lockoutLost.recordF08 .f08
      rw [handLockout_makes good locked, makeF08_eq]
      have touches : Touches [.flt, .sto, .dta] s s.lockoutLost.recordF08 :=
        ((touches_flt s _).mono (by decide)).trans (((markDirty_touches _ .counters).mono (by decide)).trans
          ((touches_dta _ _).mono (by decide)))
      have recorded : KeepsStore s s.lockoutLost.recordF08 := ⟨rfl, subset_markItem _ _, rfl⟩
      have same (j : FaultKey) : ((s.lockoutLost.recordF08.enterKey .f08).markDirty .lockout).isActive j
          = (s.isActive j || j == .f08) := active j
      exact {
        touches := ((touches.mono (by decide)).trans (key.touches.mono (by decide))).trans
          ((markDirty_touches _ _).mono (by decide))
        store := (recorded.trans store).trans (markDirty_keepsStore _ _)
        conditions := (congrArg Flt.conditions key.flt).trans rfl
        early := by
          rcases early with same | ⟨-, unbuilt⟩
          · exact same
          · exact absurd (built.symm.trans unbuilt) nofun
        active := fun j h => by rw [same, h]; rfl
        joins := fun j h => by
          rw [same, Bool.or_eq_true] at h
          exact h.imp id fun isF08 => by rw [beq_iff_eq.1 isF08]; rfl
        cause := fun l h => by
          have made : (s.lockoutLost.recordF08.enterKey .f08).flt.lockout = some ⟨.f08, .startCheck, 0, s.minute⟩ := by
            rw [key.flt]
            rfl
          obtain rfl := Option.some.inj (made.symm.trans h)
          exact .inr rfl
        room := fun n h => HasRoom.congr (HasRoom.enterKey (s := s.lockoutLost.recordF08) ⟨h.length, h.room⟩ .f08) rfl }
    · rw [handLockout_records good locked]
      have wrote := recordRaise_writesHistory s.lockoutLost .f08 true
      obtain ⟨active, lockout, -, -, conditions, -⟩ := wrote.fields
      have same (j : FaultKey) : ((s.lockoutLost.recordRaise .f08 true).markDirty .lockout).isActive j = s.isActive j :=
        isActive_of_active active j
      exact {
        touches := (((touches_flt s _).mono (by decide)).trans (wrote.touches.mono (by decide))).trans
          ((markDirty_touches _ _).mono (by decide))
        store := .trans (KeepsStore.trans (t := s.lockoutLost) (.of_same rfl rfl) (recordRaise_keepsStore _ .f08 true)) (markDirty_keepsStore _ _)
        conditions := conditions
        early := recordRaise_early (s := s.lockoutLost) built .f08 true
        active := fun j h => (same j).trans h
        joins := fun j h => .inl ((same j).symm.trans h)
        cause := fun l h => .inl (lockout.symm.trans h)
        room := fun n h => HasRoom.congr (HasRoom.recordRaise (s := s.lockoutLost) ⟨h.length, h.room⟩ .f08 true) rfl }
  · have read : HandsLockout s s.lockoutRead := {
      touches := (touches_flt s _).mono (by decide)
      store := .of_same rfl rfl
      conditions := rfl
      early := rfl
      active := fun _ => id
      joins := fun _ => .inl
      cause := fun _ => .inl
      room := fun n h => ⟨h.length, by have := h.room; change heldRecords s.flt.ring + n ≤ 32; omega⟩ }
    cases stored : s.sto.nv.lockout.contents.lockout with
    | none => rw [handLockout_stands good (.inr stored)]; exact read
    | some l =>
      cases locked : s.locked
      · rw [handLockout_restores good locked stored]
        have locking : keyClass l.cause = .locking := by
          simp only [Nv.lockoutGood, LockoutBlock.inRange, Bool.and_eq_true] at good
          obtain ⟨-, ⟨inRange, -⟩, -⟩ := good
          rw [stored] at inRange
          simp only [Option.all_some, Lockout.inRange, Bool.and_eq_true, beq_iff_eq] at inRange
          exact inRange.1.1
        have same (j : FaultKey) : (s.lockoutRead.restoreLockout l).isActive j = (s.isActive j || j == l.cause) := by
          have isIn : (s.lockoutRead.restoreLockout l).isActive j = true ↔ j ∈ addKey s.flt.active l.cause :=
            State.isActive_iff _ _
          rw [Bool.eq_iff_iff, isIn, mem_addKey, ← State.isActive_iff]
          simp
        exact {
          touches := by constructor <;> intros <;> simp_all [State.restoreLockout, State.lockoutRead, State.post]
          store := .of_same rfl rfl
          conditions := rfl
          early := rfl
          active := fun j h => by rw [same, h]; rfl
          joins := fun j h => by
            rw [same, Bool.or_eq_true] at h
            exact h.imp id fun isCause => by rw [beq_iff_eq.1 isCause]; exact locking
          cause := fun l' h => .inr (by rw [← Option.some.inj (show some l = some l' from h)]; exact locking)
          room := fun n h => (read.room n h).congr rfl }
      · rw [handLockout_stands good (.inl locked)]
        exact read

/-! ### The hand-over (R175) -/

/-- R136: the history as the lockout block's step is followed by what the reset left open and what waited. -/
def State.historyClosed (s : State) : State := s.closeOpen.recordWaiting

theorem handedOver_eq (s : State) : s.handedOver = s.readBlocks.handLockout.historyClosed := rfl

theorem historyClosed_closes (s : State) (built : s.flt.ringBuilt = true) : WritesHistory s s.historyClosed
    ∧ s.historyClosed.flt.early = [] ∧ s.sto.dirty ⊆ s.historyClosed.sto.dirty ∧ s.historyClosed.flt.ringBuilt = true := by
  obtain ⟨flt, -, dirty⟩ := closeOpen_flt s
  have built' : s.closeOpen.flt.ringBuilt = true := by rw [flt]; exact built
  obtain ⟨early, marks⟩ := recordWaiting_keeps s.closeOpen built'
  have wrote : WritesHistory s s.historyClosed := (closeOpen_writesHistory s).trans (recordWaiting_writesHistory _)
  exact ⟨wrote, early, List.Subset.trans dirty marks, wrote.fields.2.2.2.2.2.trans built⟩

/-- R136: with no key that waits, the history is that of the lockout block's step, with the open records closed. -/
theorem historyClosed_none (none : s.flt.early = []) : s.historyClosed.flt.ring = s.flt.ring.map (closedSlot s.minute)
    ∧ s.historyClosed.flt.lastCreation = s.flt.lastCreation := by
  obtain ⟨flt, -, -⟩ := closeOpen_flt s
  have still : s.closeOpen.flt.early = [] := by rw [flt]; exact none
  unfold State.historyClosed
  rw [recordWaiting_none still]
  refine ⟨closeOpen_ring s, ?_⟩
  change s.closeOpen.flt.lastCreation = _
  rw [flt]

/-- R175: the part as the start-up reads have been handed over, before the combustion table. -/
structure Handed (s t : State) : Prop where
  touches : Touches [.mfe, .dta, .flt, .rlc, .prt, .sto] s t
  sto : t.sto = { s.sto with
    trimGood := s.sto.nv.trimGood, trim := s.readTrim, settings := s.readSettings, counters := s.readCounters
    dirty := t.sto.dirty }
  ntc : t.mfe.ntc = { s.mfe.ntc with outdoor := outdoorRecord s.readSettings.outdoorFitted }
  slots : t.rlc.slots = s.handTrim.takeSettings.rlc.slots
  conditions : t.flt.conditions = s.flt.conditions
  built : t.flt.ringBuilt = true
  early : t.flt.early = []
  settings : s.sto.nv.settingsGood = false → StoreItem.settings ∈ t.sto.dirty
  counters : s.sto.nv.countersGood = false ∨ s.sto.nv.counters.contents.minutes < s.sto.nv.latestStamp →
    StoreItem.counters ∈ t.sto.dirty
  a09 : s.sto.nv.settingsGood = false → t.isActive .a09 = true
  active : ∀ j, s.isActive j = true → t.isActive j = true
  cause : ∀ l, t.flt.lockout = some l → s.flt.lockout = some l ∨ keyClass l.cause = .locking

theorem handedOver_handed (s : State) : Handed s s.handedOver := by
  have read := readBlocks_reads s
  have built : s.readBlocks.flt.ringBuilt = true := by rw [read.kept]
  have lockout := handLockout_hands s.readBlocks built
  obtain ⟨wrote, early, marks, closed⟩ := historyClosed_closes s.readBlocks.handLockout (lockout.store.built.trans built)
  rw [handedOver_eq]
  generalize s.readBlocks.handLockout.historyClosed = d at *
  generalize s.readBlocks.handLockout = c at *
  generalize s.readBlocks = b at *
  obtain ⟨active, holds, -, -, conditions, -⟩ := wrote.fields
  have keys (j : FaultKey) : d.isActive j = c.isActive j := isActive_of_active active j
  have grows : b.sto.dirty ⊆ d.sto.dirty := List.Subset.trans lockout.store.marks marks
  exact {
    touches := (read.touches.trans (lockout.touches.mono (by decide))).trans (wrote.touches.mono (by decide))
    sto := by rw [wrote.sto, lockout.store.sto, read.sto]
    ntc := by rw [wrote.touches.mfe (by decide), lockout.touches.mfe (by decide), read.ntc]
    slots := by rw [wrote.touches.rlc (by decide), lockout.touches.rlc (by decide), read.slots]
    conditions := by rw [conditions, lockout.conditions, read.kept]
    built := closed
    early := early
    settings := fun bad => grows (read.settings bad)
    counters := fun changed => grows (read.counters changed)
    a09 := fun bad => by
      rw [keys]
      refine lockout.active .a09 ?_
      rw [read.active, bad]
      exact Bool.or_true _
    active := fun j h => by
      rw [keys]
      refine lockout.active j ?_
      rw [read.active, h]
      rfl
    cause := fun l h => by
      rw [holds] at h
      refine (lockout.cause l h).imp (fun before => ?_) id
      rw [read.kept] at before
      exact before }

end Sys2Proof.Machine

/-! SUPPORT. What the end of START-CHECK leaves of the active fault set and of the history (R73, R122 to R124, R131). -/

namespace Sys2Proof.Machine

variable {s t u v : State} {j k : FaultKey} {n : Nat} {P : HistoryRecord → Prop}

/-! ### Keys that stay in the active fault set -/

theorem raiseLocking_keepsActive (k : FaultKey) (present : s.isActive j = true) : (s.raiseLocking k).isActive j = true := by
  unfold State.raiseLocking
  split
  · split
    · exact present
    · exact (isActive_of_active (recordRaise_active s k true) j).trans present
  · rw [beginLockout_isActive, present]
    rfl

theorem raiseAll_active (l : List PendingCause) (s : State) (present : s.isActive j = true) : (s.raiseAll l).isActive j = true := by
  induction l generalizing s with
  | nil => exact present
  | cons x rest ih => exact ih _ (raiseLocking_keepsActive x.key present)

theorem goto_active (s : State) (q : SeqState) : (s.goto q).isActive j = s.isActive j :=
  (goto_touches s q).isActive (by decide) j

theorem lockWith_active (k : FaultKey) (present : s.isActive j = true) : (s.lockWith k).isActive j = true :=
  ((gotoLockout_endsFrom (s.raiseLocking k)).isActive j).trans (raiseLocking_keepsActive k present)

/-- R124: of the keys in the set, F09 takes the place of the cause alone. -/
theorem raiseF09_active (other : ∀ l, s.flt.lockout = some l → l.cause ≠ j) (present : s.isActive j = true) :
    s.raiseF09.isActive j = true := by
  cases held : s.flt.lockout with
  | none =>
    rw [raiseF09_begins held, beginLockout_isActive, present]
    rfl
  | some l =>
    by_cases same : l.cause = .f09
    · rw [raiseF09_same held same]
      exact present
    · rw [raiseF09_replaces held same]
      change ((s.replaceCause l.cause).enterKey .f09).isActive j = true
      rw [enterKey_isActive, replaceCause_isActive, present, bne_iff_ne.2 (other l held).symm]
      rfl

/-- R73: a key that is no lockout's cause stays in the set as START-CHECK ends. -/
theorem endStartCheck_active (good : Bool) (other : ∀ l, s.flt.lockout = some l → l.cause ≠ j) (present : s.isActive j = true) :
    (s.endStartCheck good).isActive j = true := by
  have checked : s.checked.isActive j = true := by rw [checked_frame]; exact present
  have other' : ∀ l, s.checked.flt.lockout = some l → l.cause ≠ j := by rw [checked_frame]; exact other
  rw [endStartCheck_eq]
  split
  · refine raiseAll_active _ _ ((goto_active _ _).trans ?_)
    exact raiseF09_active other' checked
  · split
    · exact raiseAll_active _ _ ((goto_active _ _).trans checked)
    · split
      · exact (goto_active _ _).trans checked
      · exact raiseAll_active _ _ (lockWith_active _ checked)

/-! ### A record that stays in the history -/

/-- A record of this kind stands in a ring with room for `n` more. -/
structure Tracks (P : HistoryRecord → Prop) (n : Nat) (s : State) : Prop where
  room : HasRoom n s
  holds : RingHolds P s.flt.ring

namespace Tracks

theorem congr (h : Tracks P n s) (flt : t.flt.ring = s.flt.ring) : Tracks P n t := ⟨h.room.congr flt, by rw [flt]; exact h.holds⟩

theorem recordRaise (h : Tracks P (n + 1) s) (other : ∀ r, P r → r.raises k = false) (during : Bool) :
    Tracks P n (s.recordRaise k during) :=
  ⟨h.room.recordRaise k during, recordRaise_ringHolds h.room other h.holds⟩

theorem less {m : Nat} (h : Tracks P n s) (le : m ≤ n) : Tracks P m s := ⟨h.room.less le, h.holds⟩

theorem enterKey (h : Tracks P (n + 1) s) (other : ∀ r, P r → r.raises k = false) : Tracks P n (s.enterKey k) := by
  cases present : s.isActive k
  · exact (Tracks.recordRaise (s := s.withKey k) (h.congr rfl) other false).congr (congrArg Flt.ring (enterKey_flt present).1)
  · rw [(enterKey_enters s k).ignored present]
    exact h.less (by omega)

theorem leaveKey (h : Tracks P n s) (closed : ∀ r stamp, P r → P { r with clearedStamp := stamp }) : Tracks P n (s.leaveKey k) := by
  cases present : s.isActive k
  · have stays : s.leaveKey k = s := if_neg (by rw [present]; exact nofun)
    rw [stays]
    exact h
  · have same := congrArg Flt.ring (leaveKey_flt present).1
    have before : Tracks P n { s with flt := { s.flt with active := dropKey s.flt.active k } } := h.congr rfl
    exact Tracks.congr ⟨before.room.fillCleared k, fillCleared_ringHolds closed before.holds⟩ same

theorem beginLockout (h : Tracks P (n + 1) s) (other : ∀ r, P r → r.raises k = false) : Tracks P n (s.beginLockout k) := by
  have entered : Tracks P n ((s.recordLockout k).enterKey k) := Tracks.enterKey (h.congr rfl) other
  refine entered.congr ?_
  rw [beginLockout_eq, (endTest_touches _ _).flt (by decide)]

theorem raiseLocking (h : Tracks P (n + 1) s) (other : ∀ r, P r → r.raises k = false) : Tracks P n (s.raiseLocking k) := by
  unfold State.raiseLocking
  split
  · split
    · exact h.less (by omega)
    · exact h.recordRaise other true
  · exact h.beginLockout other

theorem raiseAll (l : List PendingCause) (s : State) (h : Tracks P (n + l.length) s)
    (other : ∀ x ∈ l, ∀ r, P r → r.raises x.key = false) : Tracks P n (s.raiseAll l) := by
  induction l generalizing s with
  | nil => exact h
  | cons x rest ih =>
    exact ih _ (Tracks.raiseLocking (n := n + rest.length) h (other x List.mem_cons_self)) fun y m =>
      other y (List.mem_cons_of_mem x m)

theorem goto (h : Tracks P n s) (q : SeqState) : Tracks P n (s.goto q) :=
  h.congr (congrArg Flt.ring ((goto_touches s q).flt (by decide)))

theorem raiseF09 (h : Tracks P (n + 1) s) (f09 : ∀ r, P r → r.raises .f09 = false)
    (closed : ∀ r stamp, P r → P { r with clearedStamp := stamp }) : Tracks P n s.raiseF09 := by
  cases held : s.flt.lockout with
  | none =>
    rw [raiseF09_begins held]
    exact h.beginLockout f09
  | some l =>
    by_cases same : l.cause = .f09
    · rw [raiseF09_same held same]
      exact h.less (by omega)
    · rw [raiseF09_replaces held same]
      have replaced : Tracks P (n + 1) (s.replaceCause l.cause) := (h.leaveKey closed).congr rfl
      exact (replaced.enterKey f09).congr rfl

theorem lockWith (h : Tracks P (n + 1) s) (other : ∀ r, P r → r.raises k = false) : Tracks P n (s.lockWith k) := by
  refine (h.raiseLocking other).congr ?_
  have left := gotoLockout_endsFrom (s.raiseLocking k)
  change (s.raiseLocking k).gotoLockout.flt.ring = _
  rw [left.flt]

end Tracks

/-- R73: a record of another key stays in the history as START-CHECK ends, where the ring has room for what is raised. -/
theorem endStartCheck_ringHolds (good : Bool) (h : Tracks P 2 s) (few : s.waitingCauses.length ≤ 1)
    (causes : ∀ x : PendingCause, ∀ r, P r → r.raises x.key = false) (f09 : ∀ r, P r → r.raises .f09 = false)
    (closed : ∀ r stamp, P r → P { r with clearedStamp := stamp }) : RingHolds P (s.endStartCheck good).flt.ring := by
  have checked : Tracks P 2 s.checked := by rw [checked_frame]; exact h.congr rfl
  have all (v : State) (tracks : Tracks P 1 v) : RingHolds P (v.raiseAll s.waitingCauses).flt.ring :=
    (Tracks.raiseAll (n := 0) _ v (tracks.less (by omega)) fun x _ => causes x).holds
  rw [endStartCheck_eq]
  split
  · have replaced : Tracks P 1 s.checked.badTable := (checked.raiseF09 f09 closed).congr rfl
    exact all _ (replaced.goto _)
  · split
    · exact all _ ((checked.goto _).less (by decide))
    · split
      · exact (checked.goto _).holds
      · next x rest waiting =>
        have none : rest = [] := List.eq_nil_of_length_eq_zero (by rw [waiting, List.length_cons] at few; omega)
        rw [none]
        exact (checked.lockWith (causes x)).holds

end Sys2Proof.Machine

/-! SUPPORT. STARTUP_READS_COMPLETE: IDLE, a lockout restored or made, a pending cause, or F09 (R73, R122, R136, R175, R180). -/

namespace Sys2Proof.Machine

variable {s t u v : State} {k : FaultKey} {n : Nat}

/-- The part as the start-up reads have been handed over and START-CHECK has been left. -/
def State.started (s : State) : State := s.handedOver.handCombustion.endStartCheck s.sto.nv.combustionGood

/-- R175, R180: the combustion table's step. -/
theorem handCombustion_hands (s : State) : s.handCombustion.sto = { s.sto with
      table := if s.sto.nv.combustionGood then s.sto.nv.combustion.contents else s.sto.trim.factory
      tableValid := s.sto.nv.combustionGood, startup := none }
    ∧ Touches [.sto] s s.handCombustion ∧ s.handCombustion.waitingCauses = s.waitingCauses
    ∧ s.handCombustion.sto.dirty = s.sto.dirty ∧ s.handCombustion.flt = s.flt :=
  ⟨rfl, touches_sto _ _, rfl, rfl, rfl⟩

theorem exec_startup (on : s.powered = true) (awaited : s.sto.startup.isSome = true) :
    ∃ t, exec .startupReadsComplete s = .next t ∧ Follows s.started t := by
  have started : (if s.sto.startup.isSome = true then
      s.handedOver.handCombustion.endStartCheck s.handedOver.handCombustion.sto.tableValid else s) = s.started := by
    rw [if_pos awaited, (handCombustion_hands _).1, (handedOver_handed s).sto]
    rfl
  unfold State.handedOver at started
  exact exec_effect (c := .startupReadsComplete) on rfl started

/-- R175: what the store holds as the part has been started. -/
theorem started_store (s : State) : s.handedOver.sto.dirty ⊆ s.started.sto.dirty ∧ s.started.flt.ringBuilt = true
    ∧ s.started.sto = { s.sto with
    trimGood := s.sto.nv.trimGood, trim := s.readTrim, settings := s.readSettings, counters := s.readCounters
    table := if s.sto.nv.combustionGood then s.sto.nv.combustion.contents else s.readTrim.factory
    tableValid := s.sto.nv.combustionGood, startup := none, dirty := s.started.sto.dirty } := by
  have kept : KeepsStore s.handedOver.handCombustion s.started := endStartCheck_keepsStore _ _
  have handed := handedOver_handed s
  obtain ⟨sto, -, -, dirty, flt⟩ := handCombustion_hands s.handedOver
  refine ⟨?_, ?_, ?_⟩
  · rw [← dirty]
    exact kept.marks
  · rw [kept.built, flt]
    exact handed.built
  · rw [kept.sto, sto, handed.sto]

theorem started_minute (s : State) : s.started.minute = s.readCounters.minutes := by
  unfold State.minute
  rw [(started_store s).2.2]

theorem readTrim_reload (reload : s.sto.reloadTrim = true) : s.readTrim = if s.sto.nv.trimGood then s.sto.nv.trim.contents
    else ⟨⟨0, 0, 0, 0, 0, 0, 0⟩, 1000, 450, 0, CombustionTable.default, 0, 0⟩ := if_pos reload

theorem readTrim_keep (keep : s.sto.reloadTrim = false) : s.readTrim = s.sto.trim := if_neg (by rw [keep]; exact nofun)

/-! ### Any blocks (R175, R176, R181) -/

/-- R73: the causes that wait for the end of START-CHECK. -/
theorem waitingCauses_eq (s : State) : s.waitingCauses =
    if s.ocu.lines.limit = true ∧ .f04 ∉ s.bsq.pendingCauses then s.bsq.pendingCauses ++ [.f04] else s.bsq.pendingCauses := by
  unfold State.waitingCauses addPending
  by_cases limit : s.ocu.lines.limit = true
  · rw [if_pos limit]
    by_cases listed : PendingCause.f04 ∈ s.bsq.pendingCauses
    · rw [if_pos (List.contains_iff_mem.2 listed), if_neg fun h => h.2 listed]
    · rw [if_neg fun h => listed (List.contains_iff_mem.1 h), if_pos ⟨limit, listed⟩]
  · rw [if_neg limit, if_neg fun h => limit h.1]

/-- The causes that wait are those of the part before its reads. -/
theorem handed_waits (s : State) : s.handedOver.handCombustion.waitingCauses = s.waitingCauses := by
  have handed := handedOver_handed s
  rw [(handCombustion_hands _).2.2.1]
  unfold State.waitingCauses
  rw [handed.touches.ocu (by decide), handed.touches.bsq (by decide)]

theorem heldRecords_handed (n : Nv) : heldRecords (n.history.map fun x => ⟨handedSlot x, none⟩) = n.records.length := by
  unfold heldRecords Nv.records
  rw [List.countP_map, List.length_filterMap_eq_countP]
  rfl

/-- A record that a key's raise has left in the history at this minute. -/
def RaisedAt (k : FaultKey) (minute : Nat) (r : HistoryRecord) : Prop := r.key = k ∧ r.kind = .raised ∧ r.raiseStamp = minute

theorem raises_other {j : FaultKey} {r : HistoryRecord} (key : r.key = k) (other : k ≠ j) : r.raises j = false := by
  refine Bool.and_eq_false_iff.2 (.inr (beq_eq_false_iff_ne.2 ?_))
  rw [key]
  exact other

/-- R136: A09 of bad settings is recorded as the ring has been built. -/
theorem handedOver_tracks (bad : s.sto.nv.settingsGood = false) (absent : s.isActive .a09 = false)
    (unbuilt : s.flt.ringBuilt = false) (none : s.flt.early = []) (length : s.sto.nv.history.length = 32)
    (few : s.sto.nv.records.length ≤ 28) : Tracks (RaisedAt .a09 s.readCounters.minutes) 2 s.handedOver := by
  have read := readBlocks_reads s
  have built : s.readBlocks.flt.ringBuilt = true := by rw [read.kept]
  have lockout := handLockout_hands s.readBlocks built
  have room : HasRoom 4 s.readBlocks := by
    refine ⟨?_, ?_⟩
    · rw [read.kept]
      exact (List.length_map _).trans length
    · rw [read.kept]
      dsimp only
      rw [heldRecords_handed]
      omega
  have left : HasRoom 3 s.readBlocks.handLockout := lockout.room 3 room
  have early : s.readBlocks.handLockout.closeOpen.flt.early = [⟨.a09, false, false⟩] := by
    rw [(closeOpen_flt _).1]
    exact lockout.early.trans (read.waits bad absent unbuilt none)
  have minute : s.readBlocks.handLockout.closeOpen.minute = s.readCounters.minutes := by
    rw [(closeOpen_flt _).2.1]
    unfold State.minute
    rw [lockout.store.sto, read.sto]
  rw [handedOver_eq]
  unfold State.historyClosed
  rw [recordWaiting_one early rfl]
  have closed := left.closeOpen
  generalize s.readBlocks.handLockout.closeOpen = x at *
  have closed : HasRoom 3 x.withoutEarly := closed.congr rfl
  exact ⟨closed.createRecord _, createRecord_ringHolds _ closed.length fun _ => ⟨rfl, rfl, minute⟩⟩

/-- R124, R175: A09 of bad settings stays in the set, where it was no lockout's cause. -/
theorem started_keepsA09 (bad : s.sto.nv.settingsGood = false) (other : ∀ l, s.flt.lockout = some l → l.cause ≠ .a09) :
    s.started.isActive .a09 = true := by
  have handed := handedOver_handed s
  obtain ⟨-, -, -, -, flt⟩ := handCombustion_hands s.handedOver
  unfold State.started
  generalize s.handedOver.handCombustion = e at flt
  refine endStartCheck_active _ (fun l held => ?_) ((isActive_of_active (congrArg Flt.active flt) _).trans (handed.a09 bad))
  rw [flt] at held
  rcases handed.cause l held with before | locking
  · exact other l before
  · intro isA09
    rw [isA09] at locking
    exact nomatch locking

theorem started_a09 (bad : s.sto.nv.settingsGood = false) (absent : s.isActive .a09 = false)
    (unbuilt : s.flt.ringBuilt = false) (none : s.flt.early = []) (pending : s.bsq.pendingCauses = [])
    (length : s.sto.nv.history.length = 32) (few : s.sto.nv.records.length ≤ 28) :
    ∃ x ∈ s.started.flt.ring, ∃ r, x.record = some r ∧ r.key = .a09 ∧ r.kind = .raised ∧ r.raiseStamp = s.started.minute := by
  have handed := handedOver_handed s
  have tracks := handedOver_tracks bad absent unbuilt none length few
  have waits := handed_waits s
  obtain ⟨-, -, -, -, flt⟩ := handCombustion_hands s.handedOver
  have minute := started_minute s
  rw [minute]
  unfold State.started
  generalize s.handedOver.handCombustion = e at flt waits
  have one : e.waitingCauses.length ≤ 1 := by
    rw [waits, waitingCauses_eq, pending]
    split <;> decide
  obtain ⟨i, x, r, held, record, is⟩ := endStartCheck_ringHolds s.sto.nv.combustionGood (tracks.congr (congrArg Flt.ring flt)) one
    (fun x r is => raises_other is.1 (by cases x <;> exact nofun)) (fun r is => raises_other is.1 nofun)
    fun r stamp is => is
  exact ⟨x, List.mem_of_getElem? held, r, record, is⟩

theorem startup_anyBlocks (on : s.powered = true) (awaited : s.sto.startup.isSome = true) :
    ∃ u t, exec .startupReadsComplete s = .next t ∧ Follows u t
      ∧ u.sto.trimGood = s.sto.nv.trimGood
      ∧ (s.sto.reloadTrim = true → u.sto.trim = if s.sto.nv.trimGood then s.sto.nv.trim.contents
          else ⟨⟨0, 0, 0, 0, 0, 0, 0⟩, 1000, 450, 0, CombustionTable.default, 0, 0⟩)
      ∧ (s.sto.reloadTrim = false → u.sto.trim = s.sto.trim)
      ∧ u.sto.settings = (if s.sto.nv.settingsGood then s.sto.nv.settings.contents else Settings.default)
      ∧ (s.sto.nv.settingsGood = false → StoreItem.settings ∈ u.sto.dirty
          ∧ ((∀ l, s.flt.lockout = some l → l.cause ≠ .a09) → u.isActive .a09 = true))
      ∧ (s.sto.nv.settingsGood = false → s.isActive .a09 = false → s.flt.ringBuilt = false → s.flt.early = [] →
          s.bsq.pendingCauses = [] → s.sto.nv.history.length = 32 → s.sto.nv.records.length ≤ 28 →
          ∃ x ∈ u.flt.ring, ∃ r, x.record = some r ∧ r.key = .a09 ∧ r.kind = .raised ∧ r.raiseStamp = u.minute)
      ∧ u.sto.counters = { (if s.sto.nv.countersGood then s.sto.nv.counters.contents else ⟨0, 0, 0⟩) with
          minutes := max (if s.sto.nv.countersGood then s.sto.nv.counters.contents.minutes else 0) s.sto.nv.latestStamp }
      ∧ (s.sto.nv.countersGood = false ∨ s.sto.nv.counters.contents.minutes < s.sto.nv.latestStamp →
          StoreItem.counters ∈ u.sto.dirty)
      ∧ u.sto.nv = s.sto.nv ∧ u.flt.ringBuilt = true ∧ u.sto.startup = none := by
  obtain ⟨t, run, follows⟩ := exec_startup on awaited
  have handed := handedOver_handed s
  obtain ⟨marks, built, sto⟩ := started_store s
  refine ⟨s.started, t, run, follows, ?_, fun reload => ?_, fun keep => ?_, ?_, fun bad => ⟨?_, fun other => ?_⟩,
    fun bad absent unbuilt none pending length few => started_a09 bad absent unbuilt none pending length few, ?_,
    fun changed => ?_, ?_, ?_, ?_⟩
  · rw [sto]
  · rw [sto]
    exact readTrim_reload reload
  · rw [sto]
    exact readTrim_keep keep
  · rw [sto]
    rfl
  · exact marks (handed.settings bad)
  · exact started_keepsA09 bad other
  · rw [sto]
    rfl
  · exact marks (handed.counters changed)
  · rw [sto]
  · exact built
  · rw [sto]

end Sys2Proof.Machine

/-! SUPPORT. How START-CHECK is left: with F09, with a lockout that the reads gave, with a cause that waited, and for IDLE (R73). -/

namespace Sys2Proof.Machine

variable {s t u v : State} {k : FaultKey} {n : Nat}

/-! ### The four ends of START-CHECK (R73) -/

theorem goto_pendingCauses (s : State) (q : SeqState) : (s.goto q).bsq.pendingCauses = s.bsq.pendingCauses :=
  (goto_endsFrom s q).bsq.2.2.1

/-- R95: LOCKOUT is entered without a purge where the gas has not been opened. -/
theorem goto_lockout_still (still : s.bsq.gasOpened = false) :
    (s.goto .lockout).bsq.purgeLeft = 0 ∧ (s.goto .lockout).bsq.fanTarget = 0 := by
  have purge : (s.goto .lockout).bsq.purgeLeft = 0 := by
    rw [goto_purgeLeft s rfl]
    exact if_neg (by rw [still]; exact nofun)
  exact ⟨purge, by rw [goto_lockout_fanTarget, if_pos purge]⟩

/-- R73, R180: with a bad combustion block, LOCKOUT with F09. -/
theorem endStartCheck_bad (s : State) : (s.endStartCheck false).flt.lockout.map Lockout.cause = some .f09
    ∧ (s.endStartCheck false).bsq.state = .lockout ∧ (s.endStartCheck false).flt.conditions.table = true
    ∧ (s.endStartCheck false).bsq.pendingCauses = [] ∧ (s.endStartCheck false).bsq.gasOpen = false := by
  have ended : s.endStartCheck false = (s.checked.badTable.goto .lockout).raiseAll s.waitingCauses := endStartCheck_eq s false
  have f09 := raiseF09_holds s.checked
  have flt := (goto_touches s.checked.badTable .lockout).flt (by decide)
  have cause : s.checked.badTable.flt.lockout.map Lockout.cause = some .f09 := f09.cause
  have locked : (s.checked.badTable.goto .lockout).locked = true := by
    unfold State.locked
    rw [flt]
    cases e : s.checked.badTable.flt.lockout
    · rw [e] at cause
      exact nomatch cause
    · rfl
  have wrote := raiseAll_writesHistory (s.checked.badTable.goto .lockout) s.waitingCauses locked
  obtain ⟨-, lockout, -, -, conditions, -⟩ := wrote.fields
  have bsq := wrote.touches.bsq (by decide)
  have pending : s.checked.badTable.bsq.pendingCauses = [] := by
    change s.checked.raiseF09.bsq.pendingCauses = []
    rw [f09.bsq, checked_frame]
  rw [ended, lockout, conditions, bsq, flt]
  refine ⟨cause, goto_state _ _, rfl, ?_, (goto_gasOff s.checked.badTable rfl).1⟩
  rw [goto_pendingCauses]
  exact pending

/-- R73: what LOCKOUT with a lockout that the reads have given leaves. -/
structure StaysLocked (s u : State) : Prop where
  active : u.flt.active = s.flt.active
  lockout : u.flt.lockout = s.flt.lockout
  counter : u.flt.resetCounter = s.flt.resetCounter
  decay : u.flt.decay = s.flt.decay
  state : u.bsq.state = .lockout
  pending : u.bsq.pendingCauses = []
  still : s.bsq.gasOpened = false → u.bsq.purgeLeft = 0 ∧ u.bsq.fanTarget = 0
  service : u.dta.table.service = s.dta.table.service
  prt : u.prt = s.prt
  flt : s.waitingCauses = [] → u.flt = s.flt

theorem endStartCheck_held (held : s.locked = true) : StaysLocked s (s.endStartCheck true) := by
  have frame := checked_frame s
  have locked : s.checked.locked = true := by rw [frame]; exact held
  have ended : s.endStartCheck true = (s.checked.goto .lockout).raiseAll s.waitingCauses :=
    (endStartCheck_eq s true).trans (if_pos locked)
  have touches := goto_touches s.checked .lockout
  have flt : (s.checked.goto .lockout).flt = s.flt := (touches.flt (by decide)).trans (by rw [frame])
  have entered : (s.checked.goto .lockout).locked = true := by
    unfold State.locked
    rw [flt]
    exact held
  have wrote := raiseAll_writesHistory (s.checked.goto .lockout) s.waitingCauses entered
  obtain ⟨active, lockout, counter, decay, -, -⟩ := wrote.fields
  have bsq := wrote.touches.bsq (by decide)
  rw [ended]
  exact {
    active := by rw [active, flt]
    lockout := by rw [lockout, flt]
    counter := by rw [counter, flt]
    decay := by rw [decay, flt]
    state := by rw [bsq]; exact goto_state _ _
    pending := by rw [bsq, goto_pendingCauses, frame]
    still := fun still => by
      rw [bsq]
      exact goto_lockout_still (by rw [frame]; exact still)
    service := by rw [wrote.touches.dta (by decide), (goto_samePlan s.checked .lockout).table, frame]
    prt := by rw [wrote.touches.prt (by decide), touches.prt (by decide), frame]
    flt := fun none => by
      rw [none]
      exact flt }

/-- R73, R123: the first cause that waited locks out, and the others are written to the history. -/
structure LocksPending (k : FaultKey) (s u : State) : Prop where
  lockout : u.flt.lockout = some ⟨k, s.bsq.state, s.bsq.attempts, s.minute⟩
  active : ∀ j, u.isActive j = (s.isActive j || j == k)
  state : u.bsq.state = .lockout
  pending : u.bsq.pendingCauses = []
  still : s.bsq.gasOpened = false → u.bsq.purgeLeft = 0 ∧ u.bsq.fanTarget = 0

theorem endStartCheck_pending {c : PendingCause} {rest : List PendingCause} (free : s.locked = false)
    (state : s.bsq.state = .startCheck) (waits : s.waitingCauses = c :: rest) :
    s.endStartCheck true = (s.checked.lockWith c.key).raiseAll rest ∧ LocksPending c.key s (s.endStartCheck true) := by
  have frame := checked_frame s
  have free' : s.checked.locked = false := by rw [frame]; exact free
  have ended : s.endStartCheck true = (s.checked.lockWith c.key).raiseAll rest := by
    rw [endStartCheck_eq, waits, free']
    rfl
  refine ⟨ended, ?_⟩
  have notLockout : s.checked.bsq.state ≠ .lockout := by
    rw [frame]
    change s.bsq.state ≠ .lockout
    rw [state]
    exact nofun
  have out := lockWith_locksOut s.checked c.key free' notLockout
  have locked : (s.checked.lockWith c.key).locked = true := by
    unfold State.locked
    rw [out.lockout]
    rfl
  have wrote := raiseAll_writesHistory (s.checked.lockWith c.key) rest locked
  obtain ⟨active, lockout, -, -, -, -⟩ := wrote.fields
  have bsq := wrote.touches.bsq (by decide)
  have keys (j : FaultKey) : (s.checked.lockWith c.key).isActive j = (s.isActive j || j == c.key) := by
    have begins : s.checked.raiseLocking c.key = s.checked.beginLockout c.key := if_neg (by rw [free']; exact nofun)
    have entered : (s.checked.lockWith c.key).isActive j = (s.checked.raiseLocking c.key).isActive j :=
      (gotoLockout_endsFrom (s.checked.raiseLocking c.key)).isActive j
    rw [entered, begins, beginLockout_isActive, frame]
    rfl
  have pendingC : (s.checked.lockWith c.key).bsq.pendingCauses = [] := by
    have left := (gotoLockout_endsFrom (s.checked.raiseLocking c.key)).bsq.2.2.1
    change (s.checked.raiseLocking c.key).gotoLockout.bsq.pendingCauses = []
    rw [left, raiseLocking_bsq, frame]
  rw [ended]
  exact {
    lockout := by rw [lockout, out.lockout, frame]; rfl
    active := fun j => (isActive_of_active active j).trans (keys j)
    state := by rw [bsq]; exact out.state
    pending := by rw [bsq]; exact pendingC
    still := fun still => by
      have purge : (s.checked.lockWith c.key).bsq.purgeLeft = 0 := by
        rw [out.purge]
        exact if_neg (by rw [frame]; change ¬ s.bsq.gasOpened = true; rw [still]; exact nofun)
      rw [bsq]
      exact ⟨purge, by rw [out.fan, if_pos purge]⟩ }

/-- R73: with nothing that locks out, IDLE. -/
theorem endStartCheck_idle (free : s.locked = false) (waits : s.waitingCauses = []) :
    s.endStartCheck true = s.checked.goto .idle := by
  have free' : s.checked.locked = false := by rw [checked_frame]; exact free
  rw [endStartCheck_eq, waits, free']
  rfl

end Sys2Proof.Machine

/-! SUPPORT. The cases of STARTUP_READS_COMPLETE (R73, R122, R131, R136, R149, R175, R180). -/

namespace Sys2Proof.Machine

variable {s t u v : State} {k : FaultKey} {n : Nat}

/-! ### The part as the end of START-CHECK finds it -/

/-- The part as the combustion table has been read. -/
def State.handedAll (s : State) : State := s.handedOver.handCombustion

theorem started_eq (s : State) : s.started = s.handedAll.endStartCheck s.sto.nv.combustionGood := rfl

/-- What the end of START-CHECK finds of the part before its reads. -/
structure FindsReads (s e : State) : Prop where
  waits : e.waitingCauses = s.waitingCauses
  bsq : e.bsq = s.bsq
  flt : e.flt = s.handedOver.flt
  dta : e.dta = s.handedOver.dta
  prt : e.prt = s.handedOver.prt
  minute : e.minute = s.readCounters.minutes

theorem handedAll_finds (s : State) : FindsReads s s.handedAll := by
  obtain ⟨sto, touches, -, -, flt⟩ := handCombustion_hands s.handedOver
  have handed := handedOver_handed s
  refine ⟨handed_waits s, ?_, flt, touches.dta (by decide), touches.prt (by decide), ?_⟩
  · exact (touches.bsq (by decide)).trans (handed.touches.bsq (by decide))
  · unfold State.handedAll State.minute
    rw [sto, handed.sto]

/-- R136: the lockout block's step of the hand-over, and what follows it. -/
structure Closes (c d : State) : Prop where
  wrote : WritesHistory c d
  early : d.flt.early = []
  marks : c.sto.dirty ⊆ d.sto.dirty
  none : c.flt.early = [] → d.flt.ring = c.flt.ring.map (closedSlot c.minute) ∧ d.flt.lastCreation = c.flt.lastCreation

theorem historyClosed_closed (s : State) (built : s.flt.ringBuilt = true) : Closes s s.historyClosed := by
  obtain ⟨wrote, early, marks, -⟩ := historyClosed_closes s built
  exact ⟨wrote, early, marks, fun none => historyClosed_none none⟩

theorem handedOver_closes (s : State) : Closes s.readBlocks.handLockout s.handedOver := by
  have built : s.readBlocks.flt.ringBuilt = true := by rw [(readBlocks_reads s).kept]
  have lockout := handLockout_hands s.readBlocks built
  rw [handedOver_eq]
  exact historyClosed_closed _ (lockout.store.built.trans built)

/-- What the lockout block's step finds of the part before its reads. -/
theorem readBlocks_finds (s : State) : s.readBlocks.sto.nv = s.sto.nv ∧ s.readBlocks.locked = s.locked
    ∧ s.readBlocks.minute = s.readCounters.minutes := by
  have read := readBlocks_reads s
  refine ⟨by rw [read.sto], ?_, ?_⟩
  · unfold State.locked
    rw [read.kept]
  · unfold State.minute
    rw [read.sto]

/-! ### A bad combustion block (R180) -/

theorem startup_badTable (on : s.powered = true) (awaited : s.sto.startup.isSome = true) (bad : s.sto.nv.combustionGood = false) :
    ∃ u t, exec .startupReadsComplete s = .next t ∧ Follows u t
      ∧ u.flt.lockout.map Lockout.cause = some .f09 ∧ u.bsq.state = .lockout ∧ u.flt.conditions.table = true
      ∧ u.sto.tableValid = false ∧ u.sto.table = u.sto.trim.factory ∧ u.sto.startup = none ∧ u.bsq.pendingCauses = []
      ∧ u.bsq.gasOpen = false ∧ u.sto.nv = s.sto.nv := by
  obtain ⟨t, run, follows⟩ := exec_startup on awaited
  obtain ⟨-, -, sto⟩ := started_store s
  have ended := started_eq s
  rw [bad] at ended
  obtain ⟨cause, state, table, pending, gas⟩ := endStartCheck_bad s.handedAll
  rw [← ended] at cause state table pending gas
  refine ⟨s.started, t, run, follows, cause, state, table, ?_, ?_, ?_, pending, gas, ?_⟩
  · rw [sto]
    exact bad
  · rw [sto]
    exact if_neg (by rw [bad]; exact nofun)
  · rw [sto]
  · rw [sto]

/-! ### A lockout that the store holds (R136) -/

/-- R136: the part as the lockout of a good block has been restored. -/
structure Restores (l : Lockout) (b c : State) : Prop where
  lockout : c.flt.lockout = some l
  active : c.isActive l.cause = true
  counter : c.flt.resetCounter = b.sto.nv.lockout.contents.resetCounter
  decay : c.flt.decay = decayFor b.sto.nv.lockout.contents.resetCounter
  service : c.dta.table.service = none
  prt : c.prt = b.prt.post (.raised l.cause)
  number : c.flt.lastCreation = max b.sto.nv.lockout.contents.lastCreation b.flt.lastCreation
  early : c.flt.early = b.flt.early

theorem restoreLockout_restores (s : State) (l : Lockout) : Restores l s (s.lockoutRead.restoreLockout l) := by
  refine ⟨rfl, ?_, rfl, rfl, rfl, rfl, rfl, rfl⟩
  exact (State.isActive_iff _ _).2 ((mem_addKey _ _ _).2 (.inr rfl))

/-- R73, R136: the part locked out by what its lockout block's step has given. -/
theorem started_held (good : s.sto.nv.combustionGood = true) (held : s.readBlocks.handLockout.locked = true) :
    StaysLocked s.handedAll s.started := by
  have finds := handedAll_finds s
  obtain ⟨-, lockout, -⟩ := (handedOver_closes s).wrote.fields
  have locked : s.handedAll.locked = true := by
    unfold State.locked
    rw [finds.flt, lockout]
    exact held
  have ended := endStartCheck_held locked
  rw [started_eq, good]
  exact ended

theorem startup_restores {l : Lockout} (on : s.powered = true) (awaited : s.sto.startup.isSome = true) (free : s.locked = false)
    (good : s.sto.nv.combustionGood = true) (goodLockout : s.sto.nv.lockoutGood = true)
    (stored : s.sto.nv.lockout.contents.lockout = some l) :
    ∃ u t, exec .startupReadsComplete s = .next t ∧ Follows u t
      ∧ u.flt.lockout = some l ∧ u.isActive l.cause = true ∧ u.bsq.state = .lockout ∧ u.bsq.pendingCauses = []
      ∧ u.flt.resetCounter = s.sto.nv.lockout.contents.resetCounter ∧ u.dta.table.service = none
      ∧ u.flt.decay = (if s.sto.nv.lockout.contents.resetCounter = 0 then none else some 180000)
      ∧ (s.bsq.gasOpened = false → u.bsq.purgeLeft = 0 ∧ u.bsq.fanTarget = 0)
      ∧ (s.bsq.pendingCauses = [] → s.ocu.lines.limit = false → s.sto.nv.settingsGood = true → s.flt.early = [] →
          u.prt = s.prt.post (.raised l.cause)
          ∧ u.flt.lastCreation = max s.sto.nv.lockout.contents.lastCreation
              (largest (s.sto.nv.records.map HistoryRecord.number))) := by
  obtain ⟨t, run, follows⟩ := exec_startup on awaited
  have read := readBlocks_reads s
  obtain ⟨nv, locked, -⟩ := readBlocks_finds s
  have restored := handLockout_restores (s := s.readBlocks) (l := l) (by rw [nv]; exact goodLockout) (by rw [locked]; exact free)
    (by rw [nv]; exact stored)
  have restores := restoreLockout_restores s.readBlocks l
  rw [← restored] at restores
  have stays := started_held good (by unfold State.locked; rw [restores.lockout]; rfl)
  have finds := handedAll_finds s
  have closes := handedOver_closes s
  obtain ⟨active, lockout, counter, decay, -, -⟩ := closes.wrote.fields
  have dta := closes.wrote.touches.dta (by decide)
  have prt := closes.wrote.touches.prt (by decide)
  generalize s.readBlocks.handLockout = c at restores closes active lockout counter decay dta prt
  have present : s.started.isActive l.cause = c.isActive l.cause :=
    isActive_of_active (by rw [stays.active, finds.flt, active]) l.cause
  refine ⟨s.started, t, run, follows, ?_, present.trans restores.active, stays.state, stays.pending, ?_, ?_, ?_, fun still => ?_,
    fun pending limit good none => ⟨?_, ?_⟩⟩
  · rw [stays.lockout, finds.flt, lockout, restores.lockout]
  · rw [stays.counter, finds.flt, counter, restores.counter, nv]
  · rw [stays.service, finds.dta, dta, restores.service]
  · rw [stays.decay, finds.flt, decay, restores.decay, nv]
    rfl
  · exact stays.still (by rw [finds.bsq]; exact still)
  · rw [stays.prt, finds.prt, prt, restores.prt, (read.good good).2.2]
  · have waits : s.handedAll.waitingCauses = [] := by
      rw [finds.waits, waitingCauses_eq, pending, limit]
      rfl
    obtain ⟨-, number⟩ := closes.none (by rw [restores.early, (read.good good).2.1, none])
    rw [stays.flt waits, finds.flt, number, restores.number, nv, read.kept]

end Sys2Proof.Machine

/-! SUPPORT. STARTUP_READS_COMPLETE with a bad lockout block: a lockout with F08 (R122, R131, R136). -/

namespace Sys2Proof.Machine

variable {s t u v : State} {k : FaultKey} {n : Nat}

/-- R133: a raise that finds no second of a clear takes a new record. -/
theorem recordRaise_creates (built : s.flt.ringBuilt = true) (notes : ∀ x ∈ s.flt.ring, x.clearedAt = none) :
    s.recordRaise k false = s.createRecord (s.raisedRecord k false) := by
  cases found : newestSlot (fun r => r.raises k) s.flt.ring with
  | none => exact recordRaise_new built found
  | some x =>
    obtain ⟨y, held, -, -⟩ := newestSlot_mem (i := x.1) (r := x.2) found
    have noNote : noteAt s.flt.ring x.1 = none := by
      unfold noteAt
      rw [held]
      exact notes y (List.mem_of_getElem? held)
    have apart : mergesInto x.2 (noteAt s.flt.ring x.1) false s.seconds = false := by
      rw [noNote]
      exact Bool.and_false _
    rw [recordRaise_found (i := x.1) (r := x.2) built found, apart]
    rfl

/-- R131: the new record of a key that enters the set. -/
theorem enterKey_creates (absent : s.isActive k = false) (built : s.flt.ringBuilt = true)
    (notes : ∀ x ∈ s.flt.ring, x.clearedAt = none) : (s.enterKey k).flt.ring = s.flt.ring.set (slotForNew s.flt.ring)
      ⟨some { s.raisedRecord k false with number := nextNumber s.flt.lastCreation }, none⟩ := by
  rw [(enterKey_flt absent).1, recordRaise_creates (s := s.withKey k) built notes]
  rfl

/-- R122, R136: the lockout with F08 that a bad lockout block makes. -/
structure MakesF08 (b c : State) : Prop where
  lockout : c.flt.lockout = some ⟨.f08, .startCheck, 0, b.minute⟩
  active : c.isActive .f08 = true
  counter : c.flt.resetCounter = 0
  decay : c.flt.decay = none
  service : c.dta.table.service = none
  blocks : StoreItem.lockout ∈ c.sto.dirty ∧ StoreItem.counters ∈ c.sto.dirty
  prt : b.isActive .f08 = false → c.prt = b.prt.post (.raised .f08)
  ring : b.isActive .f08 = false → (∀ x ∈ b.flt.ring, x.clearedAt = none) →
    c.flt.ring = b.flt.ring.set (slotForNew b.flt.ring)
      ⟨some { b.raisedRecord .f08 false with number := nextNumber b.flt.lastCreation }, none⟩

theorem handLockout_makesF08 (built : s.flt.ringBuilt = true) (bad : s.sto.nv.lockoutGood = false) (free : s.locked = false) :
    MakesF08 s s.handLockout := by
  have key := enterKey_enters s.lockoutLost.recordF08 .f08
  have active := enterKey_isActive s.lockoutLost.recordF08 .f08 .f08
  have dirty := enterKey_dirty s.lockoutLost.recordF08 .f08
  have prt := key.notice
  have ring := enterKey_creates (s := s.lockoutLost.recordF08) (k := .f08)
  have dta := key.touches.dta (by decide)
  have flt := key.flt
  rw [handLockout_makes bad free, makeF08_eq]
  have counters : StoreItem.counters ∈ s.lockoutLost.recordF08.sto.dirty := mem_markItem _ _
  generalize s.lockoutLost.recordF08.enterKey .f08 = c at *
  exact {
    lockout := (congrArg Flt.lockout flt).trans rfl
    active := active.trans (Bool.or_true _)
    counter := (congrArg Flt.resetCounter flt).trans rfl
    decay := (congrArg Flt.decay flt).trans rfl
    service := (congrArg (fun d : Dta => d.table.service) dta).trans rfl
    blocks := ⟨mem_markItem _ _, subset_markItem _ _ (dirty counters)⟩
    prt := fun absent => prt.trans (if_neg (by change ¬ s.isActive .f08 = true; rw [absent]; exact nofun))
    ring := fun absent notes => ring absent built notes }

/-- The record of a raise, as the first four steps of the hand-over find the part. -/
theorem readBlocks_raisedRecord (state : s.bsq.state = .startCheck) (k : FaultKey) : s.readBlocks.raisedRecord k false =
    { kind := .raised, key := k, source := none, seqState := .startCheck, flow := s.flow, rate := 0
      raiseStamp := s.readCounters.minutes, clearedStamp := none, count := 1, duringLockout := false, number := 0 } := by
  have read := readBlocks_reads s
  have minute := (readBlocks_finds s).2.2
  have bsq := read.touches.bsq (by decide)
  have flow : s.readBlocks.flow = s.flow := by
    unfold State.flow
    rw [read.ntc]
  generalize s.readBlocks = b at minute bsq flow
  have rate : b.reportedRate = 0 := by
    unfold State.reportedRate
    rw [bsq, state]
  unfold State.raisedRecord
  rw [minute, bsq, flow, rate, state]

theorem startup_makesF08 (on : s.powered = true) (awaited : s.sto.startup.isSome = true) (state : s.bsq.state = .startCheck)
    (free : s.locked = false) (good : s.sto.nv.combustionGood = true) (bad : s.sto.nv.lockoutGood = false) :
    ∃ u t, exec .startupReadsComplete s = .next t ∧ Follows u t
      ∧ u.flt.lockout = some ⟨.f08, .startCheck, 0, u.minute⟩ ∧ u.isActive .f08 = true ∧ u.bsq.state = .lockout
      ∧ u.flt.resetCounter = 0 ∧ u.flt.decay = none ∧ u.dta.table.service = none
      ∧ StoreItem.lockout ∈ u.sto.dirty ∧ StoreItem.counters ∈ u.sto.dirty
      ∧ (s.bsq.gasOpened = false → u.bsq.purgeLeft = 0 ∧ u.bsq.fanTarget = 0)
      ∧ (s.bsq.pendingCauses = [] → s.ocu.lines.limit = false → s.sto.nv.settingsGood = true → s.flt.early = [] →
          s.isActive .f08 = false → s.sto.nv.history.length = 32 →
          let ring := s.sto.nv.history.map fun x => (⟨handedSlot x, none⟩ : HistorySlot)
          u.prt = s.prt.post (.raised .f08)
          ∧ u.flt.ring[slotForNew ring]? = some ⟨some
              { kind := .raised, key := .f08, source := none, seqState := .startCheck, flow := s.flow, rate := 0
                raiseStamp := u.minute, clearedStamp := none, count := 1, duringLockout := false
                number := min 4294967295 (largest (s.sto.nv.records.map HistoryRecord.number) + 1) }, none⟩) := by
  obtain ⟨t, run, follows⟩ := exec_startup on awaited
  have read := readBlocks_reads s
  obtain ⟨nv, locked, minute⟩ := readBlocks_finds s
  have built : s.readBlocks.flt.ringBuilt = true := by rw [read.kept]
  have hands := handLockout_hands s.readBlocks built
  have makes := handLockout_makesF08 built (by rw [nv]; exact bad) (by rw [locked]; exact free)
  have record := readBlocks_raisedRecord state .f08
  have stays := started_held good (by unfold State.locked; rw [makes.lockout]; rfl)
  have finds := handedAll_finds s
  have closes := handedOver_closes s
  obtain ⟨active, lockout, counter, decay, -, -⟩ := closes.wrote.fields
  have dta := closes.wrote.touches.dta (by decide)
  have prt := closes.wrote.touches.prt (by decide)
  have marks := List.Subset.trans closes.marks (started_store s).1
  have now := started_minute s
  have early := hands.early
  generalize s.readBlocks.handLockout = c at makes closes active lockout counter decay dta prt marks early
  have present : s.started.isActive .f08 = c.isActive .f08 := isActive_of_active (by rw [stays.active, finds.flt, active]) .f08
  refine ⟨s.started, t, run, follows, ?_, present.trans makes.active, stays.state, ?_, ?_, ?_, marks makes.blocks.1,
    marks makes.blocks.2, fun still => ?_, fun pending limit settings none absent length => ⟨?_, ?_⟩⟩
  · rw [stays.lockout, finds.flt, lockout, makes.lockout, now, minute]
  · rw [stays.counter, finds.flt, counter, makes.counter]
  · rw [stays.decay, finds.flt, decay, makes.decay]
  · rw [stays.service, finds.dta, dta, makes.service]
  · exact stays.still (by rw [finds.bsq]; exact still)
  · rw [stays.prt, finds.prt, prt, makes.prt ?_, (read.good settings).2.2]
    rw [read.active, settings, absent]
    rfl
  · have waits : s.handedAll.waitingCauses = [] := by
      rw [finds.waits, waitingCauses_eq, pending, limit]
      rfl
    have absent' : s.readBlocks.isActive .f08 = false := by
      rw [read.active, settings, absent]
      rfl
    have ring := makes.ring absent' (by
      rw [read.kept]
      intro x m
      obtain ⟨y, -, rfl⟩ := List.mem_map.1 m
      rfl)
    obtain ⟨closed, -⟩ := closes.none (by rw [early, (read.good settings).2.1, none])
    rw [stays.flt waits, finds.flt, closed, List.getElem?_map, ring, record, now]
    rw [read.kept]
    dsimp only
    rw [List.getElem?_set_self (slotForNew_lt (by rw [List.length_map, length]; decide))]
    rfl

end Sys2Proof.Machine

/-! SUPPORT. STARTUP_READS_COMPLETE with a cause that waited in START-CHECK (R73, R123, R131). -/

namespace Sys2Proof.Machine

variable {s t u v : State} {j k : FaultKey} {n : Nat}

/-! ### A ring without a record of a key -/

/-- R131: a ring of 32 slots that holds no record of the key. -/
structure Unrecorded (k : FaultKey) (s : State) : Prop where
  length : s.flt.ring.length = 32
  only : RingOnly (fun r => r.key ≠ k) s.flt.ring

namespace Unrecorded

theorem congr (h : Unrecorded k s) (ring : t.flt.ring = s.flt.ring) : Unrecorded k t :=
  ⟨by rw [ring]; exact h.length, by rw [ring]; exact h.only⟩

theorem none (h : Unrecorded k s) : newestSlot (fun r => r.raises k) s.flt.ring = none := by
  cases found : newestSlot (fun r => r.raises k) s.flt.ring with
  | none => rfl
  | some x =>
    obtain ⟨y, held, record, raises⟩ := newestSlot_mem (i := x.1) (r := x.2) found
    have own := beq_iff_eq.1 (Bool.and_eq_true_iff.1 raises).2
    exact absurd own (h.only y (List.mem_of_getElem? held) x.2 record)

theorem recordRaise (h : Unrecorded k s) (other : j ≠ k) (during : Bool) : Unrecorded k (s.recordRaise j during) :=
  ⟨(recordRaise_ring_length s j during).trans h.length, recordRaise_ringOnly h.only (fun _ is => is) fun _ => other⟩

theorem enterKey (h : Unrecorded k s) (other : j ≠ k) : Unrecorded k (s.enterKey j) := by
  cases present : s.isActive j
  · have before : Unrecorded k (s.withKey j) := h.congr rfl
    exact (before.recordRaise other false).congr (congrArg Flt.ring (enterKey_flt present).1)
  · rw [(enterKey_enters s j).ignored present]
    exact h

theorem closeOpen (h : Unrecorded k s) : Unrecorded k s.closeOpen :=
  ⟨by rw [closeOpen_ring, List.length_map]; exact h.length, closeOpen_ringOnly h.only fun _ _ is => is⟩

theorem recordWaiting (h : Unrecorded k s) (other : ∀ e ∈ s.flt.early, e.key ≠ k) : Unrecorded k s.recordWaiting := by
  refine ⟨?_, recordWaiting_ringOnly h.only (fun _ _ is => is) fun e m _ _ => other e m⟩
  have one (v : State) (e : EarlyKey) : (v.recordEarly e).flt.ring.length = v.flt.ring.length := by
    unfold State.recordEarly
    dsimp only
    split
    · exact (fillCleared_ring_length _ _).trans (createRecord_ring_length _ _)
    · exact createRecord_ring_length _ _
  have all (l : List EarlyKey) (v : State) : (l.foldl State.recordEarly v).flt.ring.length = v.flt.ring.length := by
    induction l generalizing v with
    | nil => rfl
    | cons e rest ih => exact (ih _).trans (one v e)
  rw [recordWaiting_eq, all]
  exact h.length

theorem historyClosed (h : Unrecorded k s) (other : ∀ e ∈ s.flt.early, e.key ≠ k) : Unrecorded k s.historyClosed := by
  refine h.closeOpen.recordWaiting ?_
  rw [(closeOpen_flt s).1]
  exact other

theorem lockWith (h : Unrecorded k s) (free : s.locked = false) (other : j ≠ k) : Unrecorded k (s.lockWith j) := by
  have entered : Unrecorded k ((s.recordLockout j).enterKey j) := Unrecorded.enterKey (s := s.recordLockout j) (h.congr rfl) other
  have begins : s.raiseLocking j = s.beginLockout j := if_neg (by rw [free]; exact nofun)
  refine entered.congr ?_
  change (s.raiseLocking j).gotoLockout.flt.ring = _
  rw [(gotoLockout_endsFrom (s.raiseLocking j)).flt, begins, beginLockout_eq, (endTest_touches _ _).flt (by decide)]

end Unrecorded

/-- R123, R131: a locking key raised during a lockout takes a record of its own. -/
theorem raiseLocking_recorded (h : Unrecorded k s) (built : s.flt.ringBuilt = true) (locked : s.locked = true)
    (absent : s.isActive k = false) : RingHolds (fun r => r.key = k ∧ r.kind = .raised ∧ r.duringLockout = true
      ∧ r.clearedStamp = none) (s.raiseLocking k).flt.ring := by
  have raised : s.raiseLocking k = s.recordRaise k true := by
    unfold State.raiseLocking
    rw [if_pos locked, absent]
    rfl
  rw [raised, recordRaise_new built h.none]
  exact createRecord_ringHolds _ h.length fun _ => ⟨rfl, rfl, rfl, rfl⟩

/-- R73, R123: the second of two causes takes a record of its own as the first one locks out. -/
theorem lockWith_raises (h : Unrecorded k s) (free : s.locked = false) (notLockout : s.bsq.state ≠ .lockout)
    (built : s.flt.ringBuilt = true) (other : j ≠ k) (absent : s.isActive k = false) :
    RingHolds (fun r => r.key = k ∧ r.kind = .raised ∧ r.duringLockout = true ∧ r.clearedStamp = none)
      ((s.lockWith j).raiseLocking k).flt.ring := by
  refine raiseLocking_recorded (h.lockWith free other) ((lockWith_keepsStore s j).built.trans built) ?_ ?_
  · unfold State.locked
    rw [(lockWith_locksOut s j free notLockout).lockout]
    rfl
  · have begins : s.raiseLocking j = s.beginLockout j := if_neg (by rw [free]; exact nofun)
    have entered : (s.lockWith j).isActive k = (s.raiseLocking j).isActive k :=
      (gotoLockout_endsFrom (s.raiseLocking j)).isActive k
    rw [entered, begins, beginLockout_isActive, absent, beq_false_of_ne other.symm, Bool.or_false]

/-! ### The history and the keys as no lockout has been read -/

theorem waits_ne_a09 (c : PendingCause) : c.key ≠ .a09 := by cases c <;> exact nofun

theorem pendingKey_inj {c d : PendingCause} (other : d ≠ c) : d.key ≠ c.key := fun same =>
  other (by cases c <;> cases d <;> simp_all [PendingCause.key])

theorem readBlocks_unrecorded (length : s.sto.nv.history.length = 32) (records : ∀ r ∈ s.sto.nv.records, r.key ≠ k) :
    Unrecorded k s.readBlocks := by
  refine ⟨?_, ?_⟩
  · rw [(readBlocks_reads s).kept]
    exact (List.length_map _).trans length
  · rw [(readBlocks_reads s).kept]
    intro x m r record
    obtain ⟨y, held, rfl⟩ := List.mem_map.1 m
    exact records r (List.mem_filterMap.2 ⟨y, held, record⟩)

/-- R136: the part as a good lockout block that holds no lockout has been read. -/
theorem handedOver_stands (goodLockout : s.sto.nv.lockoutGood = true) (stored : s.sto.nv.lockout.contents.lockout = none) :
    s.handedOver = s.readBlocks.lockoutRead.historyClosed := by
  have nv := (readBlocks_finds s).1
  rw [handedOver_eq, handLockout_stands (by rw [nv]; exact goodLockout) (.inr (by rw [nv]; exact stored))]

/-- What START-CHECK ends with, where the blocks give no lockout. -/
structure StartsFree (s e : State) : Prop where
  locked : e.locked = s.locked
  active : ∀ j, e.isActive j = (s.isActive j || (!s.sto.nv.settingsGood && j == .a09))
  built : e.flt.ringBuilt = true
  counter : e.flt.resetCounter = s.sto.nv.lockout.contents.resetCounter
  decay : e.flt.decay = decayFor s.sto.nv.lockout.contents.resetCounter
  unrecorded : ∀ k, k ≠ .a09 → s.flt.early = [] → s.sto.nv.history.length = 32 → (∀ r ∈ s.sto.nv.records, r.key ≠ k) →
    Unrecorded k e

theorem handedAll_startsFree (goodLockout : s.sto.nv.lockoutGood = true) (stored : s.sto.nv.lockout.contents.lockout = none) :
    StartsFree s s.handedAll := by
  have read := readBlocks_reads s
  obtain ⟨nv, locked, -⟩ := readBlocks_finds s
  have built : s.readBlocks.lockoutRead.flt.ringBuilt = true := by
    change s.readBlocks.flt.ringBuilt = true
    rw [read.kept]
  have flt := (handedAll_finds s).flt
  rw [handedOver_stands goodLockout stored] at flt
  have closes := historyClosed_closed s.readBlocks.lockoutRead built
  obtain ⟨active, lockout, counter, decay, -, ringBuilt⟩ := closes.wrote.fields
  have unrecorded (k : FaultKey) := Unrecorded.historyClosed (k := k) (s := s.readBlocks.lockoutRead)
  generalize s.readBlocks.lockoutRead.historyClosed = d at *
  generalize s.handedAll = e at *
  exact {
    locked := by
      rw [← locked]
      unfold State.locked
      rw [flt, lockout]
      rfl
    active := fun j => by
      rw [← read.active]
      exact isActive_of_active (by rw [flt, active]; rfl) j
    built := by rw [flt, ringBuilt, built]
    counter := by
      rw [flt, counter, ← nv]
      rfl
    decay := by
      rw [flt, decay, ← nv]
      rfl
    unrecorded := fun k other none length records => by
      refine Unrecorded.congr (unrecorded k ((readBlocks_unrecorded length records).congr rfl) fun x m => ?_) (congrArg Flt.ring flt)
      rcases read.early x m with before | own
      · rw [none] at before
        exact absurd before List.not_mem_nil
      · rw [own]
        exact other.symm }

theorem startup_pending {c : PendingCause} {rest : List PendingCause} (on : s.powered = true)
    (awaited : s.sto.startup.isSome = true) (state : s.bsq.state = .startCheck) (free : s.locked = false)
    (good : s.sto.nv.combustionGood = true) (goodLockout : s.sto.nv.lockoutGood = true)
    (stored : s.sto.nv.lockout.contents.lockout = none)
    (waits : (if s.ocu.lines.limit = true ∧ .f04 ∉ s.bsq.pendingCauses then s.bsq.pendingCauses ++ [.f04] else s.bsq.pendingCauses)
      = c :: rest) :
    ∃ u t, exec .startupReadsComplete s = .next t ∧ Follows u t
      ∧ u.flt.lockout = some ⟨c.key, .startCheck, s.bsq.attempts, u.minute⟩ ∧ u.isActive c.key = true
      ∧ u.bsq.state = .lockout ∧ u.bsq.pendingCauses = []
      ∧ (s.bsq.gasOpened = false → u.bsq.purgeLeft = 0 ∧ u.bsq.fanTarget = 0)
      ∧ (∀ d ∈ rest, d ≠ c → u.isActive d.key = s.isActive d.key)
      ∧ (∀ d, rest = [d] → d ≠ c → s.isActive d.key = false → s.flt.early = [] → s.sto.nv.history.length = 32 →
          (∀ r ∈ s.sto.nv.records, r.key ≠ d.key) →
          ∃ x ∈ u.flt.ring, ∃ r, x.record = some r ∧ r.key = d.key ∧ r.kind = .raised ∧ r.duringLockout = true
            ∧ r.clearedStamp = none) := by
  obtain ⟨t, run, follows⟩ := exec_startup on awaited
  have finds := handedAll_finds s
  have starts := handedAll_startsFree goodLockout stored
  have now := started_minute s
  have ended := started_eq s
  rw [good] at ended
  generalize s.handedAll = e at *
  obtain ⟨all, locks⟩ := endStartCheck_pending (s := e) (c := c) (rest := rest) (by rw [starts.locked]; exact free)
    (by rw [finds.bsq]; exact state) (by rw [finds.waits, waitingCauses_eq]; exact waits)
  rw [← ended] at all locks
  have others (d : PendingCause) (other : d ≠ c) : s.started.isActive d.key = s.isActive d.key := by
    rw [locks.active, starts.active, beq_false_of_ne (waits_ne_a09 d), beq_false_of_ne (pendingKey_inj other), Bool.and_false,
      Bool.or_false, Bool.or_false]
  refine ⟨s.started, t, run, follows, ?_, ?_, locks.state, locks.pending, fun still => locks.still (by rw [finds.bsq]; exact still),
    fun d _ other => others d other, fun d only other absent none length records => ?_⟩
  · rw [locks.lockout, finds.bsq, finds.minute, state, now]
  · rw [locks.active, beq_self_eq_true, Bool.or_true]
  · have frame := checked_frame e
    have unrecorded : Unrecorded d.key e.checked := by
      rw [frame]
      exact (starts.unrecorded d.key (waits_ne_a09 d) none length records).congr rfl
    obtain ⟨i, x, r, held, record, is⟩ := lockWith_raises (j := c.key) unrecorded
      (by rw [frame]; exact starts.locked.trans free)
      (by rw [frame]; change e.bsq.state ≠ .lockout; rw [finds.bsq, state]; exact nofun)
      (by rw [frame]; exact starts.built) (pendingKey_inj other).symm
      (by rw [frame]; exact (starts.active d.key).trans (by rw [absent, beq_false_of_ne (waits_ne_a09 d), Bool.and_false]; rfl))
    rw [all, only]
    exact ⟨x, List.mem_of_getElem? held, r, record, is⟩

end Sys2Proof.Machine

/-! SUPPORT. STARTUP_READS_COMPLETE with every block good and nothing that locks out: IDLE (R73, R136, R149, R175, R176). -/

namespace Sys2Proof.Machine

variable {s t u v : State} {j k : FaultKey} {n : Nat}

theorem leftOpen_iff (r : HistoryRecord) :
    r.leftOpen = true ↔ r.kind = .raised ∧ keyClass r.key ≠ .locking ∧ r.clearedStamp = none := by
  simp only [HistoryRecord.leftOpen, Bool.and_eq_true, beq_iff_eq, bne_iff_ne, Option.isNone_iff_eq_none, and_assoc]

/-- R136: a slot of the store as it comes into the ring with its open record closed. -/
theorem closedSlot_handed (minute : Nat) (h : Option HistoryRecord) : closedSlot minute ⟨h, none⟩ = ⟨h.map fun r =>
    if r.kind = .raised ∧ keyClass r.key ≠ .locking ∧ r.clearedStamp = none then { r with clearedStamp := some minute } else r,
    none⟩ := by
  cases h with
  | none => rfl
  | some r =>
    unfold closedSlot
    dsimp only [Option.map_some]
    by_cases isOpen : r.leftOpen = true
    · rw [if_pos isOpen, if_pos ((leftOpen_iff r).1 isOpen)]
    · rw [if_neg isOpen, if_neg fun h => isOpen ((leftOpen_iff r).2 h)]

/-- R136: the slots whose records the hand-over closes are marked. -/
theorem historyClosed_marks {i : Nat} {x : HistorySlot} {r : HistoryRecord} (built : s.flt.ringBuilt = true)
    (held : s.flt.ring[i]? = some x) (record : x.record = some r) (isOpen : r.leftOpen = true) :
    StoreItem.slot i ∈ s.historyClosed.sto.dirty := by
  have built' : s.closeOpen.flt.ringBuilt = true := by
    rw [(closeOpen_flt s).1]
    exact built
  exact (recordWaiting_keeps s.closeOpen built').2 (closeOpen_marks held record isOpen)

/-- R149: what a slot takes of its setting at start-up. -/
theorem takeSettings_slot (s : State) (n : RoomSlot) : s.takeSettings.rlc.slots.get n
    = (s.rlc.slots.get n).start (s.readSettings.slots.get n) := by
  cases n <;> rfl

/-- R136: what the read of a good lockout block leaves. -/
theorem lockoutRead_leaves (s : State) : s.lockoutRead.flt.active = s.flt.active ∧ s.lockoutRead.flt.early = s.flt.early
    ∧ s.lockoutRead.flt.ring = s.flt.ring ∧ s.lockoutRead.prt = s.prt ∧ s.lockoutRead.minute = s.minute :=
  ⟨rfl, rfl, rfl, rfl, rfl⟩

/-- What the hand-over leaves and gives, where every block is good and none holds a lockout. -/
structure StartsGood (s e : State) : Prop where
  active : e.flt.active = s.flt.active
  conditions : e.flt.conditions = s.flt.conditions
  early : e.flt.early = []
  prt : e.prt = s.prt
  ring : s.flt.early = [] →
    e.flt.ring = s.sto.nv.history.map fun x => closedSlot s.readCounters.minutes ⟨handedSlot x, none⟩
  ntc : e.mfe.ntc.outdoor = outdoorRecord s.readSettings.outdoorFitted
  slots : ∀ n, e.rlc.slots.get n = (s.rlc.slots.get n).start (s.readSettings.slots.get n)

theorem handedAll_startsGood (settings : s.sto.nv.settingsGood = true) (goodLockout : s.sto.nv.lockoutGood = true)
    (stored : s.sto.nv.lockout.contents.lockout = none) : StartsGood s s.handedAll := by
  have read := readBlocks_reads s
  obtain ⟨sameActive, sameEarly, samePrt⟩ := read.good settings
  have minute := (readBlocks_finds s).2.2
  obtain ⟨readActive, readEarly, readRing, readPrt, readMinute⟩ := lockoutRead_leaves s.readBlocks
  have built : s.readBlocks.lockoutRead.flt.ringBuilt = true := by
    change s.readBlocks.flt.ringBuilt = true
    rw [read.kept]
  obtain ⟨-, -, flt, -, prt, -⟩ := handedAll_finds s
  have handed := handedOver_handed s
  have touches : Touches [.sto] s.handedOver s.handedAll := (handCombustion_hands s.handedOver).2.1
  have slots := takeSettings_slot s.handTrim
  have closes := historyClosed_closed s.readBlocks.lockoutRead built
  rw [← handedOver_stands goodLockout stored] at closes
  obtain ⟨active, -, -, -, conditions, -⟩ := closes.wrote.fields
  generalize s.handedOver = d at *
  generalize s.handedAll = e at *
  exact {
    active := by rw [flt, active, readActive, sameActive]
    conditions := by rw [flt, handed.conditions]
    early := by rw [flt, handed.early]
    prt := by rw [prt, closes.wrote.touches.prt (by decide), readPrt, samePrt]
    ring := fun none => by
      obtain ⟨ring, -⟩ := closes.none (by rw [readEarly, sameEarly, none])
      rw [flt, ring, readMinute, readRing, minute, read.kept]
      exact List.map_map
    ntc := by rw [touches.mfe (by decide), handed.ntc]
    slots := fun n => by
      rw [touches.rlc (by decide), handed.slots, slots]
      rfl }

theorem startup_idles (on : s.powered = true) (awaited : s.sto.startup.isSome = true) (trim : s.sto.nv.trimGood = true)
    (settings : s.sto.nv.settingsGood = true) (counters : s.sto.nv.countersGood = true) (goodLockout : s.sto.nv.lockoutGood = true)
    (good : s.sto.nv.combustionGood = true) (stored : s.sto.nv.lockout.contents.lockout = none) (free : s.locked = false)
    (pending : s.bsq.pendingCauses = []) (limit : s.ocu.lines.limit = false) :
    ∃ u t, exec .startupReadsComplete s = .next t ∧ Follows u t
      ∧ u.bsq.state = .idle ∧ u.locked = false
      ∧ u.sto.settings = s.sto.nv.settings.contents ∧ u.sto.table = s.sto.nv.combustion.contents
      ∧ u.sto.tableValid = true ∧ u.sto.trimGood = true ∧ u.sto.startup = none ∧ u.sto.nv = s.sto.nv
      ∧ (s.sto.reloadTrim = true → u.sto.trim = s.sto.nv.trim.contents) ∧ (s.sto.reloadTrim = false → u.sto.trim = s.sto.trim)
      ∧ u.sto.counters = { s.sto.nv.counters.contents with
          minutes := max s.sto.nv.counters.contents.minutes s.sto.nv.latestStamp }
      ∧ u.flt.active = s.flt.active ∧ u.flt.conditions = s.flt.conditions
      ∧ u.flt.resetCounter = s.sto.nv.lockout.contents.resetCounter
      ∧ u.flt.decay = (if s.sto.nv.lockout.contents.resetCounter = 0 then none else some 180000)
      ∧ u.flt.ringBuilt = true ∧ u.flt.early = [] ∧ u.prt = s.prt
      ∧ (s.flt.early = [] → u.flt.ring = s.sto.nv.history.map fun x => ⟨(handedSlot x).map fun r =>
          if r.kind = .raised ∧ keyClass r.key ≠ .locking ∧ r.clearedStamp = none then { r with clearedStamp := some u.minute }
          else r, none⟩)
      ∧ (∀ i x r, s.sto.nv.history[i]? = some x → handedSlot x = some r → r.kind = .raised → keyClass r.key ≠ .locking →
          r.clearedStamp = none → StoreItem.slot i ∈ u.sto.dirty)
      ∧ (ntcGet u.mfe.ntc .outdoor).status
          = (if s.sto.nv.settings.contents.outdoorFitted then NtcStatus.ok else NtcStatus.notFitted)
      ∧ (∀ n, (u.rlc.slots.get n).enable = (s.sto.nv.settings.contents.slots.get n).enable
          ∧ (u.rlc.slots.get n).zone = (s.sto.nv.settings.contents.slots.get n).zone
          ∧ (u.rlc.slots.get n).state
            = if (s.sto.nv.settings.contents.slots.get n).enable then .searching else .disabled) := by
  obtain ⟨t, run, follows⟩ := exec_startup on awaited
  have finds := handedAll_finds s
  have starts := handedAll_startsFree goodLockout stored
  have hands := handedAll_startsGood settings goodLockout stored
  have now := started_minute s
  have ended := started_eq s
  obtain ⟨marks, built, sto⟩ := started_store s
  have readCounters : s.readCounters = { s.sto.nv.counters.contents with
      minutes := max s.sto.nv.counters.contents.minutes s.sto.nv.latestStamp } := by
    unfold State.readCounters
    rw [if_pos counters, if_pos counters]
  have readSettings : s.readSettings = s.sto.nv.settings.contents := if_pos settings
  rw [readSettings] at sto
  have closed (i : Nat) (x : Stored (Option HistoryRecord)) (r : HistoryRecord) (held : s.sto.nv.history[i]? = some x)
      (record : handedSlot x = some r) (isOpen : r.leftOpen = true) : StoreItem.slot i ∈ s.handedOver.sto.dirty := by
    rw [handedOver_stands goodLockout stored]
    have read := readBlocks_reads s
    refine historyClosed_marks (s := s.readBlocks.lockoutRead) (x := ⟨handedSlot x, none⟩) ?_ ?_ record isOpen
    · change s.readBlocks.flt.ringBuilt = true
      rw [read.kept]
    · change s.readBlocks.flt.ring[i]? = _
      rw [read.kept]
      dsimp only
      rw [List.getElem?_map, held]
      rfl
  rw [good] at ended
  generalize s.handedAll = e at finds starts hands ended
  have idle : s.started = e.checked.goto .idle := ended.trans (endStartCheck_idle (starts.locked.trans free) (by
    rw [finds.waits, waitingCauses_eq, pending, limit]
    rfl))
  have frame := checked_frame e
  have ends := goto_endsFrom e.checked .idle
  have touches := goto_touches e.checked .idle
  have state := goto_state e.checked .idle
  rw [← idle] at ends touches state
  have flt : s.started.flt = e.flt := (touches.flt (by decide)).trans (by rw [frame])
  have prt : s.started.prt = e.prt := (touches.prt (by decide)).trans (by rw [frame])
  have rlc : s.started.rlc = e.rlc := (touches.rlc (by decide)).trans (by rw [frame])
  have ntc : s.started.mfe.ntc = e.mfe.ntc := by rw [ends.mfe, frame]
  have locked : s.started.locked = e.locked := by
    unfold State.locked
    rw [flt]
  refine ⟨s.started, t, run, follows, state, ?_, ?_, ?_, ?_, ?_, ?_, ?_, fun reload => ?_, fun keep => ?_, ?_, ?_, ?_, ?_, ?_, built,
    ?_, ?_, fun none => ?_, fun i x r held record raised blocking isOpen => ?_, ?_, fun n => ?_⟩
  · rw [locked, starts.locked, free]
  · rw [sto]
  · rw [sto]
    exact if_pos good
  · rw [sto]
    exact good
  · rw [sto]
    exact trim
  · rw [sto]
  · rw [sto]
  · rw [sto]
    exact (readTrim_reload reload).trans (if_pos trim)
  · rw [sto]
    exact readTrim_keep keep
  · rw [sto]
    exact readCounters
  · rw [flt, hands.active]
  · rw [flt, hands.conditions]
  · rw [flt, starts.counter]
  · rw [flt, starts.decay]
    rfl
  · rw [flt, hands.early]
  · rw [prt, hands.prt]
  · rw [flt, hands.ring none, now]
    exact List.map_congr_left fun x _ => closedSlot_handed _ _
  · exact marks (closed i x r held record ((leftOpen_iff r).2 ⟨raised, blocking, isOpen⟩))
  · rw [ntc]
    change e.mfe.ntc.outdoor.status = _
    rw [hands.ntc, readSettings]
    rfl
  · rw [rlc, hands.slots, readSettings]
    exact ⟨rfl, rfl, rfl⟩

/-- Settles O20, by the part as the start-up reads hand it over (`handedOver_handed`), and by the ends of START-CHECK. -/
theorem startupReadsLeadToIdleOrF09 : Obligations.StartupReadsLeadToIdleOrF09 := by
  unfold Obligations.StartupReadsLeadToIdleOrF09
  refine ⟨?_, ?_, ?_, ?_, ?_, ?_⟩
  · intro s on awaited _ trim settings counters lockout good stored free pending limit
    exact startup_idles on awaited trim settings counters lockout good stored free pending limit
  · intro s on awaited _ bad
    exact startup_badTable on awaited bad
  · intro s on awaited _
    exact startup_anyBlocks on awaited
  · intro s l on awaited _ free good lockout stored
    exact startup_restores on awaited free good lockout stored
  · intro s on awaited state free good bad
    exact startup_makesF08 on awaited state free good bad
  · intro s c rest on awaited state free good lockout stored waits
    exact startup_pending on awaited state free good lockout stored waits

end Sys2Proof.Machine
